-- ==== Sys2Proof/Word.lean ====
section
/-! DEFINITION. The plain words of the model: bytes, station and resource numbers, grant numbers, and the
lists of all numbers in ascending order. -/

namespace Sys2Proof

/-- A byte on the host port or on the coordination line. -/
abbrev Byte := BitVec 8

/-- A station number, 0 to 15 (spec 00, Conventions). -/
abbrev Station := Fin 16

/-- A resource number, 0 to 15 (spec 00, Conventions). -/
abbrev Resource := Fin 16

/-- A grant number: 16 bits; 1 to 65535 name a hold, 0 names none (spec 00, Terms; R8). -/
abbrev Grant := BitVec 16

/-- Station and resource numbers in ascending order. -/
def all16 : List (Fin 16) := [0, 1, 2, 3, 4, 5, 6, 7, 8, 9, 10, 11, 12, 13, 14, 15]

/-- Channel numbers in ascending order. -/
def all8 : List (Fin 8) := [0, 1, 2, 3, 4, 5, 6, 7]

end Sys2Proof
end

