-- ==== Sys2Proof/Config.lean ====
section
/-! DEFINITION. What the part fixes: capacities, limits and default values of the spec. The opaque
constants are free values: what the spec leaves open, nothing fixes (log entries 33 and 42). -/

namespace Sys2Proof.Config

/-- Reports the report queue holds (R186). -/
def reportCapacity : Nat := 16

/-- Notices the inbound queue holds (R154). -/
def inboundCapacity : Nat := 4

/-- Records the claim stack holds (R89). -/
def stackDepth : Nat := 4

/-- General places of the send queue (R124). -/
def generalPlaces : Nat := 5

/-- The veto streak at which a full inbound queue no longer vetoes (R155). -/
def vetoStreakLimit : Nat := 8

/-- The conflict count at which the station enters FAULT (R158). -/
def conflictLimit : Nat := 2

/-- The last attempt of a join or of a resynchronisation (R65, R83). -/
def lastAttempt : Nat := 2

/-- The most payload bytes a frame carries (R144). -/
def maxPayload : Nat := 60

/-- Milliseconds in one step of a parameter count (spec 02, section 2.2). -/
def stepMs : Nat := 10

/-- Lease term count after pin or power-on reset, 500 ms (R168, R195). -/
def defaultLeaseTerm : Byte := 50
/-- Grace count after pin or power-on reset, 100 ms (R168, R195). -/
def defaultGrace : Byte := 10
/-- Presence period count after pin or power-on reset, 50 ms (R168, R195). -/
def defaultPresence : Byte := 5
/-- Silence multiple after pin or power-on reset (R168, R195). -/
def defaultSilence : Byte := 4
/-- Resource count after pin or power-on reset (R168, R195). -/
def defaultCount : Byte := 16
/-- Retry limit after pin or power-on reset (R168, R195). -/
def defaultRetry : Byte := 8

/-- The nominal length of a line cell in nanoseconds (R141). -/
def cellNs : Nat := 2000

/-- What SDO carries while SEL, low at the release of RSTN, has not risen yet: driven with a value, or at high impedance.
A FREE VALUE: R163 gives SDO no value there (log entry 33). -/
opaque sdoBeforeRise : Option Bool

/-- Which of the details 0 to 3 (R180) the CUT carries of a channel that closes because this station's own LEAVE is
applied while it is MEMBER. A FREE VALUE: R114 gives this cause of closing no detail (log entry 42). -/
opaque leaveCutCode : BitVec 2

/-- That detail in a report's four bits. -/
def leaveCutDetail : BitVec 4 := leaveCutCode.setWidth 4

/-- The station number State.reset holds. DESIGN CHOICE (log entry 1), unsafe: the straps decide it. -/
def resetStation : Station := 0

end Sys2Proof.Config
end

