-- ==== Sys2Proof/Syntax.lean ====
section
/-! DEFINITION. The commands and events of the part, one constructor per row of spec/opcode_table.json. -/

namespace Sys2Proof

/-- A frame as a receiver samples it, from the cell after the start cell to the last cell before the gap cell
(R142, R144): the sampled values, 1 as true; for each of these cells the time in nanoseconds from the falling
edge before it to its own; and whether LINE was still low one whole cell after some falling edge. The veto is tested at
the veto cell's falling edge, and the frame is delivered at that cell's end (R151, R152, R155); the last two fields say
what this station has taken in between: whether JOIN, and how many notices out of its inbound queue (log entry 7). -/
structure RxFrame where
  bits : List Bool
  edges : List Nat
  stuckLow : Bool
  joinedSince : Bool := false
  appliedSince : Nat := 0
deriving DecidableEq, Repr

/-- The commands. Host port commands carry their operand bytes (spec 09); pins carry their number or levels; line
events about a frame carry the frame as received; the APPLY rows take the oldest notice of the inbound queue and so
carry nothing; expiries name their timer. -/
inductive Instr where
  -- host port commands (spec 09)
  | configure (leaseTerm grace presence silence count retry : Byte)
  | join
  | leave
  | claim (resource modePolicy : Byte)
  | release
  | renew
  | withdraw
  | readStatus
  | readStack
  | readEntry (resource : Byte)
  | readMembers
  | takeReport
  | setMask (value : BitVec 24)
  | reset
  | unknownCommandCode (code : Byte)
  -- resets (spec 11)
  | softReset
  | rstnAsserted
  | resetRelease (straps : BitVec 4)
  -- gate pins (spec 06)
  | ginAsserted (channel : Fin 8)
  | ginReleased (channel : Fin 8)
  -- line events (spec 07, 08)
  | offer
  | arbitrationLost
  | conflict
  | frameVetoed (frame : RxFrame)
  | frameDelivered (frame : RxFrame)
  | frameTruncated
  | lineIdle
  | lineBlocked
  | lineRestored
  -- applications of the oldest notice (spec 01, 02, 04)
  | applyClaim
  | applyRelease
  | applyWithdraw
  | applyLapse
  | applyRenew
  | applyJoin
  | applySync
  | applyFound
  | applyLeave
  | applyEvict
  | applyImage
  | applyPresence
  -- timer expiries (spec 03)
  | holdCountdownExpiry (resource : Resource) (holder : Station)
  | presenceTimerExpiry
  | silenceTimerExpiry (peer : Station)
  | joinWaitExpiry
  | foundWaitExpiry
  | imageWaitExpiry
  -- requests made again at a tick (spec 03, 04, 05, 11)
  | lapseAskedAgain (resource : Resource) (holder : Station)
  | evictAskedAgain (peer : Station)
  | presenceAskedAgain
  | foundAskedAgain
  | joinAskedAgain
  | syncAskedAgain
  | reconciliationRenewAsked
  | owedReleaseAsked
  | exhaustedLeaveAsked
  | owedWithdrawPlaced
  -- line (spec 08)
  | startCellSeen
deriving DecidableEq, Repr

end Sys2Proof
end

