-- ==== Sys2Proof/WellFormed.lean ====
section
/-! DEFINITION. Which commands are well-formed: what the operand types do not already say. -/

namespace Sys2Proof

/-- The command codes of the framing table (spec 09, Command framing; R164). -/
def assignedCodes : List Byte :=
  [0x10, 0x11, 0x12, 0x20, 0x21, 0x22, 0x23, 0x30, 0x31, 0x32, 0x33, 0x34, 0x40, 0x5A]

/-- Each sampled cell of a received frame has its edge time (R142). -/
def RxFrame.wf (f : RxFrame) : Bool := f.edges.length == f.bits.length

/-- A command is well-formed when an unknown code is one the framing table does not assign (R164), and a received
frame has an edge time for each sampled cell. Every other operand is admitted at every value of its type. -/
def Instr.wf : Instr → Bool
  | .unknownCommandCode code => !assignedCodes.contains code
  | .frameVetoed f => f.wf
  | .frameDelivered f => f.wf
  | _ => true

end Sys2Proof
end

