-- ==== Sys2Proof/Decode.lean ====
section
/-! DEFINITION. Which command a transaction's bytes carry on the host port (spec 09, Command framing; R164), and
decodeTableWord, which the table's rows give no bits for. -/

namespace Sys2Proof

/-- The operand bytes that follow a command code (spec 09, Command framing); an unknown code has none (R164). -/
def operandCount (code : Byte) : Nat :=
  if code = 0x10 then 6
  else if code = 0x20 then 2
  else if code = 0x32 then 1
  else if code = 0x40 then 3
  else 0

/-- The command that a code and its operand bytes carry; none where the number of operand bytes is not the code's. -/
def commandOf (code : Byte) (operands : List Byte) : Option Instr :=
  if code = 0x10 then
    match operands with
    | [a, b, c, d, e, f] => some (.configure a b c d e f)
    | _ => none
  else if code = 0x20 then
    match operands with
    | [r, mp] => some (.claim r mp)
    | _ => none
  else if code = 0x32 then
    match operands with
    | [r] => some (.readEntry r)
    | _ => none
  else if code = 0x40 then
    match operands with
    | [a, b, c] => some (.setMask (a ++ b ++ c))
    | _ => none
  else
    match operands with
    | [] =>
      if code = 0x11 then some .join
      else if code = 0x12 then some .leave
      else if code = 0x21 then some .release
      else if code = 0x22 then some .renew
      else if code = 0x23 then some .withdraw
      else if code = 0x30 then some .readStatus
      else if code = 0x31 then some .readStack
      else if code = 0x33 then some .readMembers
      else if code = 0x34 then some .takeReport
      else if code = 0x5A then some .reset
      else some (.unknownCommandCode code)
    | _ => none

/-- The command taken in a transaction whose SDI bytes are these complete bytes (R164): the first byte is the code,
the operands follow, and every later byte is ignored. none while the last operand byte has not arrived: SEL rising
then discards the partial command, which has no effect. -/
def commandTaken : List Byte → Option Instr
  | [] => none
  | code :: rest =>
    if rest.length < operandCount code then none else commandOf code (rest.take (operandCount code))

/-- The bytes of the transaction that carries a host port command; none for a row that is no host port command. -/
def transactionBytes : Instr → Option (List Byte)
  | .configure a b c d e f => some [0x10, a, b, c, d, e, f]
  | .join => some [0x11]
  | .leave => some [0x12]
  | .claim r mp => some [0x20, r, mp]
  | .release => some [0x21]
  | .renew => some [0x22]
  | .withdraw => some [0x23]
  | .readStatus => some [0x30]
  | .readStack => some [0x31]
  | .readEntry r => some [0x32, r]
  | .readMembers => some [0x33]
  | .takeReport => some [0x34]
  | .setMask v => some [0x40, v.extractLsb' 16 8, v.extractLsb' 8 8, v.extractLsb' 0 8]
  | .reset => some [0x5A]
  | .unknownCommandCode code => some [code]
  | _ => none

/-- No row of spec/opcode_table.json gives bits, so no word spells a command (log entry 34). -/
def decodeTableWord (_nbits _w : Nat) : Option Instr := none

end Sys2Proof
end

