-- ==== Sys2Proof/Machine/State.lean ====
section
/-! DEFINITION. The state of one station: its nine blocks (spec 00, Block diagram) as plain data, and the queue of
commands that wait. -/

namespace Sys2Proof.Machine

/-! ## Lease table (spec 01) -/

/-- SHARED or EXCLUSIVE. -/
inductive Mode where
  | shared
  | exclusive
deriving DecidableEq, Repr

/-- WAIT (queue if not grantable) or TRY (refuse if not grantable). -/
inductive Policy where
  | wait
  | tryOnce
deriving DecidableEq, Repr

/-- How an entry is held now (spec 01, section 1.1). -/
inductive EntryState where
  | free
  | shared
  | exclusive
deriving DecidableEq, Repr

/-- One station's lease on one resource. -/
structure Hold where
  station : Station
  mode : Mode
  grant : Grant
deriving DecidableEq, Repr

/-- One station's claim waiting in an entry's queue. -/
structure Waiter where
  station : Station
  mode : Mode
deriving DecidableEq, Repr

/-- The part of the lease table for one resource (R1): oldest grant first, first queued first. -/
structure Entry where
  state : EntryState
  counter : Grant
  holders : List Hold
  waiters : List Waiter
deriving DecidableEq, Repr

/-- A FREE entry with counter 0 and empty lists (R28). -/
def Entry.clear : Entry := { state := .free, counter := 0, holders := [], waiters := [] }

/-! ## Membership and parameters (spec 02) -/

/-- The five parameters as the counts and numbers carried on the line (spec 02, section 2.2). -/
structure Params where
  leaseTerm : Byte
  grace : Byte
  presence : Byte
  silence : Byte
  count : Byte
deriving DecidableEq, Repr

/-- The parameters proposed after pin or power-on reset (R195). -/
def Params.defaults : Params :=
  { leaseTerm := Config.defaultLeaseTerm, grace := Config.defaultGrace, presence := Config.defaultPresence,
    silence := Config.defaultSilence, count := Config.defaultCount }

/-- A pending image transfer: its attempt, and the image source when one could be chosen (R29). -/
structure Transfer where
  attempt : Fin 4
  source : Option Station
deriving DecidableEq, Repr

/-- A membership record (R29). An ABSENT record has no transfer fields. -/
inductive MemberRecord where
  | absent
  | joining (transfer : Option Transfer)
  | member (transfer : Option Transfer)
deriving DecidableEq, Repr

/-! ## Image transfer (spec 04) -/

/-- Part 16, or a resource part (R68). -/
inductive Part where
  | membership
  | resource (r : Resource)
deriving DecidableEq, Repr

/-- One image this station owes (R69). -/
structure TransferItem where
  target : Station
  attempt : Fin 4
  next : Part
deriving DecidableEq, Repr

/-- The image-pending state of a station in JOINING or RESYNC (R73). -/
structure ImagePending where
  attempt : Fin 4
  membershipInstalled : Bool
  installed : Vector Bool 16
  spoiled : Bool
deriving DecidableEq, Repr

/-- The content of an image part (R42, R68). -/
inductive PartContent where
  | membership (members : Vector MemberRecord 16) (params : Params)
  | resource (r : Resource) (entry : Entry)
deriving DecidableEq, Repr

/-- The table unit (spec 00, Block diagram). -/
structure TableUnit where
  entries : Vector Entry 16
  members : Vector MemberRecord 16
  bank : Option Params
  transfers : List TransferItem
  imagePending : Option ImagePending
deriving DecidableEq, Repr

/-- The table unit after any reset (R28, R30, R69, R73). -/
def TableUnit.clear : TableUnit :=
  { entries := Vector.replicate 16 Entry.clear, members := Vector.replicate 16 .absent, bank := none,
    transfers := [], imagePending := none }

/-! ## Timers (spec 03) -/

/-- A timer (R48). running 0 is a timer whose time has run out at the last tick and whose expiry is taken next. -/
inductive Timer where
  | stopped
  | running (ms : Nat)
  | expired
deriving DecidableEq, Repr

/-- The countdown of one hold (R50). -/
structure Countdown where
  resource : Resource
  holder : Station
  grant : Grant
  timer : Timer
deriving DecidableEq, Repr

/-- The timer unit (R48). A silence timer that is not kept stands as stopped. -/
structure TimerUnit where
  countdowns : List Countdown
  presence : Timer
  silence : Vector Timer 16
  joinWait : Timer
  foundWait : Timer
  foundRank : Nat
  imageWait : Timer
deriving DecidableEq, Repr

/-- The timer unit after any reset (R49). -/
def TimerUnit.clear : TimerUnit :=
  { countdowns := [], presence := .stopped, silence := Vector.replicate 16 .stopped, joinWait := .stopped,
    foundWait := .stopped, foundRank := 0, imageWait := .stopped }

/-! ## Notices (spec 08) -/

/-- The payload of a notice, by kind (R146). Field values that fit their field are kept as carried: whether they are
in range is decided when the notice is applied. -/
inductive Payload where
  | image (target : Station) (attempt : Fin 4) (last : Bool) (content : PartContent)
  | found (params : Params)
  | evict (target : Byte)
  | lapse (resource holder : Byte) (grant : Grant)
  | release (resource : Byte) (grant : Grant)
  | withdraw (resource : Byte)
  | leave
  | renew (items : List (Byte × Grant))
  | claim (resource : Byte) (mode policy : BitVec 4)
  | join (attempt : Byte) (params : Params)
  | sync (attempt : Byte)
  | presence (valid : Bool) (digest : BitVec 16)
deriving DecidableEq, Repr

/-- A notice: the kind and payload, and the sender in the arbitration field (R144). -/
structure Notice where
  sender : Station
  body : Payload
deriving DecidableEq, Repr

/-! ## Send queue (spec 07) -/

/-- Kind and fixed fields of a queued frame (R123). -/
inductive QBody where
  | image (target : Station) (attempt : Fin 4) (part : Part)
  | found (params : Params)
  | evict (target : Station)
  | lapse (resource : Resource) (holder : Station) (grant : Grant)
  | release (resource : Resource) (grant : Grant)
  | withdraw (resource : Resource)
  | leave
  | renew
  | claim (resource : Resource) (mode : Mode) (policy : Policy)
  | join (attempt : Fin 4) (params : Params)
  | sync (attempt : Fin 4)
  | presence
deriving DecidableEq, Repr

/-- The place a frame occupies (R124). -/
inductive Place where
  | hostSlot
  | image
  | presence
  | general
deriving DecidableEq, Repr

/-- Queued, or on the line with the content built at the offer (R123, R129). -/
inductive Phase where
  | queued
  | onLine (content : Payload)
deriving DecidableEq, Repr

/-- A frame of the send queue (R123). Its entry order is its position in the queue's list. -/
structure QFrame where
  body : QBody
  place : Place
  retries : Nat
  hostMark : Bool
  phase : Phase
deriving DecidableEq, Repr

/-- The send queue: its frames in entry order, and the frame of this station that has been delivered and is not yet
applied here, which still holds the host slot or the image place (R125, R126, R130). -/
structure SendQueue where
  frames : List QFrame
  awaiting : Option QFrame
deriving DecidableEq, Repr

/-- The empty send queue (R123). -/
def SendQueue.clear : SendQueue := { frames := [], awaiting := none }

/-! ## Claim stack (spec 05) -/

/-- What a WITHDRAWING record waits for (R88). -/
inductive WithdrawForm where
  | claimOutstanding
  | withdrawOwed
deriving DecidableEq, Repr

/-- The state of a record, with the fields present in it (R88). A RELEASING record says whether it was entered from
WITHDRAWING (R97). -/
inductive RecordState where
  | sending
  | waiting
  | withdrawing (form : WithdrawForm)
  | held (grant : Grant) (renewalPending : Bool)
  | expired (grant : Grant)
  | releasing (grant : Grant) (fromWithdrawing : Bool)
  | lapsed (grant : Grant)
deriving DecidableEq, Repr

/-- A record of the claim stack (R88). -/
structure Record where
  resource : Resource
  mode : Mode
  policy : Policy
  state : RecordState
deriving DecidableEq, Repr

/-! ## Gate unit (spec 06) -/

/-- A select channel: its flags (R112), and whether its input pin GINn is asserted (low). -/
structure Channel where
  opened : Bool
  armed : Bool
  ginLow : Bool
deriving DecidableEq, Repr

/-! ## Line unit (spec 08) -/

/-- The four line states (R143). -/
inductive LineState where
  | idle
  | receiving
  | sending
  | blocked
deriving DecidableEq, Repr

/-- The line unit and its inbound queue, oldest notice first (R143, R154, R155, R158). The line state is absent in
FAULT and while the station is held in reset (R162). -/
structure LineUnit where
  state : Option LineState
  frameInHand : Bool
  conflictPending : Bool
  vetoStreak : Nat
  conflictCount : Nat
  inbound : List Notice
deriving DecidableEq, Repr

/-- The line unit after any reset (R162). -/
def LineUnit.afterReset : LineUnit :=
  { state := some .receiving, frameInHand := false, conflictPending := false, vetoStreak := 0, conflictCount := 0,
    inbound := [] }

/-- The line unit in FAULT and while RSTN is low: it keeps nothing (R162). -/
def LineUnit.off : LineUnit := { LineUnit.afterReset with state := none }

/-! ## Host port (spec 09, 10) -/

/-- The nineteen report kinds (R180). -/
inductive ReportKind where
  | granted | refused | released | lapsed | withdrawn | sendFailed | cut | denied | member | left | evicted
  | resyncBegun | resyncDone | joinFailed | peerJoined | peerGone | lineBlocked | lineRestored | fault
deriving DecidableEq, Repr

/-- A report (R186). A field the kind does not carry is 0 (R190). -/
structure Report where
  kind : ReportKind
  subject : Fin 16
  grant : Grant
  detail : BitVec 4
deriving DecidableEq, Repr

/-- The serial pins' side of the host port (R163): whether the input pin SEL is asserted (low); whether SEL was low at
the release of RSTN and has not risen since; and, of the transaction in progress, the bits sampled from SDI, which give
the bit and byte position and the operand bytes received so far, and how many falling edges of SCK it has seen, which
give the position of SDO. -/
structure SerialPins where
  selLow : Bool
  waitsForRise : Bool
  sampled : List Bool
  falls : Nat
deriving DecidableEq, Repr

/-- SEL at this level and no transaction in progress; waits says that SEL must rise first (R163). -/
def SerialPins.idle (selLow waits : Bool) : SerialPins :=
  { selLow := selLow, waitsForRise := waits, sampled := [], falls := 0 }

/-- The host port: report queue oldest first, lost flag, mask (R186, R188, R191), the response of the command last
taken (R165), whether RESET has been taken and SEL has not risen since (R182), and the serial pins (R163). -/
structure HostPort where
  reports : List Report
  lost : Bool
  mask : BitVec 19
  response : List Byte
  resetArmed : Bool
  serial : SerialPins
deriving DecidableEq, Repr

/-- The host port after pin or power-on reset: nothing queued, every kind enabled (R193), no transaction in progress; a
SEL that is low must rise before the next one (R163). -/
def HostPort.afterPinReset (selLow : Bool) : HostPort :=
  { reports := [], lost := false, mask := BitVec.allOnes 19, response := [], resetArmed := false,
    serial := .idle selLow selLow }

/-! ## Station controller (spec 11) -/

/-- The seven station states (R195). -/
inductive StationState where
  | offline
  | ready
  | joining
  | member
  | leaving
  | resync
  | fault
deriving DecidableEq, Repr

/-- The station controller (R195), and whether the station is held in reset (R196). -/
structure Controller where
  inReset : Bool
  station : StationState
  number : Station
  proposed : Params
  retryLimit : Byte
  exhausted : Bool
deriving DecidableEq, Repr

/-- The state of the station, block by block, and the commands that wait, first in, first out. -/
structure State where
  ctl : Controller
  table : TableUnit
  timer : TimerUnit
  sendq : SendQueue
  stack : List Record
  gate : Vector Channel 8
  line : LineUnit
  port : HostPort
  pending : List Instr
deriving DecidableEq, Repr

/-- Why the machine stops. The part never stops: FAULT is one of its station states (R205). No meaning raises this
fault; it stands here because a machine's fault type has a name for every stop. Safe. -/
inductive Fault where
  /-- Raised by no command. Safe. -/
  | neverRaised
deriving DecidableEq, Repr

/-- Why a command has no meaning. -/
inductive Refusal where
  /-- Raised by exec for a row that has no meaning yet; no arm raises it. Safe. -/
  | notModelled (mnemonic : String)
  /-- Raised by UNKNOWN_COMMAND_CODE for a code that the framing table assigns: the term is no command of the spec
  (R164). Safe. -/
  | assignedCode (code : Byte)
deriving DecidableEq, Repr

/-- The station right after the release of a pin or power-on reset (R196): OFFLINE, everything at its pin-reset value.
The station number and the levels of GIN and SEL are DESIGN CHOICES (log entries 1 and 2). -/
def State.reset : State :=
  { ctl := { inReset := false, station := .offline, number := Config.resetStation, proposed := Params.defaults,
             retryLimit := Config.defaultRetry, exhausted := false },
    table := TableUnit.clear,
    timer := TimerUnit.clear,
    sendq := SendQueue.clear,
    stack := [],
    gate := Vector.replicate 8 { opened := false, armed := false, ginLow := false },
    line := LineUnit.afterReset,
    port := HostPort.afterPinReset false,
    pending := [] }

end Sys2Proof.Machine
end

