-- ==== Sys2Proof/Machine/Operands.lean ====
section
/-! DEFINITION. The operand forms: parameter ranges and defaults, mode and policy nibbles, resource and station bytes,
attempts (spec 02, 08, 09). -/

namespace Sys2Proof.Machine

/-- Each of the five values within its range (spec 02, section 2.2; R31). -/
def Params.inRange (p : Params) : Bool :=
  decide (1 ≤ p.leaseTerm.toNat) && decide (1 ≤ p.grace.toNat) &&
    decide (1 ≤ p.presence.toNat) && decide (p.presence.toNat ≤ 64) &&
    decide (3 ≤ p.silence.toNat) && decide (p.silence.toNat ≤ 15) &&
    decide (1 ≤ p.count.toNat) && decide (p.count.toNat ≤ 16)

/-- A CONFIGURE operand with 00h replaced by its default (R168). -/
def orDefault (operand default : Byte) : Byte := if operand = 0 then default else operand

/-- The five parameters that CONFIGURE's operands select (R168). -/
def Params.ofOperands (leaseTerm grace presence silence count : Byte) : Params :=
  { leaseTerm := orDefault leaseTerm Config.defaultLeaseTerm,
    grace := orDefault grace Config.defaultGrace,
    presence := orDefault presence Config.defaultPresence,
    silence := orDefault silence Config.defaultSilence,
    count := orDefault count Config.defaultCount }

/-- A retry limit within its range, 1 to 15 (R168). -/
def retryInRange (limit : Byte) : Bool := decide (1 ≤ limit.toNat) && decide (limit.toNat ≤ 15)

/-- The mode a nibble names: 1 SHARED, 2 EXCLUSIVE (R146, R171). -/
def Mode.ofNibble (n : BitVec 4) : Option Mode :=
  if n = 1 then some .shared else if n = 2 then some .exclusive else none

/-- The policy a nibble names: 1 WAIT, 2 TRY (R146, R171). -/
def Policy.ofNibble (n : BitVec 4) : Option Policy :=
  if n = 1 then some .wait else if n = 2 then some .tryOnce else none

/-- The nibble of a mode (R146). -/
def Mode.nibble : Mode → BitVec 4
  | .shared => 1
  | .exclusive => 2

/-- The nibble of a policy (R146). -/
def Policy.nibble : Policy → BitVec 4
  | .wait => 1
  | .tryOnce => 2

/-- The mode bit of a holder or waiter byte and of a record: 0 SHARED, 1 EXCLUSIVE (R147, R176). -/
def Mode.bit : Mode → BitVec 1
  | .shared => 0
  | .exclusive => 1

/-- The detail of GRANTED: 0 SHARED, 1 EXCLUSIVE (R111). -/
def Mode.detail : Mode → BitVec 4
  | .shared => 0
  | .exclusive => 1

/-- The station or resource a byte names; none above 15 (R146). -/
def number16 (b : Byte) : Option (Fin 16) := if h : b.toNat < 16 then some ⟨b.toNat, h⟩ else none

/-- The attempt a byte names; none above 2 (R35, R37). -/
def attemptOf (b : Byte) : Option (Fin 4) :=
  if b = 0 then some 0 else if b = 1 then some 1 else if b = 2 then some 2 else none

/-- The byte that names a station or resource. -/
def numberByte (n : Fin 16) : Byte := BitVec.ofNat 8 n.val

/-- The number four bits hold. -/
def nibbleNumber (b : BitVec 4) : Fin 16 := b.toFin

end Sys2Proof.Machine
end

