-- ==== Sys2Proof/Machine/Codec.lean ====
section
/-! DEFINITION. The coordination line's frame layout, payloads and image contents, the check, and the receive errors
that a frame's bits show (spec 08, R141 to R147, R150). -/

namespace Sys2Proof.Machine

/-! ## Bits and the check -/

/-- The bits of a field, most significant first (R141). -/
def fieldBits {w : Nat} (v : BitVec w) : List Bool := (List.range w).map v.getMsbD

/-- The number whose bits, most significant first, are these. -/
def bitsNat (bits : List Bool) : Nat := bits.foldl (fun n b => 2 * n + b.toNat) 0

/-- One shift of the check register with generator x^16 + x^12 + x^5 + 1 (R145). -/
def crcShift (c : BitVec 16) (b : Bool) : BitVec 16 :=
  if c.msb != b then (c <<< 1) ^^^ 0x1021 else c <<< 1

/-- The check over bits in the order they are sent, from FFFFh (R145). -/
def crcBits (bits : List Bool) : BitVec 16 := bits.foldl crcShift 0xFFFF

/-- The bits of bytes in the order they are sent. -/
def byteBits (bytes : List Byte) : List Bool := bytes.flatMap fieldBits

/-- Bits taken eight at a time as bytes; an incomplete last byte is left out. -/
def bytesOfBits : List Bool → List Byte
  | a :: b :: c :: d :: e :: f :: g :: h :: rest =>
    BitVec.ofNat 8 (bitsNat [a, b, c, d, e, f, g, h]) :: bytesOfBits rest
  | _ => []

/-- The high byte of a two-byte number, sent first. -/
def hiByte (v : BitVec 16) : Byte := v.extractLsb' 8 8

/-- The low byte of a two-byte number. -/
def loByte (v : BitVec 16) : Byte := v.extractLsb' 0 8

/-- A two-byte number, most significant byte first. -/
def twoBytes (v : BitVec 16) : List Byte := [hiByte v, loByte v]

/-- A number in the high nibble of a byte. -/
def highNibble (n : Fin 16) : BitVec 4 := BitVec.ofNat 4 n.val

/-! ## Contents of image parts (R147) -/

/-- The five parameters, one byte each (R146). -/
def Params.bytes (p : Params) : List Byte := [p.leaseTerm, p.grace, p.presence, p.silence, p.count]

/-- A set of stations: station 15 in the most significant bit, station 0 in the least (R147). -/
def stationSet (f : Station → Bool) : BitVec 16 :=
  BitVec.ofNat 16 (bitsNat (all16.reverse.map f))

/-- A record in state MEMBER. -/
def MemberRecord.isMember : MemberRecord → Bool
  | .member _ => true
  | _ => false

/-- A record in state JOINING. -/
def MemberRecord.isJoining : MemberRecord → Bool
  | .joining _ => true
  | _ => false

/-- A record in state ABSENT. -/
def MemberRecord.isAbsent : MemberRecord → Bool
  | .absent => true
  | _ => false

/-- The transfer fields of a record (R29). -/
def MemberRecord.transfer : MemberRecord → Option Transfer
  | .absent => none
  | .joining t => t
  | .member t => t

/-- A pending-transfer item: station, attempt, source-present flag, then the source or 00h (R147). -/
def transferBytes (s : Station) (t : Transfer) : List Byte :=
  [(highNibble s) ++ (BitVec.ofNat 2 t.attempt.val) ++ (BitVec.ofBool t.source.isSome) ++ (0 : BitVec 1),
   match t.source with
   | some u => (highNibble u) ++ (0 : BitVec 4)
   | none => 0]

/-- The pending transfers in ascending station number. -/
def pendingTransfers (members : Vector MemberRecord 16) : List (Station × Transfer) :=
  all16.filterMap fun s => (members[s].transfer).map fun t => (s, t)

/-- Count and items of the pending transfers (R147, R178). -/
def transfersBytes (members : Vector MemberRecord 16) : List Byte :=
  BitVec.ofNat 8 (pendingTransfers members).length ::
    (pendingTransfers members).flatMap fun st => transferBytes st.1 st.2

/-- Member set, then joining set (R147). -/
def setsBytes (members : Vector MemberRecord 16) : List Byte :=
  twoBytes (stationSet fun s => members[s].isMember) ++ twoBytes (stationSet fun s => members[s].isJoining)

/-- The content of a membership part (R147). -/
def membershipBytes (members : Vector MemberRecord 16) (params : Params) : List Byte :=
  setsBytes members ++ params.bytes ++ transfersBytes members

/-- The state code of a resource part (R147). -/
def EntryState.code : EntryState → BitVec 2
  | .free => 0
  | .shared => 1
  | .exclusive => 2

/-- A byte of station and mode (R147). -/
def stationModeByte (s : Station) (m : Mode) : Byte := (highNibble s) ++ (0 : BitVec 3) ++ m.bit

/-- A holder: station and mode, then the grant number (R147). -/
def holdBytes (h : Hold) : List Byte := stationModeByte h.station h.mode :: twoBytes h.grant

/-- The content of a resource part (R147), also the data of READ ENTRY (R177). -/
def entryBytes (e : Entry) : List Byte :=
  (e.state.code ++ (0 : BitVec 1) ++ BitVec.ofNat 5 e.holders.length) :: twoBytes e.counter ++
    e.holders.flatMap holdBytes ++
    BitVec.ofNat 8 e.waiters.length :: e.waiters.map fun w => stationModeByte w.station w.mode

/-! ## The laws of one entry (R2, R3, R8, R12), as the line unit tests a resource part -/

/-- The first waiter is grantable under the present holders when the entry is FREE, or SHARED with the first waiter
asking for SHARED (R12). -/
def Entry.promotable (e : Entry) (m : Mode) : Bool :=
  match e.state with
  | .free => true
  | .shared => decide (m = .shared)
  | .exclusive => false

/-- The state follows the holders list (R2). -/
def Entry.stateAgrees (e : Entry) : Bool :=
  match e.state with
  | .free => e.holders.isEmpty
  | .exclusive => decide (e.holders.length = 1) && e.holders.all fun h => decide (h.mode = .exclusive)
  | .shared => !e.holders.isEmpty && e.holders.all fun h => decide (h.mode = .shared)

/-- The station numbers of the holders, then of the waiters. -/
def Entry.stations (e : Entry) : List Station := e.holders.map (·.station) ++ e.waiters.map (·.station)

/-- The laws of one entry: the state agrees with the holders (R2); no station stands in it twice (R3); grant numbers
are not 0 and no two holders share one (R8); its first waiter is not grantable under the holders (R12). -/
def Entry.lawful (e : Entry) : Bool :=
  e.stateAgrees && decide e.stations.Nodup &&
    e.holders.all (fun h => decide (h.grant ≠ 0)) && decide (e.holders.map (·.grant)).Nodup &&
    (match e.waiters with
     | [] => true
     | w :: _ => !e.promotable w.mode)

/-! ## The laws of one membership record (R29, R34, R37), as the line unit tests a membership part -/

/-- A record of station s that R29 allows: JOINING always with an attempt; attempts 0 to 2; a source that R34 can
choose, so never s itself; and none missing in a MEMBER record, whose SYNC leaves no transfer where no source is found
(R37). -/
def MemberRecord.lawful (s : Station) : MemberRecord → Bool
  | .absent => true
  | .joining none => false
  | .joining (some t) => decide (t.attempt.val ≤ Config.lastAttempt) && decide (t.source ≠ some s)
  | .member none => true
  | .member (some t) =>
    decide (t.attempt.val ≤ Config.lastAttempt) && t.source.isSome && decide (t.source ≠ some s)

/-- Every record is one that R29 allows. -/
def membersLawful (members : Vector MemberRecord 16) : Bool := all16.all fun s => members[s].lawful s

/-! ## Payloads (R146) -/

/-- The part number of a part (R68). -/
def Part.number : Part → Byte
  | .membership => 16
  | .resource r => numberByte r

/-- The part a content is of. -/
def PartContent.part : PartContent → Part
  | .membership _ _ => .membership
  | .resource r _ => .resource r

/-- The content bytes of a part (R147). -/
def PartContent.bytes : PartContent → List Byte
  | .membership members params => membershipBytes members params
  | .resource _ e => entryBytes e

/-- The kind code of a notice (R146). -/
def Payload.kind : Payload → BitVec 4
  | .image .. => 0
  | .found .. => 1
  | .evict .. => 2
  | .lapse .. => 3
  | .release .. => 4
  | .withdraw .. => 5
  | .leave => 6
  | .renew .. => 7
  | .claim .. => 8
  | .join .. => 9
  | .sync .. => 10
  | .presence .. => 11

/-- The payload bytes of a notice (R146). -/
def Payload.bytes : Payload → List Byte
  | .image t a last c =>
    ((highNibble t) ++ (BitVec.ofNat 2 a.val) ++ (BitVec.ofBool last) ++ (0 : BitVec 1)) :: c.part.number :: c.bytes
  | .found p => p.bytes
  | .evict t => [t]
  | .lapse r h g => r :: h :: twoBytes g
  | .release r g => r :: twoBytes g
  | .withdraw r => [r]
  | .leave => []
  | .renew items => BitVec.ofNat 8 items.length :: items.flatMap fun i => i.1 :: twoBytes i.2
  | .claim r m p => [r, m ++ p]
  | .join a p => a :: p.bytes
  | .sync a => [a]
  | .presence valid digest => (if valid then 1 else 0) :: twoBytes digest

/-! ## Reading payloads: none is a receive error (R146, R147, R150) -/

/-- A two-byte number from its bytes. -/
def ofTwoBytes (hi lo : Byte) : BitVec 16 := hi ++ lo

/-- The station in bits 7 to 4 of a byte. -/
def stationOf (b : Byte) : Station := (b.extractLsb' 4 4).toFin

/-- The attempt in bits 3 and 2 of a byte. -/
def attemptBits (b : Byte) : Fin 4 := (b.extractLsb' 2 2).toFin

/-- The mode in bit 0 of a holder or waiter byte. -/
def modeOfBit (b : Byte) : Mode := if b.getLsbD 0 then .exclusive else .shared

/-- n holders of three bytes each, and the bytes that follow. -/
def readHolders : Nat → List Byte → Option (List Hold × List Byte)
  | 0, bs => some ([], bs)
  | n + 1, b :: hi :: lo :: bs =>
    match readHolders n bs with
    | some (hs, rest) => some ({ station := stationOf b, mode := modeOfBit b, grant := ofTwoBytes hi lo } :: hs, rest)
    | none => none
  | _ + 1, _ => none

/-- The state a code names; code 3 is a receive error (R147). -/
def EntryState.ofCode (c : BitVec 2) : Option EntryState :=
  if c = 0 then some .free else if c = 1 then some .shared else if c = 2 then some .exclusive else none

/-- The entry a resource part carries; none is a receive error: wrong length, a count above 16, a state code of 3, or
an entry that breaks the laws of the lease table (R147). -/
def readEntryBytes : List Byte → Option Entry
  | b :: chi :: clo :: rest =>
    match EntryState.ofCode (b.extractLsb' 6 2), readHolders (b.extractLsb' 0 5).toNat rest with
    | some st, some (hs, w :: ws) =>
      let e : Entry :=
        { state := st, counter := ofTwoBytes chi clo, holders := hs,
          waiters := ws.map fun x => { station := stationOf x, mode := modeOfBit x } }
      if (b.extractLsb' 0 5).toNat ≤ 16 ∧ w.toNat ≤ 16 ∧ ws.length = w.toNat ∧ hs.length + ws.length ≤ 16 ∧ e.lawful
      then some e else none
    | _, _ => none
  | _ => none

/-- The pending-transfer items of a membership part, two bytes each. Where the source-present flag is clear the second byte,
sent as 00h, is not looked at (R147; log entry 43). -/
def readTransfers : Nat → List Byte → Option (List (Station × Transfer))
  | 0, [] => some []
  | n + 1, b :: c :: bs =>
    match readTransfers n bs with
    | some ts =>
      some ((stationOf b,
        { attempt := attemptBits b, source := if b.getLsbD 1 then some (stationOf c) else none }) :: ts)
    | none => none
  | _, _ => none

/-- The items stand in ascending station number, so that no station has two (R147). -/
def ascending : List (Station × Transfer) → Bool
  | a :: b :: rest => decide (a.1 < b.1) && ascending (b :: rest)
  | _ => true

/-- The transfer a list of items gives a station. -/
def itemOf (items : List (Station × Transfer)) (s : Station) : Option Transfer :=
  (items.find? fun i => decide (i.1 = s)).map (·.2)

/-- The membership table of a member set, a joining set and the pending transfers (R42). -/
def membersOf (memberSet joiningSet : BitVec 16) (items : List (Station × Transfer)) : Vector MemberRecord 16 :=
  Vector.ofFn fun s : Fin 16 =>
    if memberSet.getLsbD s.val then .member (itemOf items s)
    else if joiningSet.getLsbD s.val then .joining (itemOf items s)
    else .absent

/-- The table and parameters a membership part carries; none is a receive error: wrong length, a count above 16, a
station in both sets, an item for a station in neither set, items out of ascending order, or a record that no table
keeping the laws of the membership table holds (R29, R147; log entry 30). -/
def readMembershipBytes : List Byte → Option (Vector MemberRecord 16 × Params)
  | mhi :: mlo :: jhi :: jlo :: a :: b :: c :: d :: e :: n :: rest =>
    match readTransfers n.toNat rest with
    | some items =>
      let ms := ofTwoBytes mhi mlo
      let js := ofTwoBytes jhi jlo
      if n.toNat ≤ 16 ∧ ms &&& js = 0 ∧ ascending items ∧
          items.all (fun i => (ms ||| js).getLsbD i.1.val) ∧ membersLawful (membersOf ms js items)
      then some (membersOf ms js items, { leaseTerm := a, grace := b, presence := c, silence := d, count := e })
      else none
    | none => none
  | _ => none

/-- RENEW items of three bytes each. -/
def readItems : Nat → List Byte → Option (List (Byte × Grant))
  | 0, [] => some []
  | n + 1, r :: hi :: lo :: bs =>
    match readItems n bs with
    | some is => some ((r, ofTwoBytes hi lo) :: is)
    | none => none
  | _, _ => none

/-- The content of an image part by its part number; none is a receive error, a part number above 16 among them. -/
def readContent (number : Byte) (bs : List Byte) : Option PartContent :=
  if number = 16 then (readMembershipBytes bs).map fun mp => .membership mp.1 mp.2
  else
    match number16 number, readEntryBytes bs with
    | some r, some e => some (.resource r e)
    | _, _ => none

/-- The payload of a kind from its bytes; none is a receive error: a kind above 11, a length that is not the kind's, or
a count or flag the layout does not allow (R146). -/
def readPayload (kind : BitVec 4) (bs : List Byte) : Option Payload :=
  match kind.toNat, bs with
  | 0, b :: number :: content =>
    (readContent number content).map fun c => .image (stationOf b) (attemptBits b) (b.getLsbD 1) c
  | 1, [a, b, c, d, e] => some (.found { leaseTerm := a, grace := b, presence := c, silence := d, count := e })
  | 2, [t] => some (.evict t)
  | 3, [r, h, hi, lo] => some (.lapse r h (ofTwoBytes hi lo))
  | 4, [r, hi, lo] => some (.release r (ofTwoBytes hi lo))
  | 5, [r] => some (.withdraw r)
  | 6, [] => some .leave
  | 7, n :: items =>
    if 1 ≤ n.toNat ∧ n.toNat ≤ 4 then (readItems n.toNat items).map .renew else none
  | 8, [r, mp] => some (.claim r (mp.extractLsb' 4 4) (mp.extractLsb' 0 4))
  | 9, [x, a, b, c, d, e] =>
    some (.join x { leaseTerm := a, grace := b, presence := c, silence := d, count := e })
  | 10, [a] => some (.sync a)
  | 11, [v, hi, lo] =>
    if v = 0 then some (.presence false (ofTwoBytes hi lo))
    else if v = 1 then some (.presence true (ofTwoBytes hi lo))
    else none
  | _, _ => none

/-! ## Frames (R144, R145) -/

/-- The bits the check covers: kind, sender, length, payload (R145). -/
def coveredBits (n : Notice) : List Bool :=
  fieldBits n.body.kind ++ fieldBits (highNibble n.sender) ++
    fieldBits (BitVec.ofNat 6 n.body.bytes.length) ++ byteBits n.body.bytes

/-- The bits of a frame between its start cell and its gap cell (R144). -/
def encodeFrame (n : Notice) : List Bool := coveredBits n ++ fieldBits (crcBits (coveredBits n))

/-- The notice that the bits between the start cell and the gap cell carry; none where they show a receive error: a
length of 61 to 63, a gap cell that the decoded length does not place there, a wrong check, a kind of 12 to 15, or a
payload that is not well-formed for its kind (R144, R145, R150). -/
def decodeFrame (bits : List Bool) : Option Notice :=
  let length := bitsNat ((bits.drop 8).take 6)
  if length ≤ Config.maxPayload ∧ bits.length = 30 + 8 * length ∧
      fieldBits (crcBits (bits.take (14 + 8 * length))) = bits.drop (14 + 8 * length) then
    (readPayload (BitVec.ofNat 4 (bitsNat (bits.take 4))) (bytesOfBits ((bits.drop 14).take (8 * length)))).map
      fun p => { sender := nibbleNumber (BitVec.ofNat 4 (bitsNat ((bits.drop 4).take 4))), body := p }
  else none

/-! ## Cell timing (R142) -/

/-- What a falling edge, or its absence, means by the time since the last falling edge (R142). -/
inductive EdgeMeaning where
  | nextCell
  | gapCell
  | vetoCell
  | cellFault
  | frameEnded
deriving DecidableEq, Repr

/-- The meaning of a falling edge seen this long after the last one, in nanoseconds; afterGap says that a gap cell has
been found. A time on a boundary counts as inside the window (log entry 8). -/
def edgeMeaning (ns : Nat) (afterGap : Bool) : EdgeMeaning :=
  if afterGap && decide (7 * Config.cellNs ≤ 4 * ns) && decide (4 * ns ≤ 9 * Config.cellNs) then .vetoCell
  else if decide (3 * Config.cellNs ≤ 4 * ns) && decide (4 * ns ≤ 5 * Config.cellNs) then .nextCell
  else .cellFault

/-- The meaning of no falling edge for this long: a gap cell from 1¼ cells, the end of the frame from 2¼ cells (R142).
-/
def silenceMeaning (ns : Nat) : Option EdgeMeaning :=
  if 9 * Config.cellNs ≤ 4 * ns then some .frameEnded
  else if 5 * Config.cellNs ≤ 4 * ns then some .gapCell
  else none

/-- A cell fault at some cell before the gap cell (R142). -/
def cellFault (f : RxFrame) : Bool := f.stuckLow || f.edges.any fun ns => decide (edgeMeaning ns false ≠ .nextCell)

/-- The notice a received frame carries; none where the frame's cells show a receive error (R150, all but the last case,
which depends on the station). -/
def receive (f : RxFrame) : Option Notice := if cellFault f then none else decodeFrame f.bits

end Sys2Proof.Machine
end

