-- ==== Sys2Proof/Machine/Ops.lean ====
section
/-! DEFINITION. The operations the commands share: block updates, reports, times and timers, the gates, the send
queue's places and staleness tests, and the emptying of the station's blocks. -/

namespace Sys2Proof.Machine

/-! ## Block updates -/

/-- The state with this station controller. -/
def State.withCtl (s : State) (c : Controller) : State := { s with ctl := c }
/-- The state with this table unit. -/
def State.withTable (s : State) (t : TableUnit) : State := { s with table := t }
/-- The state with this timer unit. -/
def State.withTimer (s : State) (t : TimerUnit) : State := { s with timer := t }
/-- The state with this send queue. -/
def State.withSendq (s : State) (q : SendQueue) : State := { s with sendq := q }
/-- The state with this claim stack. -/
def State.withStack (s : State) (k : List Record) : State := { s with stack := k }
/-- The state with these channels. -/
def State.withGate (s : State) (g : Vector Channel 8) : State := { s with gate := g }
/-- The state with this line unit. -/
def State.withLine (s : State) (l : LineUnit) : State := { s with line := l }
/-- The state with this host port. -/
def State.withPort (s : State) (p : HostPort) : State := { s with port := p }
/-- The state with these waiting commands. -/
def State.withPending (s : State) (q : List Instr) : State := { s with pending := q }

/-! ## The station -/

/-- This station's number. -/
def State.self (s : State) : Station := s.ctl.number

/-- The listening states: JOINING, MEMBER, LEAVING, RESYNC (R153). -/
def StationState.listening : StationState → Bool
  | .joining | .member | .leaving | .resync => true
  | .offline | .ready | .fault => false

/-- The states in which this station is MEMBER in its own table: MEMBER, LEAVING, RESYNC (R29). -/
def StationState.inBank : StationState → Bool
  | .member | .leaving | .resync => true
  | .offline | .ready | .joining | .fault => false

/-- The station listens (R153). -/
def State.listening (s : State) : Bool := s.ctl.station.listening

/-- The membership record of a station (R29). -/
def State.recordOfStation (s : State) (t : Station) : MemberRecord := s.table.members[t]

/-- Some record in this station's table is MEMBER. -/
def State.anyMember (s : State) : Bool := all16.any fun t => s.table.members[t].isMember

/-- The state with this membership record for a station. -/
def State.setMember (s : State) (t : Station) (m : MemberRecord) : State :=
  s.withTable { s.table with members := s.table.members.set t m }

/-- The entry of a resource. -/
def State.entry (s : State) (r : Resource) : Entry := s.table.entries[r]

/-- The state with this entry for a resource. -/
def State.setEntry (s : State) (r : Resource) (e : Entry) : State :=
  s.withTable { s.table with entries := s.table.entries.set r e }

/-- The record of this host's stack for a resource (R88: a record is named by its resource). -/
def State.recordOf (s : State) (r : Resource) : Option Record := s.stack.find? fun k => decide (k.resource = r)

/-- The top record (R88). -/
def State.top (s : State) : Option Record := s.stack.getLast?

/-! ## Reports and responses -/

/-- A raised report is appended; against a full queue it is discarded and the lost flag is set (R186, R188). -/
def State.raise (s : State) (r : Report) : State :=
  if s.port.reports.length < Config.reportCapacity then
    s.withPort { s.port with reports := s.port.reports ++ [r] }
  else s.withPort { s.port with lost := true }

/-- The result code and data of the command taken (R165). -/
def State.respond (s : State) (bytes : List Byte) : State := s.withPort { s.port with response := bytes }

/-! ## Derived times (R31, R32) -/

/-- The bank parameters while the station holds them, else the proposed ones. -/
def State.bankParams (s : State) : Params := s.table.bank.getD s.ctl.proposed

/-- The parameters in use for the presence period and the waits: the proposed ones in JOINING (R31). -/
def State.timeParams (s : State) : Params :=
  if s.ctl.station = .joining then s.ctl.proposed else s.bankParams

/-- Lease term in milliseconds. -/
def Params.leaseTermMs (p : Params) : Nat := Config.stepMs * p.leaseTerm.toNat
/-- Grace in milliseconds. -/
def Params.graceMs (p : Params) : Nat := Config.stepMs * p.grace.toNat
/-- Presence period in milliseconds. -/
def Params.presenceMs (p : Params) : Nat := Config.stepMs * p.presence.toNat
/-- Silence limit: silence multiple times presence period (R32). -/
def Params.silenceLimitMs (p : Params) : Nat := p.silence.toNat * p.presenceMs
/-- Join wait: twice the silence limit (R32). -/
def Params.joinWaitMs (p : Params) : Nat := 2 * p.silenceLimitMs
/-- Image wait: the silence limit (R32). -/
def Params.imageWaitMs (p : Params) : Nat := p.silenceLimitMs
/-- Found wait: join wait times one more than the rank (R32). -/
def Params.foundWaitMs (p : Params) (rank : Nat) : Nat := p.joinWaitMs * (1 + rank)

/-- The load value of a hold's countdown: the lease term at the holder's own station, the lease term plus the grace at
every other (R50). -/
def State.countdownMs (s : State) (holder : Station) : Nat :=
  if holder = s.self then s.bankParams.leaseTermMs else s.bankParams.leaseTermMs + s.bankParams.graceMs

/-- The resource count as this station holds it; it is used for nothing while no bank parameters are held (R1, R31). -/
def State.count (s : State) : Nat :=
  match s.table.bank with
  | some p => p.count.toNat
  | none => 0

/-! ## Timers (R48) -/

/-- Running, its time not yet taken as run out. -/
def Timer.isRunning : Timer → Bool
  | .running _ => true
  | _ => false

/-- Expired. -/
def Timer.isExpired : Timer → Bool
  | .expired => true
  | _ => false

/-- Running or expired: a silence timer that is kept, a wait that has been started. -/
def Timer.live : Timer → Bool
  | .stopped => false
  | _ => true

/-- The presence timer, the silence timers and the waits are frozen while the line is BLOCKED (R67). -/
def State.frozen (s : State) : Bool := decide (s.line.state = some .blocked)

/-- The countdown of this hold. -/
def Countdown.isOf (c : Countdown) (r : Resource) (h : Station) (g : Grant) : Bool :=
  decide (c.resource = r) && decide (c.holder = h) && decide (c.grant = g)

/-- The countdown of a hold; stopped when there is none. -/
def State.countdown (s : State) (r : Resource) (h : Station) (g : Grant) : Timer :=
  match s.timer.countdowns.find? fun c => c.isOf r h g with
  | some c => c.timer
  | none => .stopped

/-- The state in which the countdown of a hold has this value. -/
def State.setCountdown (s : State) (r : Resource) (h : Station) (g : Grant) (t : Timer) : State :=
  s.withTimer { s.timer with
    countdowns := (s.timer.countdowns.filter fun c => !c.isOf r h g) ++
      [{ resource := r, holder := h, grant := g, timer := t }] }

/-- Load the countdown of a hold with the value of R50 (R50, R51). -/
def State.loadCountdown (s : State) (r : Resource) (h : Station) (g : Grant) : State :=
  s.setCountdown r h g (.running (s.countdownMs h))

/-- Discard the countdown of a hold (R50). -/
def State.discardCountdown (s : State) (r : Resource) (h : Station) (g : Grant) : State :=
  s.withTimer { s.timer with countdowns := s.timer.countdowns.filter fun c => !c.isOf r h g }

/-- Discard the countdowns of the holds of some resources. -/
def State.discardCountdowns (s : State) (which : Resource → Bool) : State :=
  s.withTimer { s.timer with countdowns := s.timer.countdowns.filter fun c => !which c.resource }

/-- Load the presence timer with the presence period in use (R57). -/
def State.loadPresence (s : State) : State :=
  s.withTimer { s.timer with presence := .running s.timeParams.presenceMs }

/-- Load the join wait and stop the other waits (R61). -/
def State.startJoinWait (s : State) : State :=
  s.withTimer { s.timer with joinWait := .running s.timeParams.joinWaitMs, foundWait := .stopped,
                             imageWait := .stopped }

/-- Load the image wait and stop the other waits (R61, R64). -/
def State.startImageWait (s : State) : State :=
  s.withTimer { s.timer with joinWait := .stopped, foundWait := .stopped,
                             imageWait := .running s.timeParams.imageWaitMs }

/-- Stop the three waits. -/
def State.stopWaits (s : State) : State :=
  s.withTimer { s.timer with joinWait := .stopped, foundWait := .stopped, imageWait := .stopped }

/-! ## Gates (R112, R113, R114, R116) -/

/-- The grant number of a record, where its state has one (R88). -/
def RecordState.grant : RecordState → Option Grant
  | .held g _ => some g
  | .expired g => some g
  | .releasing g _ => some g
  | .lapsed g => some g
  | .sending | .waiting | .withdrawing _ => none

/-- The resource a channel serves. -/
def channelResource (n : Fin 8) : Resource := ⟨n.val, by omega⟩

/-- The opening condition of a channel (R113): MEMBER, a HELD record without renewal pending, its own countdown
running. -/
def State.gateCondition (s : State) (n : Fin 8) : Bool :=
  decide (s.ctl.station = .member) &&
    match s.recordOf (channelResource n) with
    | some k =>
      match k.state with
      | .held g false => (s.countdown (channelResource n) s.self g).isRunning
      | _ => false
    | none => false

/-- GOUTn is low: the channel is open and armed, and GINn is low (R112, R115). -/
def Channel.goutLow (c : Channel) : Bool := c.opened && c.armed && c.ginLow

/-- The state with this channel. -/
def State.setChannel (s : State) (n : Fin 8) (c : Channel) : State := s.withGate (s.gate.set n c)

/-- The gate unit evaluates a channel (R113): it opens not armed when the condition has become true; it closes when it
has become false, with a CUT carrying this grant number and detail if GOUTn was low (R114, R116). -/
def State.evalChannel (s : State) (n : Fin 8) (detail : BitVec 4) (grant : Grant) : State :=
  if s.gateCondition n then
    if s.gate[n].opened then s else s.setChannel n { s.gate[n] with opened := true, armed := false }
  else if s.gate[n].opened then
    if s.gate[n].goutLow then
      (s.setChannel n { s.gate[n] with opened := false, armed := false }).raise
        { kind := .cut, subject := channelResource n, grant := grant, detail := detail }
    else s.setChannel n { s.gate[n] with opened := false, armed := false }
  else s

/-- The gate unit evaluates the channel of a resource, where it has one (R121). -/
def State.evalResource (s : State) (r : Resource) (detail : BitVec 4) (grant : Grant) : State :=
  if h : r.val < 8 then s.evalChannel ⟨r.val, h⟩ detail grant else s

/-- The grant number of the record for a channel's resource; 0 where there is none. -/
def State.channelGrant (s : State) (n : Fin 8) : Grant :=
  ((s.recordOf (channelResource n)).bind fun k => k.state.grant).getD 0

/-- The gate unit evaluates every channel in ascending number (R113, R114). -/
def State.evalGates (s : State) (detail : BitVec 4) : State :=
  all8.foldl (fun s n => s.evalChannel n detail (s.channelGrant n)) s

/-- Every channel closed and not armed, its input level kept, with no CUT (R112, R120). -/
def closedGates (g : Vector Channel 8) : Vector Channel 8 :=
  Vector.ofFn fun n : Fin 8 => { g[n] with opened := false, armed := false }

/-! ## Send queue (R123 to R126) -/

/-- The kind code of a queued frame (R146). -/
def QBody.kind : QBody → Nat
  | .image .. => 0
  | .found .. => 1
  | .evict .. => 2
  | .lapse .. => 3
  | .release .. => 4
  | .withdraw .. => 5
  | .leave => 6
  | .renew => 7
  | .claim .. => 8
  | .join .. => 9
  | .sync .. => 10
  | .presence => 11

/-- Kind and target of a frame (R125): a hold by its resource and holder, a station or a resource by its number, this
station for every other kind. -/
def QBody.target : QBody → Nat × Nat × Nat
  | .lapse r h _ => (3, r.val, h.val)
  | .evict t => (2, t.val, 0)
  | .release r _ => (4, r.val, 0)
  | .withdraw r => (5, r.val, 0)
  | b => (b.kind, 0, 0)

/-- In the queued phase (R123). -/
def QFrame.isQueued (f : QFrame) : Bool :=
  match f.phase with
  | .queued => true
  | .onLine _ => false

/-- A frame of the same kind and target is queued, in any place and either phase (R125). -/
def SendQueue.queued (q : SendQueue) (b : QBody) : Bool := q.frames.any fun f => decide (f.body.target = b.target)

/-- A frame of the same kind and target has been delivered and is not yet applied here (R125). -/
def SendQueue.delivered (q : SendQueue) (b : QBody) : Bool :=
  match q.awaiting with
  | some f => decide (f.body.target = b.target)
  | none => false

/-- Frames in a place. -/
def SendQueue.inPlace (q : SendQueue) (p : Place) : Nat := (q.frames.filter fun f => decide (f.place = p)).length

/-- A place has room for one more frame (R124). The host slot and the image place stay occupied from the delivery of
their frame to its application (R126, R130). -/
def SendQueue.hasRoom (q : SendQueue) (p : Place) : Bool :=
  match p with
  | .general => decide (q.inPlace .general < Config.generalPlaces)
  | .presence => decide (q.inPlace .presence = 0)
  | .hostSlot =>
    decide (q.inPlace .hostSlot = 0) && !(q.awaiting.any fun f => decide (f.place = .hostSlot))
  | .image => decide (q.inPlace .image = 0) && !(q.awaiting.any fun f => decide (f.place = .image))

/-- The frame enters its place with retry count 0, in the queued phase, later than every other (R125). The host mark is
set in the host slot (R123). -/
def SendQueue.enter (q : SendQueue) (b : QBody) (p : Place) : SendQueue :=
  { q with frames := q.frames ++
      [{ body := b, place := p, retries := 0, hostMark := decide (p = .hostSlot), phase := .queued }] }

/-- A request of a block (R125): already satisfied, no room, or taken. -/
def SendQueue.request (q : SendQueue) (b : QBody) (p : Place) : SendQueue :=
  if q.queued b || q.delivered b then q else if q.hasRoom p then q.enter b p else q

/-- The placing of a host command's frame. The port has found the slot free (R126); a frame of the same kind and target
that is queued satisfies it (R125; log entry 26). One that is delivered and not yet applied here, a RENEW or LEAVE of a
general place, does not: the command's frame is placed, as R170 and R173 say (log entry 25). -/
def SendQueue.placeHost (q : SendQueue) (b : QBody) : SendQueue :=
  if q.queued b then q else if q.hasRoom .hostSlot then q.enter b .hostSlot else q

/-- A request of a block of this station. -/
def State.request (s : State) (b : QBody) (p : Place) : State := s.withSendq (s.sendq.request b p)

/-- The host port places a frame in the host slot. -/
def State.placeHost (s : State) (b : QBody) : State := s.withSendq (s.sendq.placeHost b)

/-- A RENEW of this station is queued, in the host slot or in a general place, in either phase (R136). -/
def State.renewQueued (s : State) : Bool := s.sendq.queued .renew

/-! ## Staleness of queued frames (R134, R135) -/

/-- This station's entry holds this hold (matched as R17 and R19 do). -/
def Entry.holds (e : Entry) (h : Station) (g : Grant) : Bool :=
  e.holders.any fun x => decide (x.station = h) && decide (x.grant = g)

/-- The station holds the resource. -/
def Entry.hasHolder (e : Entry) (h : Station) : Bool := e.holders.any fun x => decide (x.station = h)

/-- The station waits on the resource. -/
def Entry.hasWaiter (e : Entry) (h : Station) : Bool := e.waiters.any fun x => decide (x.station = h)

/-- What makes a queued frame stale by the tables (R134). An IMAGE part is stale unless an item of the transfer list
still owes it (R69, R72). -/
def State.tableStale (s : State) : QBody → Bool
  | .lapse r h g => !(s.entry r).holds h g || (s.countdown r h g).isRunning
  | .release r g => !(s.entry r).holds s.self g
  | .withdraw r => !(s.entry r).hasWaiter s.self
  | .evict t => (s.recordOfStation t).isAbsent
  | .found _ => s.anyMember
  | .image t a p =>
    !(s.table.transfers.any fun i => decide (i.target = t) && decide (i.attempt = a) && decide (i.next = p))
  | .leave | .renew | .claim .. | .join .. | .sync _ | .presence => false

/-- What makes a queued frame stale by the station state (R135). -/
def State.stateStale (s : State) : QBody → Bool
  | .join .. => decide (s.ctl.station ≠ .joining)
  | .sync _ => decide (s.ctl.station ≠ .resync)
  | .lapse _ h _ => decide (h ≠ s.self) && decide (s.ctl.station ≠ .member)
  | .evict _ => decide (s.ctl.station ≠ .member)
  | _ => false

/-- The frames in the queued phase that the test names are removed; a frame on the line stays (R134, R135). -/
def SendQueue.removeQueued (q : SendQueue) (test : QBody → Bool) : SendQueue :=
  { q with frames := q.frames.filter fun f => !(f.isQueued && test f.body) }

/-- The staleness check after an application (R134, R135). -/
def State.staleCheck (s : State) : State :=
  s.withSendq (s.sendq.removeQueued fun b => s.tableStale b || s.stateStale b)

/-- The tests at a change of the station state (R135). -/
def State.stateCheck (s : State) : State := s.withSendq (s.sendq.removeQueued s.stateStale)

/-! ## Transfer list (R69, R70, R72) -/

/-- An IMAGE frame. -/
def QBody.isImage : QBody → Bool
  | .image .. => true
  | _ => false

/-- The table unit places the first item's next part when the image place is free (R70). -/
def State.placeImage (s : State) : State :=
  match s.table.transfers with
  | [] => s
  | i :: _ => s.request (.image i.target i.attempt i.next) .image

/-- Every transfer is abandoned when the station leaves the MEMBER state, and a queued part goes with it (R69, R72). -/
def State.abandonTransfers (s : State) : State :=
  (s.withTable { s.table with transfers := [] }).withSendq (s.sendq.removeQueued QBody.isImage)

/-! ## Emptying the station (R138, R154, R161, R201, R202, R205) -/

/-- The line unit when the send queue and the inbound queue are emptied: a frame of this station on the line is
released, a frame in reception is discarded, and the notices go (R154, R161). -/
def LineUnit.release (l : LineUnit) : LineUnit :=
  { l with state := if l.state = some .sending then some .receiving else l.state, frameInHand := false,
           conflictPending := false, inbound := [] }

/-- The blocks of a station that goes to READY: tables cleared, parameters discarded, timers stopped, queues emptied,
exhausted flag removed (R49, R138, R154, R201, R202). The claim stack, the gates and the reports are not touched. -/
def State.clearToReady (s : State) : State :=
  { s with ctl := { s.ctl with station := .ready, exhausted := false }, table := TableUnit.clear,
           timer := TimerUnit.clear, sendq := SendQueue.clear, line := s.line.release }

/-- The return of a JOINING station to READY (R201); the report is raised by the caller. -/
def State.returnToReady (s : State) : State := (s.clearToReady).evalGates 3

/-- The entry to FAULT (R205): everything is cleared but the number, the configuration, the mask and the GIN levels;
then the FAULT report is queued (R193). -/
def State.enterFault (s : State) : State :=
  { s with ctl := { s.ctl with station := .fault, exhausted := false }, table := TableUnit.clear,
           timer := TimerUnit.clear, sendq := SendQueue.clear, stack := [], gate := closedGates s.gate,
           line := LineUnit.off,
           port := { s.port with reports := [{ kind := .fault, subject := 0, grant := 0, detail := 0 }],
                                 lost := false } }

/-- A meaning that acts only while the station is not held in reset: in reset SEL, the GIN inputs and the line are
ignored and no timer runs (R196). -/
def State.awake (s : State) (f : State → State) : State := if s.ctl.inReset then s else f s

end Sys2Proof.Machine
end

