-- ==== Sys2Proof/Machine/Flags.lean ====
section
/-! DEFINITION. The flags and output pins that follow from the state: ATTN, GOUT0 to 7, SDO, the reason of a DENIED,
the flag byte of READ STATUS, the flags of the MEMBER report (spec 06, 09, 10). -/

namespace Sys2Proof.Machine

/-- The number of a report kind, 1 to 19 (R180). -/
def ReportKind.code : ReportKind → Nat
  | .granted => 0x01
  | .refused => 0x02
  | .released => 0x03
  | .lapsed => 0x04
  | .withdrawn => 0x05
  | .sendFailed => 0x06
  | .cut => 0x07
  | .denied => 0x08
  | .member => 0x09
  | .left => 0x0A
  | .evicted => 0x0B
  | .resyncBegun => 0x0C
  | .resyncDone => 0x0D
  | .joinFailed => 0x0E
  | .peerJoined => 0x0F
  | .peerGone => 0x10
  | .lineBlocked => 0x11
  | .lineRestored => 0x12
  | .fault => 0x13

/-- The mask enables a report's kind: bit k - 1 for code k (R181). -/
def HostPort.enables (p : HostPort) (r : Report) : Bool := p.mask.getLsbD (r.kind.code - 1)

/-- ATTN is asserted while the lost flag is set or an enabled report is queued, and released while RSTN is low (R192).
-/
def State.attn (s : State) : Bool := !s.ctl.inReset && (s.port.lost || s.port.reports.any s.port.enables)

/-- GOUTn is low (R112, R115, R196). -/
def State.goutLow (s : State) (n : Fin 8) : Bool := !s.ctl.inReset && s.gate[n].goutLow

/-- The byte the port shifts out at position k of a transaction, counted from the command code at 0, whose command has
this many operand bytes: 00h up to the last operand, then the response, then 00h (R165). -/
def HostPort.outByte (p : HostPort) (operands k : Nat) : Byte :=
  if k ≤ operands then 0 else (p.response[k - operands - 1]?).getD 0

/-- The operand bytes that the command code of the transaction in progress calls for; none before its first complete
byte (R164). -/
def SerialPins.operands (p : SerialPins) : Nat :=
  match bytesOfBits p.sampled with
  | [] => 0
  | code :: _ => operandCount code

/-- The pin SDO: none at high impedance, which it is in reset and while SEL is high (R163, R196); else the bit at the
position the falling edges of SCK have reached, most significant bit of a byte first (R163, R165); while SEL has yet to
rise after the release of RSTN, a free value (log entry 33). -/
def State.sdo (s : State) : Option Bool :=
  if s.ctl.inReset || !s.port.serial.selLow then none
  else if s.port.serial.waitsForRise then Config.sdoBeforeRise
  else some ((s.port.outByte s.port.serial.operands (s.port.serial.falls / 8)).getMsbD (s.port.serial.falls % 8))

/-- The first reason that applies when GINn is asserted against a closed channel (R117). -/
def State.deniedDetail (s : State) (n : Fin 8) : BitVec 4 :=
  if s.ctl.station ≠ .member then 0
  else
    match s.recordOf (channelResource n) with
    | none => 1
    | some k =>
      match k.state with
      | .held _ true => 3
      | .held _ false => 4
      | _ => 2

/-- Byte 6 of READ STATUS: bit 0 the lost flag, bit 1 bank parameters held (R175). -/
def State.statusFlags (s : State) : Byte :=
  (0 : BitVec 6) ++ BitVec.ofBool s.table.bank.isSome ++ BitVec.ofBool s.port.lost

/-- The MEMBER report's detail: bit 0 founded, bit 1 parameters adopted (R40, R180). -/
def memberDetail (founded adopted : Bool) : BitVec 4 :=
  (0 : BitVec 2) ++ BitVec.ofBool adopted ++ BitVec.ofBool founded

end Sys2Proof.Machine
end

