-- ==== Sys2Proof/Machine/ClaimStack.lean ====
section
/-! DEFINITION. The claim stack unit: what its records do with the events of the table unit and the timer unit, and
its teardown (spec 05). -/

namespace Sys2Proof.Machine

/-! ## Records -/

/-- The stack in which the record of a resource has this state; resource, mode and policy are kept (R88). -/
def State.setRecord (s : State) (r : Resource) (st : RecordState) : State :=
  s.withStack (s.stack.map fun k => if k.resource = r then { k with state := st } else k)

/-- The record of a resource is taken out wherever it stands; the records above it move down (R89). -/
def State.popRecord (s : State) (r : Resource) : State :=
  s.withStack (s.stack.filter fun k => decide (k.resource ≠ r))

/-- A report about a record of this host (R111). -/
def State.report (s : State) (kind : ReportKind) (r : Resource) (g : Grant) (detail : BitVec 4) : State :=
  s.raise { kind := kind, subject := r, grant := g, detail := detail }

/-- A HELD record (R103). -/
def Record.isHeld (k : Record) : Bool :=
  match k.state with
  | .held _ _ => true
  | _ => false

/-- The grant number of a HELD record (R129). -/
def Record.heldGrant (k : Record) : Option Grant :=
  match k.state with
  | .held g _ => some g
  | _ => none

/-- A HELD record with renewal pending (R85). -/
def Record.renewalPending (k : Record) : Bool :=
  match k.state with
  | .held _ p => p
  | _ => false

/-- A RELEASING record entered from WITHDRAWING (R97). -/
def Record.owesRelease (k : Record) : Bool :=
  match k.state with
  | .releasing _ fromWithdrawing => fromWithdrawing
  | _ => false

/-- A WITHDRAWING record of the withdraw-owed form (R96). -/
def Record.owesWithdraw (k : Record) : Bool := decide (k.state = .withdrawing .withdrawOwed)

/-- The states that only the top record may be in and that refuse a CLAIM with PENDING (R89, R91). -/
def RecordState.isPending : RecordState → Bool
  | .sending | .waiting | .withdrawing _ | .releasing _ _ => true
  | .held _ _ | .expired _ | .lapsed _ => false

/-! ## Events of the table unit (R24) -/

/-- granted (R93, R95, R96). A claim outcome reaches a SENDING or a claim-outstanding record, a promotion a WAITING or a
withdraw-owed one; fromClaim tells them apart (log entry 15). The owed RELEASE is asked for when the application ends
(R97, R125). -/
def State.onGranted (s : State) (fromClaim : Bool) (r : Resource) (m : Mode) (g : Grant) : State :=
  match s.recordOf r with
  | none => s
  | some k =>
    match k.state, fromClaim with
    | .sending, true => ((s.setRecord r (.held g false)).report .granted r g m.detail).evalResource r 2 g
    | .waiting, false => ((s.setRecord r (.held g false)).report .granted r g m.detail).evalResource r 2 g
    | .withdrawing .claimOutstanding, true => s.setRecord r (.releasing g true)
    | .withdrawing .withdrawOwed, false => s.setRecord r (.releasing g true)
    | _, _ => s

/-- queued (R93, R95): a claim-outstanding record takes the withdraw-owed form, and its WITHDRAW enters the host slot
that the CLAIM has vacated. -/
def State.onQueued (s : State) (r : Resource) : State :=
  match s.recordOf r with
  | none => s
  | some k =>
    match k.state with
    | .sending => s.setRecord r .waiting
    | .withdrawing .claimOutstanding =>
      (s.setRecord r (.withdrawing .withdrawOwed)).request (.withdraw r) .hostSlot
    | _ => s

/-- refused (R93, R95), with detail 0 for "not grantable" and 1 for "stale" (R16). -/
def State.onRefused (s : State) (r : Resource) (cause : BitVec 4) : State :=
  match s.recordOf r with
  | none => s
  | some k =>
    match k.state with
    | .sending => (s.popRecord r).report .refused r 0 cause
    | .withdrawing .claimOutstanding => (s.popRecord r).report .refused r 0 cause
    | _ => s

/-- waiter removed (R96; for WAITING the table of spec 05, section 5.2; log entry 16). -/
def State.onWaiterRemoved (s : State) (r : Resource) : State :=
  match s.recordOf r with
  | none => s
  | some k =>
    match k.state with
    | .withdrawing .withdrawOwed => (s.popRecord r).report .withdrawn r 0 0
    | .waiting => (s.popRecord r).report .withdrawn r 0 0
    | _ => s

/-- hold removed (R98, R100, R101); byThis says that the notice came from this station. -/
def State.onHoldRemoved (s : State) (r : Resource) (g : Grant) (byThis : Bool) : State :=
  match s.recordOf r with
  | none => s
  | some k =>
    match k.state with
    | .held g' _ =>
      if g' = g then
        ((s.setRecord r (.lapsed g')).report .lapsed r g' (if byThis then 1 else 0)).evalResource r 2 g'
      else s
    | .expired g' => (s.setRecord r (.lapsed g')).report .lapsed r g' (if byThis then 1 else 0)
    | .releasing g' fromWithdrawing =>
      if g' = g then (s.popRecord r).report .released r g' (if fromWithdrawing then 3 else 0) else s
    | _ => s

/-- renewed (R98, R100, R101): a record with renewal pending loses the flag and raises GRANTED. -/
def State.onRenewed (s : State) (r : Resource) (g : Grant) : State :=
  match s.recordOf r with
  | none => s
  | some k =>
    match k.state with
    | .held g' true =>
      if g' = g then ((s.setRecord r (.held g' false)).report .granted r g' k.mode.detail).evalResource r 2 g'
      else s
    | _ => s

/-- countdown expired (R53, R98): a HELD record becomes EXPIRED, and its channel closes at once. -/
def State.onCountdownExpired (s : State) (r : Resource) : State :=
  match s.recordOf r with
  | none => s
  | some k =>
    match k.state with
    | .held g' _ => (s.setRecord r (.expired g')).evalResource r 0 g'
    | _ => s

/-! ## Teardown (R108, R109, R202, R203) -/

/-- One record at own EVICT (R108): the stack that stays below it is kept by the caller. -/
def State.evictRecord (s : State) (k : Record) : State :=
  match k.state with
  | .releasing g _ => (s.popRecord k.resource).report .released k.resource g 1
  | .sending | .waiting | .withdrawing _ => (s.popRecord k.resource).report .withdrawn k.resource 0 1
  | .held g _ =>
    ((s.setRecord k.resource (.lapsed g)).report .lapsed k.resource g 3).evalResource k.resource 2 g
  | .expired g =>
    ((s.setRecord k.resource (.lapsed g)).report .lapsed k.resource g 3).evalResource k.resource 2 g
  | .lapsed _ => s

/-- One record at own LEAVE (R109). In LEAVING and RESYNC every gate is closed already. Where the LEAVE is applied in
MEMBER, a channel that closes with GOUT low raises its CUT after the record's report (R114, R116), with a detail that
the spec does not give (log entry 42). -/
def State.leaveRecord (s : State) (k : Record) : State :=
  match k.state with
  | .releasing g _ => (s.popRecord k.resource).report .released k.resource g 1
  | .sending | .waiting | .withdrawing _ => (s.popRecord k.resource).report .withdrawn k.resource 0 1
  | .held g _ =>
    ((s.popRecord k.resource).report .released k.resource g 1).evalResource k.resource Config.leaveCutDetail g
  | .expired g =>
    ((s.popRecord k.resource).report .released k.resource g 1).evalResource k.resource Config.leaveCutDetail g
  | .lapsed _ => s

/-- The teardown at own EVICT (R202): tables cleared, records visited from top to bottom, gates closed, queues emptied,
READY, then EVICTED. -/
def State.teardownEvict (s : State) : State :=
  let s1 := s.stack.reverse.foldl State.evictRecord
    ((s.withTable TableUnit.clear).withTimer TimerUnit.clear)
  ((s1.clearToReady).evalGates 2).raise { kind := .evicted, subject := 0, grant := 0, detail := 0 }

/-- The teardown at own LEAVE, and at a drop while LEAVING (R203, R80): as at own EVICT, but the stack as R109 states,
and LEFT with this detail. -/
def State.teardownLeave (s : State) (detail : BitVec 4) : State :=
  let s1 := s.stack.reverse.foldl State.leaveRecord
    ((s.withTable TableUnit.clear).withTimer TimerUnit.clear)
  ((s1.clearToReady).evalGates Config.leaveCutDetail).raise { kind := .left, subject := 0, grant := 0, detail := detail }

end Sys2Proof.Machine
end

