-- ==== Sys2Proof/Machine/Table.lean ====
section
/-! DEFINITION. The lease table: granting, removal, promotion, purge, and the entry effects of CLAIM, RELEASE, WITHDRAW,
LAPSE and RENEW (spec 01). -/

namespace Sys2Proof.Machine

/-! ## One entry -/

/-- A new claim is grantable (R7). -/
def Entry.grantable (e : Entry) (m : Mode) : Bool :=
  match e.state with
  | .free => true
  | .shared => decide (m = .shared) && e.waiters.isEmpty
  | .exclusive => false

/-- The candidate after a grant number: plus 1, and 1 after 65535 (R8). -/
def nextCandidate (g : Grant) : Grant := if g = 65535 then 1 else g + 1

/-- Count on from a grant number, passing over at most n candidates that are in use (R8). -/
def freshGrant (used : List Grant) : Nat → Grant → Grant
  | 0, g => nextCandidate g
  | n + 1, g => if nextCandidate g ∈ used then freshGrant used n (nextCandidate g) else nextCandidate g

/-- The grant number the entry gives next (R8). -/
def Entry.nextGrant (e : Entry) : Grant := freshGrant (e.holders.map (·.grant)) e.holders.length e.counter

/-- The state after a grant in this mode (R9). -/
def Mode.entryState : Mode → EntryState
  | .shared => .shared
  | .exclusive => .exclusive

/-- Grant a hold (R8, R9): appended, with the next grant number, which becomes the counter. -/
def Entry.grant (e : Entry) (s : Station) (m : Mode) : Entry :=
  { e with state := m.entryState, counter := e.nextGrant,
           holders := e.holders ++ [{ station := s, mode := m, grant := e.nextGrant }] }

/-- Remove a hold (R10): the others keep their order; FREE when none remain. -/
def Entry.removeHold (e : Entry) (s : Station) (g : Grant) : Entry :=
  let hs := e.holders.filter fun h => !(decide (h.station = s) && decide (h.grant = g))
  { e with state := if hs.isEmpty then .free else e.state, holders := hs }

/-- Remove a waiter from wherever it stands (R11). -/
def Entry.removeWaiter (e : Entry) (s : Station) : Entry :=
  { e with waiters := e.waiters.filter fun w => decide (w.station ≠ s) }

/-- Promotion over the waiters in queue order (R12): grant the first while it is grantable under the present holders. -/
def Entry.promoteOver (e : Entry) : List Waiter → Entry
  | [] => { e with waiters := [] }
  | w :: ws => if e.promotable w.mode then (e.grant w.station w.mode).promoteOver ws else { e with waiters := w :: ws }

/-- Promotion in an entry (R12). -/
def Entry.promote (e : Entry) : Entry := e.promoteOver e.waiters

/-- The hold of a station in an entry (R3: at most one). -/
def Entry.findHold (e : Entry) (s : Station) : Option Hold := e.holders.find? fun h => decide (h.station = s)

/-! ## The table of this station -/

/-- This station applies entry effects to an entry (R5): every entry in MEMBER, LEAVING and RESYNC; in JOINING the
entries installed at the current attempt, or every entry once a FOUND has been applied (R23; log entry 20). -/
def State.current (s : State) (r : Resource) : Bool :=
  match s.ctl.station with
  | .member | .leaving | .resync => true
  | .joining =>
    match s.table.imagePending with
    | some ip => ip.installed[r]
    | none => s.table.bank.isSome
  | .offline | .ready | .fault => false

/-- The entry is in use and takes entry effects here (R1, R5). -/
def State.takesEffects (s : State) (r : Resource) : Bool := decide (r.val < s.count) && s.current r

/-- The entry a resource byte names, where it takes effects (R1, R5). -/
def State.targetOf (s : State) (b : Byte) : Option Resource :=
  match number16 b with
  | some r => if s.takesEffects r then some r else none
  | none => none

/-- hold granted (R9): the countdown is loaded, and this station's own hold is handed to the claim stack unit. -/
def State.holdGranted (s : State) (fromClaim : Bool) (r : Resource) (h : Hold) : State :=
  if h.station = s.self then (s.loadCountdown r h.station h.grant).onGranted fromClaim r h.mode h.grant
  else s.loadCountdown r h.station h.grant

/-- Promotion in entry r, with its events in queue order (R12, R24, R25). -/
def State.promoteAt (s : State) (r : Resource) : State :=
  (((s.entry r).promote).holders.drop (s.entry r).holders.length).foldl (fun s h => s.holdGranted false r h)
    (s.setEntry r (s.entry r).promote)

/-- A hold leaves entry r, with its events, promotion not yet run (R10). -/
def State.dropHold (s : State) (r : Resource) (h : Station) (g : Grant) (byThis : Bool) : State :=
  let s1 := (s.setEntry r ((s.entry r).removeHold h g)).discardCountdown r h g
  if h = s.self then s1.onHoldRemoved r g byThis else s1

/-- A waiter leaves entry r, with its event, promotion not yet run (R11). -/
def State.dropWaiter (s : State) (r : Resource) (w : Station) : State :=
  let s1 := s.setEntry r ((s.entry r).removeWaiter w)
  if w = s.self then s1.onWaiterRemoved r else s1

/-- The purge of a station in one entry (R21). -/
def State.purgeAt (s : State) (t : Station) (r : Resource) : State :=
  if !s.takesEffects r then s
  else
    match (s.entry r).findHold t, (s.entry r).hasWaiter t with
    | none, false => s
    | some h, false => (s.dropHold r t h.grant false).promoteAt r
    | none, true => (s.dropWaiter r t).promoteAt r
    | some h, true => ((s.dropHold r t h.grant false).dropWaiter r t).promoteAt r

/-- The purge of a station, entry by entry in ascending resource order (R21). -/
def State.purge (s : State) (t : Station) : State := all16.foldl (fun s r => s.purgeAt t r) s

/-! ## Entry effects of the notices (R13 to R20) -/

/-- The station waits on some entry (R13). -/
def State.waitsAnywhere (s : State) (t : Station) : Bool := all16.any fun r => (s.entry r).hasWaiter t

/-- A stale CLAIM changes nothing; at its own station it is refused with the cause "stale" (R13, R16). -/
def State.claimStale (s : State) (sender : Station) (resource : Byte) : State :=
  if sender = s.self then
    match number16 resource with
    | some r => s.onRefused r 1
    | none => s
  else s

/-- A CLAIM that is not stale (R14, R15). -/
def State.claimDecided (s : State) (sender : Station) (r : Resource) (m : Mode) (p : Policy) : State :=
  if (s.entry r).grantable m then
    (s.setEntry r ((s.entry r).grant sender m)).holdGranted true r
      { station := sender, mode := m, grant := (s.entry r).nextGrant }
  else
    match p with
    | .wait =>
      let s1 := s.setEntry r { s.entry r with waiters := (s.entry r).waiters ++ [{ station := sender, mode := m }] }
      if sender = s.self then s1.onQueued r else s1
    | .tryOnce => if sender = s.self then s.onRefused r 0 else s

/-- The staleness tests of a CLAIM, then its outcome (R13, R14, R15). -/
def State.claimEffects (s : State) (sender : Station) (resource : Byte) (mode policy : BitVec 4) : State :=
  match s.targetOf resource, Mode.ofNibble mode, Policy.ofNibble policy with
  | some r, some m, some p =>
    if (s.recordOfStation sender).isMember && !(s.entry r).hasHolder sender && !(s.entry r).hasWaiter sender &&
        !s.waitsAnywhere sender then s.claimDecided sender r m p
    else s.claimStale sender resource
  | _, _, _ => s.claimStale sender resource

/-- The removal of a named hold, by RELEASE or LAPSE, or nothing (R17, R19). -/
def State.holdEffects (s : State) (resource : Byte) (holder : Station) (g : Grant) (byThis : Bool) : State :=
  match s.targetOf resource with
  | some r => if (s.entry r).holds holder g then (s.dropHold r holder g byThis).promoteAt r else s
  | none => s

/-- A WITHDRAW (R18). -/
def State.withdrawEffects (s : State) (sender : Station) (resource : Byte) : State :=
  match s.targetOf resource with
  | some r => if (s.entry r).hasWaiter sender then (s.dropWaiter r sender).promoteAt r else s
  | none => s

/-- One item of a RENEW (R20, R51). -/
def State.renewItem (s : State) (sender : Station) (item : Byte × Grant) : State :=
  match s.targetOf item.1 with
  | some r =>
    if (s.entry r).holds sender item.2 then
      if sender = s.self then (s.loadCountdown r sender item.2).onRenewed r item.2
      else s.loadCountdown r sender item.2
    else s
  | none => s

end Sys2Proof.Machine
end

