-- ==== Sys2Proof/Machine/Membership.lean ====
section
/-! DEFINITION. Membership: the image source, the provisional view, silence timers, the membership effects of JOIN,
SYNC, FOUND, LEAVE and EVICT, and the ways into MEMBER and RESYNC (spec 02, 04, 11). -/

namespace Sys2Proof.Machine

/-- This station's own membership record. -/
def State.ownRecord (s : State) : MemberRecord := s.recordOfStation s.self

/-- The pending transfer in this station's own record. -/
def State.ownTransfer (s : State) : Option Transfer := s.ownRecord.transfer

/-! ## The image source (R34) -/

/-- The MEMBER records other than t, in ascending station number. -/
def eligible (members : Vector MemberRecord 16) (t : Station) : List Station :=
  all16.filter fun m => decide (m ≠ t) && members[m].isMember

/-- The eligible station at index attempt mod n, or none when none is eligible (R34). -/
def chooseSource (members : Vector MemberRecord 16) (t : Station) (attempt : Fin 4) : Option Station :=
  (eligible members t)[attempt.val % (eligible members t).length]?

/-! ## The provisional view (R41) -/

/-- The membership table is a provisional view: JOINING, no membership part installed and no FOUND applied, so no bank
parameters are held (R41). -/
def State.provisional (s : State) : Bool := decide (s.ctl.station = .joining) && s.table.bank.isNone

/-- The kinds that a station not in MEMBER does not send (R41). -/
def Payload.isEvidence : Payload → Bool
  | .join .. => false
  | .found .. => false
  | .presence valid _ => valid
  | _ => true

/-- The view has gained a MEMBER by evidence: this station's own image source is chosen again (R41), and a found wait
gives way to the image wait when a source becomes recorded (R63). -/
def State.viewGained (s : State) : State :=
  match s.ownRecord with
  | .joining (some t) =>
    let src := chooseSource s.table.members s.self t.attempt
    let s1 := s.setMember s.self (.joining (some { t with source := src }))
    if t.source.isNone && src.isSome && s.timer.foundWait.live then
      s1.withTimer { s1.timer with foundWait := .stopped, imageWait := .running s.timeParams.imageWaitMs }
    else s1
  | _ => s

/-- What a delivered notice of a peer shows of its sender in the provisional view, before its own effects (R41). -/
def State.evidence (s : State) (n : Notice) : State :=
  if !s.provisional || decide (n.sender = s.self) then s
  else
    match n.body with
    | .found _ =>
      if (s.recordOfStation n.sender).isAbsent then
        s.setMember n.sender (.joining (some { attempt := 0, source := none }))
      else s
    | body =>
      if body.isEvidence && !(s.recordOfStation n.sender).isMember then
        (s.setMember n.sender (.member none)).viewGained
      else s

/-! ## Events of the membership table (R46, R47) -/

/-- The silence timers after an application that began in s0: a timer is loaded for each other station whose record has
become JOINING or MEMBER from another state, or when this station has itself become MEMBER, and discarded for each
whose record is ABSENT (R46, R59). -/
def State.updateSilence (s0 s : State) : State :=
  s.withTimer { s.timer with
    silence := Vector.ofFn fun p : Fin 16 =>
      if !s.ctl.station.inBank || decide (p = s.self) || s.table.members[p].isAbsent then .stopped
      else if !s0.ctl.station.inBank ||
          decide (s0.table.members[p].isMember ≠ s.table.members[p].isMember) ||
          decide (s0.table.members[p].isJoining ≠ s.table.members[p].isJoining) then
        .running s.timeParams.silenceLimitMs
      else s.timer.silence[p] }

/-- A report about a peer, raised only where this station's own record is MEMBER (R47). -/
def State.reportPeer (s : State) (kind : ReportKind) (p : Station) (detail : BitVec 4) : State :=
  if s.ownRecord.isMember then s.raise { kind := kind, subject := p, grant := 0, detail := detail } else s

/-- PEER_JOINED for each other station whose record was JOINING in s0 and is MEMBER now, in ascending number (R47). -/
def State.reportJoined (s0 s : State) : State :=
  all16.foldl (fun s p =>
    if p ≠ s.self ∧ s0.table.members[p].isJoining ∧ s.table.members[p].isMember then s.reportPeer .peerJoined p 0
    else s) s

/-! ## The transfer list (R69) -/

/-- The list takes t at this attempt when this MEMBER station is the source recorded for t: a new item at the end, or
the old one replaced in place, its queued part removed (R69). -/
def State.takeTransfer (s : State) (t : Station) (attempt : Fin 4) (source : Option Station) : State :=
  if source = some s.self ∧ s.ctl.station = .member then
    let item : TransferItem := { target := t, attempt := attempt, next := .membership }
    if s.table.transfers.any (fun i => decide (i.target = t)) then
      (s.withTable { s.table with
        transfers := s.table.transfers.map fun i => if i.target = t then item else i }).withSendq
        (s.sendq.removeQueued fun b =>
          match b with
          | .image u _ _ => decide (u = t)
          | _ => false)
    else s.withTable { s.table with transfers := s.table.transfers ++ [item] }
  else s

/-- The items that stand: the target's record carries a pending transfer at the item's attempt that names this station
(R72). -/
def State.testTransfers (s : State) : State :=
  s.withTable { s.table with
    transfers := s.table.transfers.filter fun i =>
      decide ((s.recordOfStation i.target).transfer = some { attempt := i.attempt, source := some s.self }) }

/-! ## Into MEMBER, into RESYNC, and back (R40, R79, R84 to R87, R200, R204) -/

/-- The station becomes MEMBER (R200): waits stopped, image-pending state discarded, MEMBER raised with its flags
(R40). -/
def State.becomeMember (s : State) (founded : Bool) : State :=
  let s1 := ((s.withCtl { s.ctl with station := .member }).stopWaits).withTable
    { s.table with imagePending := none }
  (s1.raise { kind := .member, subject := 0, grant := 0,
              detail := memberDetail founded (decide (s1.bankParams ≠ s1.ctl.proposed)) }).evalGates 3

/-- The station enters RESYNC (R79, R204): RESYNC_BEGUN, then the gates close, then the transfer list is emptied and the
send queue makes its state tests. The SYNC is asked for by the caller. -/
def State.enterResync (s : State) (cause : BitVec 4) : State :=
  let s1 := (s.withCtl { s.ctl with station := .resync, exhausted := false }).raise
    { kind := .resyncBegun, subject := 0, grant := 0, detail := cause }
  ((s1.evalGates 3).abandonTransfers).stateCheck

/-- resynchronisation exhausted (R204): the flag is set and the attempt spoiled; nothing more when it was set. The LEAVE
is asked for by the caller. -/
def State.exhaust (s : State) : State :=
  if s.ctl.exhausted then s
  else (s.withCtl { s.ctl with exhausted := true }).withTable
    { s.table with imagePending := s.table.imagePending.map fun ip => { ip with spoiled := true } }

/-- Reconciliation of one record against the table (R84, R85, R107). Its LAPSED carries the last number held, as R111
and the list of R190 say, and not the 0 of R190's example: DEDUCED, log entry 40. -/
def State.settleRecord (s : State) (k : Record) : State :=
  let e := s.entry k.resource
  let waitingSettled (kept : State) : State :=
    if e.hasWaiter s.self then kept
    else
      match e.findHold s.self with
      | some h => s.setRecord k.resource (.held h.grant true)
      | none => (s.popRecord k.resource).report .withdrawn k.resource 0 2
  match k.state with
  | .held g _ =>
    if e.holds s.self g then s else (s.setRecord k.resource (.lapsed g)).report .lapsed k.resource g 2
  | .expired g =>
    if e.holds s.self g then s else (s.setRecord k.resource (.lapsed g)).report .lapsed k.resource g 2
  | .releasing g _ =>
    if e.holds s.self g then s else (s.popRecord k.resource).report .released k.resource g 2
  | .waiting => waitingSettled s
  | .withdrawing _ => waitingSettled (s.setRecord k.resource (.withdrawing .withdrawOwed))
  | .sending => s
  | .lapsed _ => s

/-- Some record accounts for this hold of this station (R86, R104; log entry 17). -/
def State.recordHolds (s : State) (r : Resource) (g : Grant) : Bool :=
  s.stack.any fun k => decide (k.resource = r) &&
    (match k.state with
     | .held g' _ => decide (g' = g)
     | .expired g' => decide (g' = g)
     | .releasing g' _ => decide (g' = g)
     | _ => false)

/-- Some record accounts for this station's waiter in an entry (R86, R104). -/
def State.recordWaits (s : State) (r : Resource) : Bool :=
  s.stack.any fun k => decide (k.resource = r) &&
    (match k.state with
     | .waiting => true
     | .withdrawing _ => true
     | _ => false)

/-- A hold or a waiter of this station in the table that no record matches (R86). -/
def State.unmatched (s : State) : Bool :=
  all16.any fun r =>
    (s.entry r).holders.any (fun h => decide (h.station = s.self) && !s.recordHolds r h.grant) ||
    ((s.entry r).hasWaiter s.self && !s.recordWaits r)

/-- Reconciliation (R84, R86, R87): records bottom first; then either exhaustion, or MEMBER with RESYNC_DONE. -/
def State.reconcile (s : State) : State :=
  let s1 := s.stack.foldl State.settleRecord s
  if s1.unmatched then s1.exhaust
  else
    ((((s1.withCtl { s1.ctl with station := .member, exhausted := false }).stopWaits).withTable
      { s1.table with imagePending := none }).raise
        { kind := .resyncDone, subject := 0, grant := 0, detail := 0 }).evalGates 3

/-! ## Membership effects of the notices -/

/-- An empty image-pending state at an attempt (R73). -/
def ImagePending.fresh (attempt : Fin 4) : ImagePending :=
  { attempt := attempt, membershipInstalled := false, installed := Vector.replicate 16 false, spoiled := false }

/-- This station's own JOIN has been applied while it is JOINING (R61, R73). -/
def State.ownJoinApplied (s : State) (attempt : Fin 4) (source : Option Station) : State :=
  if s.ctl.station = .joining then
    let s1 := s.withTable { s.table with imagePending := some (ImagePending.fresh attempt) }
    if source.isSome then s1.startImageWait else s1.startJoinWait
  else s

/-- This station's own SYNC has been applied while it is RESYNC (R64, R73, R81). -/
def State.ownSyncApplied (s : State) (attempt : Fin 4) (source : Option Station) : State :=
  if s.ctl.station = .resync then
    if source.isSome then
      (s.withTable { s.table with imagePending := some (ImagePending.fresh attempt) }).startImageWait
    else s.reconcile
  else s

/-- A JOIN (R35, R36): a rejoin purges its sender first. -/
def State.joinEffects (s : State) (sender : Station) (attempt : Byte) (params : Params) : State :=
  match attemptOf attempt, params.inRange with
  | some a, true =>
    let s1 :=
      if (s.recordOfStation sender).isMember then
        (if sender = s.self then s else s.reportPeer .peerGone sender 2).purge sender
      else s
    let source := chooseSource s1.table.members sender a
    let s2 := s1.setMember sender (.joining (some { attempt := a, source := source }))
    (if sender = s.self then s2.ownJoinApplied a source else s2).takeTransfer sender a source
  | _, _ => s

/-- A SYNC (R37). -/
def State.syncEffects (s : State) (sender : Station) (attempt : Byte) : State :=
  match attemptOf attempt with
  | some a =>
    if (s.recordOfStation sender).isMember then
      let source := chooseSource s.table.members sender a
      let s1 := s.setMember sender
        (.member (if source.isSome then some { attempt := a, source := source } else none))
      (if sender = s.self then s1.ownSyncApplied a source else s1).takeTransfer sender a source
    else s
  | none => s

/-- Every JOINING record becomes MEMBER and loses its transfer fields (R38). -/
def foundedMembers (members : Vector MemberRecord 16) : Vector MemberRecord 16 :=
  Vector.ofFn fun p : Fin 16 => if members[p].isJoining then .member none else members[p]

/-- A FOUND (R23, R38, R40, R47). -/
def State.foundEffects (s : State) (sender : Station) (params : Params) : State :=
  if s.anyMember || !(s.recordOfStation sender).isJoining || !params.inRange then s
  else
    let s1 := (s.withTable { s.table with entries := Vector.replicate 16 Entry.clear,
                                          members := foundedMembers s.table.members,
                                          bank := some params }).withTimer { s.timer with countdowns := [] }
    let s2 := if s.ownRecord.isJoining ∧ s.ctl.station = .joining then s1.becomeMember true else s1
    State.reportJoined s s2

/-- A peer leaves the bank (R44, R45): PEER_GONE, its record ABSENT, its holds and waits purged. -/
def State.departure (s : State) (t : Station) (detail : BitVec 4) : State :=
  ((s.reportPeer .peerGone t detail).setMember t .absent).purge t

/-- A LEAVE (R44). -/
def State.leaveEffects (s : State) (sender : Station) : State :=
  if !(s.recordOfStation sender).isMember then s
  else if sender = s.self then s.teardownLeave (if s.ctl.exhausted then 1 else 0)
  else s.departure sender 0

/-- An EVICT (R45). -/
def State.evictEffects (s : State) (sender : Station) (target : Byte) : State :=
  match number16 target with
  | some t =>
    if (s.recordOfStation t).isAbsent || !(s.recordOfStation sender).isMember then s
    else if t = s.self then s.teardownEvict
    else s.departure t 1
  | none => s

end Sys2Proof.Machine
end

