-- ==== Sys2Proof/Machine/Image.lean ====
section
/-! DEFINITION. Image parts: building, installing, completing a transfer; the digest (spec 04). -/

namespace Sys2Proof.Machine

/-! ## Building (R68, R70, R71, R77) -/

/-- The content of a part, from this station's tables as they stand (R68, R71). -/
def State.partContent (s : State) : Part → PartContent
  | .membership => .membership s.table.members s.bankParams
  | .resource r => .resource r (s.entry r)

/-- The last flag is set on the part numbered resource count − 1 (R68). -/
def State.isLastPart (s : State) : Part → Bool
  | .membership => false
  | .resource r => decide (r.val + 1 = s.count)

/-- Part 16, then part 0, then each next resource part (R70). -/
def Part.following : Part → Part
  | .membership => .resource 0
  | .resource r => .resource (r + 1)

/-- The digest: the check over the contents of the membership part and of the resource parts in use (R77). -/
def State.digest (s : State) : BitVec 16 :=
  crcBits (byteBits (membershipBytes s.table.members s.bankParams ++
    all16.flatMap fun r => if r.val < s.count then entryBytes (s.entry r) else []))

/-! ## Installing (R42, R52, R74, R76) -/

/-- The image-pending state is changed where there is one. -/
def State.updateImagePending (s : State) (f : ImagePending → ImagePending) : State :=
  s.withTable { s.table with imagePending := s.table.imagePending.map f }

/-- The membership part replaces the membership table and the bank parameters (R42); entries at or above a lowered
resource count are cleared (R33). -/
def State.installMembership (s : State) (members : Vector MemberRecord 16) (params : Params) : State :=
  let cleared (r : Resource) : Bool := decide (params.count.toNat < s.count) && decide (params.count.toNat ≤ r.val)
  let s1 := s.withTable { s.table with
    entries := Vector.ofFn fun r : Fin 16 => if cleared r then Entry.clear else s.table.entries[r],
    members := members, bank := some params }
  (s1.discardCountdowns cleared).updateImagePending fun ip => { ip with membershipInstalled := true }

/-- In RESYNC a hold of this station that stood in the entry before keeps the countdown it had (R52). -/
def State.keepsCountdown (s : State) (r : Resource) (h : Station) (g : Grant) : Bool :=
  decide (s.ctl.station = .resync) && decide (h = s.self) && (s.entry r).holds h g &&
    s.timer.countdowns.any fun c => c.isOf r h g

/-- A resource part overwrites its entry; each hold it carries is given a countdown of lease term plus grace, but for
the kept ones (R52, R74). -/
def State.installEntry (s : State) (r : Resource) (e : Entry) : State :=
  let kept := s.timer.countdowns.filter fun c =>
    decide (c.resource ≠ r) || (s.keepsCountdown r c.holder c.grant && e.holds c.holder c.grant)
  let loaded := (e.holders.filter fun h => !s.keepsCountdown r h.station h.grant).map fun h =>
    ({ resource := r, holder := h.station, grant := h.grant,
       timer := .running (s.bankParams.leaseTermMs + s.bankParams.graceMs) } : Countdown)
  ((s.setEntry r e).withTimer { s.timer with countdowns := kept ++ loaded }).updateImagePending
    fun ip => { ip with installed := ip.installed.set r true }

/-- The attempt is spoiled (R74, R76). -/
def State.spoil (s : State) : State := s.updateImagePending fun ip => { ip with spoiled := true }

/-- An IMAGE part at its target (R74): installed, or, for a resource part before the membership part, spoiling the
attempt. An installed part other than the last loads the image wait (R64). -/
def State.installPart (s : State) (target : Station) (attempt : Fin 4) (last : Bool) (c : PartContent) : State :=
  if target = s.self ∧ (s.ctl.station = .joining ∨ s.ctl.station = .resync) ∧
      s.ownTransfer.map (·.attempt) = some attempt then
    match s.table.imagePending with
    | none => s
    | some ip =>
      if ip.spoiled then s
      else
        match c with
        | .membership members params =>
          let s1 := s.installMembership members params
          if last then s1 else s1.startImageWait
        | .resource r e =>
          if !ip.membershipInstalled then s.spoil
          else if r.val < s.count then
            let s1 := s.installEntry r e
            if last then s1 else s1.startImageWait
          else s
  else s

/-! ## Completing (R43, R76) -/

/-- This station's own last part at a joiner (R43, R76, R200): no effect when the membership part of the attempt was
never installed; else MEMBER, and RESYNC at once when the attempt was spoiled. -/
def State.completeJoin (s : State) : State :=
  match s.table.imagePending with
  | none => s
  | some ip =>
    if !ip.membershipInstalled then s
    else
      let s1 := (s.setMember s.self (.member none)).becomeMember false
      if ip.spoiled then s1.enterResync 1 else s1

/-- This station's own last part in RESYNC (R43, R64, R76, R84): the fields go and the image wait stops; then
reconciliation, or, in a spoiled attempt, the next attempt or exhaustion. -/
def State.completeResync (s : State) (attempt : Fin 4) : State :=
  let s1 := (s.setMember s.self (.member none)).stopWaits
  match s.table.imagePending with
  | none => s1
  | some ip =>
    if !ip.spoiled then s1.reconcile
    else if attempt.val < Config.lastAttempt then
      s1.updateImagePending fun ip => { ip with attempt := attempt }
    else s1.exhaust

/-- The membership effect of a part with its last flag set (R43). -/
def State.lastEffects (s : State) (target : Station) (attempt : Fin 4) : State :=
  match s.recordOfStation target with
  | .joining (some t) =>
    if t.attempt ≠ attempt then s
    else if target = s.self ∧ s.ctl.station = .joining then s.completeJoin
    else if target = s.self then s.setMember target (.member none)
    else (s.setMember target (.member none)).reportPeer .peerJoined target 0
  | .member (some t) =>
    if t.attempt ≠ attempt then s
    else if target = s.self ∧ s.ctl.station = .resync then s.completeResync attempt
    else s.setMember target (.member none)
  | _ => s

/-- At the source, its own part has been applied: the item's next part moves on, or the item is complete (R70). -/
def State.advanceTransfer (s : State) (sender target : Station) (attempt : Fin 4) (last : Bool) (p : Part) : State :=
  if sender = s.self then
    s.withTable { s.table with
      transfers := s.table.transfers.filterMap fun i =>
        if i.target = target ∧ i.attempt = attempt ∧ i.next = p then
          if last then none else some { i with next := p.following }
        else some i }
  else s

/-- An IMAGE part (R43, R70, R74). -/
def State.imageEffects (s : State) (sender target : Station) (attempt : Fin 4) (last : Bool) (c : PartContent) :
    State :=
  let s1 := s.installPart target attempt last c
  let s2 := if last then s1.lastEffects target attempt else s1
  s2.advanceTransfer sender target attempt last c.part

/-- A PRESENCE (R78): a MEMBER compares digests, and enters RESYNC on a difference with a lower-numbered member. -/
def State.presenceEffects (s : State) (sender : Station) (valid : Bool) (digest : BitVec 16) : State :=
  if s.ctl.station = .member ∧ valid ∧ sender ≠ s.self ∧ (s.recordOfStation sender).isMember ∧
      digest ≠ s.digest ∧ sender < s.self then s.enterResync 0
  else s

end Sys2Proof.Machine
end

