-- ==== Sys2Proof/Machine/Requests.lean ====
section
/-! DEFINITION. What the blocks ask the send queue for: when an expired timer or an open debt wants a frame, and the
requests made together when an application ends (spec 03, 04, 05, 07, 11). -/

namespace Sys2Proof.Machine

/-! ## When a frame is wanted -/

/-- A LAPSE is wanted for an expired countdown whose LAPSE is not queued: for an own hold in MEMBER, LEAVING and RESYNC,
for another station's hold in MEMBER alone (R53, R54, R55). -/
def State.lapseWanted (s : State) (c : Countdown) : Bool :=
  c.timer.isExpired && !s.sendq.queued (.lapse c.resource c.holder c.grant) &&
    (if c.holder = s.self then s.ctl.station.inBank else decide (s.ctl.station = .member))

/-- An EVICT is wanted for an expired silence timer (R60). -/
def State.evictWanted (s : State) (t : Station) : Bool :=
  s.timer.silence[t].isExpired && !s.sendq.queued (.evict t) && !(s.recordOfStation t).isAbsent &&
    decide (s.ctl.station = .member)

/-- A PRESENCE is wanted for an expired presence timer (R57). -/
def State.presenceWanted (s : State) : Bool :=
  s.timer.presence.isExpired && !s.sendq.queued .presence && s.listening

/-- A FOUND is wanted for an expired found wait while no record is MEMBER (R63). -/
def State.foundWanted (s : State) : Bool :=
  s.timer.foundWait.isExpired && decide (s.ctl.station = .joining) && !s.anyMember &&
    !s.sendq.queued (.found s.ctl.proposed)

/-- The attempt of a JOINING or resynchronising station: the one in its own record (R65, R66), or, where the record has
none, the one its image-pending state keeps (log entry 22). -/
def State.ownAttempt (s : State) : Fin 4 :=
  match s.ownTransfer, s.table.imagePending with
  | some t, _ => t.attempt
  | none, some ip => ip.attempt
  | none, none => 0

/-- The attempt plus 1. -/
def nextAttempt (a : Fin 4) : Fin 4 := a + 1

/-- The JOIN an expired image wait asks for again (R65). -/
def State.joinWanted (s : State) : Option (Fin 4) :=
  if s.timer.imageWait.isExpired ∧ s.ctl.station = .joining ∧ s.ownAttempt.val < Config.lastAttempt then
    some (nextAttempt s.ownAttempt)
  else none

/-- The SYNC a RESYNC station owes: at attempt 0 until one of its SYNCs has been applied (R81), at the next attempt when
the image wait has expired (R66), and after a spoiled completion (R76). An exhausted station without image-pending
state is one whose own SYNC was applied with no source (R81, R204): it owes none. -/
def State.syncWanted (s : State) : Option (Fin 4) :=
  if s.ctl.station = .resync then
    match s.table.imagePending, s.ownTransfer with
    | none, _ => if s.ctl.exhausted then none else some 0
    | some ip, none =>
      if ip.spoiled ∧ !s.ctl.exhausted ∧ ip.attempt.val < Config.lastAttempt then some (nextAttempt ip.attempt)
      else none
    | some _, some t =>
      if s.timer.imageWait.isExpired ∧ t.attempt.val < Config.lastAttempt then some (nextAttempt t.attempt) else none
  else none

/-- A record has renewal pending (R85). -/
def State.renewWanted (s : State) : Bool := s.stack.any Record.renewalPending && !s.sendq.queued .renew

/-- The owed RELEASE of a record whose own countdown is running, in MEMBER and RESYNC (R97). -/
def State.releaseWanted (s : State) (k : Record) : Option QBody :=
  match k.state with
  | .releasing g true =>
    if (s.countdown k.resource s.self g).isRunning ∧ (s.ctl.station = .member ∨ s.ctl.station = .resync) ∧
        !s.sendq.queued (.release k.resource g) then some (.release k.resource g)
    else none
  | _ => none

/-- The owed WITHDRAW of a record while the station is MEMBER (R96). -/
def State.withdrawWanted (s : State) (k : Record) : Option QBody :=
  if k.owesWithdraw ∧ s.ctl.station = .member ∧ !s.sendq.queued (.withdraw k.resource) then
    some (.withdraw k.resource)
  else none

/-- The LEAVE of an exhausted RESYNC station (R204). -/
def State.leaveWanted (s : State) : Bool :=
  decide (s.ctl.station = .resync) && s.ctl.exhausted && !s.sendq.queued .leave

/-! ## Expired countdowns in the order of their requests (R125) -/

/-- Holds in ascending resource, then holder. -/
def Countdown.before (a b : Countdown) : Bool :=
  decide (a.resource < b.resource) || (decide (a.resource = b.resource) && decide (a.holder ≤ b.holder))

/-- A countdown put into its place. -/
def insertCountdown (c : Countdown) : List Countdown → List Countdown
  | [] => [c]
  | d :: ds => if c.before d then c :: d :: ds else d :: insertCountdown c ds

/-- Countdowns in ascending resource, then holder (R125). -/
def sortCountdowns : List Countdown → List Countdown
  | [] => []
  | c :: cs => insertCountdown c (sortCountdowns cs)

/-- The expired countdowns in that order. -/
def State.expiredCountdowns (s : State) : List Countdown :=
  sortCountdowns (s.timer.countdowns.filter fun c => c.timer.isExpired)

/-! ## Requests -/

/-- The LAPSE of an expired countdown is asked for (R53 to R55). -/
def State.askLapse (s : State) (c : Countdown) : State :=
  if s.lapseWanted c then s.request (.lapse c.resource c.holder c.grant) .general else s

/-- The EVICT of a silent station is asked for (R60). -/
def State.askEvict (s : State) (t : Station) : State :=
  if s.evictWanted t then s.request (.evict t) .general else s

/-- Every EVICT and every LAPSE that is wanted, in ascending kind code and target (R55, R60, R125). -/
def State.askExpired (s : State) : State :=
  let s1 := all16.foldl State.askEvict s
  s1.expiredCountdowns.foldl State.askLapse s1

/-- The LAPSEs that are wanted of this station's own holds (R53, R55). -/
def State.askOwnExpired (s : State) : State :=
  (s.expiredCountdowns.filter fun c => decide (c.holder = s.self)).foldl State.askLapse s

/-- After an application that began in s0: the EVICTs and LAPSEs that are wanted (R55, R60). The application whose
reconciliation makes the station MEMBER asks for the LAPSEs of its own holds alone; those of other stations' holds and
the EVICTs wait for the next tick (R87; log entry 39). -/
def State.askExpiredAfter (s0 s : State) : State :=
  if s0.ctl.station = .resync ∧ s.ctl.station = .member then s.askOwnExpired else s.askExpired

/-- The owed RELEASE of a record that this application has made RELEASING (R97). -/
def State.askNewRelease (s0 s : State) (k : Record) : State :=
  match k.state with
  | .releasing g true =>
    if s0.stack.any (fun k0 => decide (k0.resource = k.resource) && k0.owesRelease) then s
    else s.request (.release k.resource g) .general
  | _ => s

/-- The LEAVE of a station that this application has exhausted (R204). -/
def State.askNewLeave (s0 s : State) : State :=
  if s.ctl.exhausted ∧ !s0.ctl.exhausted ∧ s.ctl.station = .resync then s.request .leave .general else s

/-- The RENEW of a record to which this application has given renewal pending (R85). -/
def State.askNewRenew (s0 s : State) : State :=
  if s.stack.any (fun k => k.renewalPending &&
      !(s0.stack.any fun k0 => decide (k0.resource = k.resource) && k0.renewalPending)) then
    s.request .renew .general
  else s

/-- The SYNC of a station that this application has put into RESYNC, or whose spoiled attempt it has completed (R79,
R76). -/
def State.askNewSync (s0 s : State) : State :=
  match s.syncWanted with
  | some a =>
    if s0.ctl.station ≠ .resync ∨ (s0.ownTransfer.isSome ∧ s.ownTransfer.isNone) then
      s.request (.sync a) .general
    else s
  | none => s

/-- The requests that fall due together after an application that began in s0, in ascending kind code (R125): IMAGE,
EVICT, LAPSE, RELEASE, LEAVE, RENEW, SYNC. -/
def State.askAfter (s0 s : State) : State :=
  let s1 := State.askExpiredAfter s0 s.placeImage
  let s2 := s1.stack.foldl (fun s k => State.askNewRelease s0 s k) s1
  State.askNewSync s0 (State.askNewRenew s0 (State.askNewLeave s0 s2))

/-! ## One application (R6, R27, R46, R72) -/

/-- What follows the effects of a notice: silence timers, the transfer list's tests, the staleness check, the requests,
the gates. A station that the notice has put out of the bank has nothing left to do. -/
def State.finish (s0 s : State) : State :=
  if s.listening then
    (State.askAfter s0 ((State.updateSilence s0 s).testTransfers).staleCheck).evalGates 2
  else s

/-- The oldest notice is taken from the inbound queue; this station's own frame is no longer waiting to be applied
(R126, R130, R154). -/
def State.takeNotice (s : State) (n : Notice) (rest : List Notice) : State :=
  (s.withLine { s.line with inbound := rest }).withSendq
    { s.sendq with awaiting := if n.sender = s.self then none else s.sendq.awaiting }

/-- The application of the oldest notice with these effects: whole, before anything else (R6). -/
def State.applyNotice (s : State) (n : Notice) (rest : List Notice) (effects : State → State) : State :=
  let s1 := s.takeNotice n rest
  if s1.listening then State.finish s1 (effects (s1.evidence n)) else s1

end Sys2Proof.Machine
end

