-- ==== Sys2Proof/Machine/Apply.lean ====
section
/-! DEFINITION. The applications: one meaning per notice kind. Each takes the oldest notice of the inbound queue when it
is of its kind; otherwise the event does not arise and nothing changes (log entry 4). -/

namespace Sys2Proof.Machine

/-- What a command answers. -/
abbrev Result := Host.Outcome State Fault Refusal

/-- The application of a CLAIM at the head of the inbound queue. -/
def State.applyClaim (s : State) : State :=
  match s.line.inbound with
  | { sender := u, body := .claim r m p } :: rest =>
    s.applyNotice { sender := u, body := .claim r m p } rest fun s => s.claimEffects u r m p
  | _ => s

/-- APPLY_CLAIM (R13 to R16). -/
def execApplyClaim (s : State) : Result := .next (s.awake State.applyClaim)

/-- The application of a RELEASE at the head of the inbound queue. -/
def State.applyRelease (s : State) : State :=
  match s.line.inbound with
  | { sender := u, body := .release r g } :: rest =>
    s.applyNotice { sender := u, body := .release r g } rest fun s => s.holdEffects r u g (decide (u = s.self))
  | _ => s

/-- APPLY_RELEASE (R17). -/
def execApplyRelease (s : State) : Result := .next (s.awake State.applyRelease)

/-- The application of a WITHDRAW at the head of the inbound queue. -/
def State.applyWithdraw (s : State) : State :=
  match s.line.inbound with
  | { sender := u, body := .withdraw r } :: rest =>
    s.applyNotice { sender := u, body := .withdraw r } rest fun s => s.withdrawEffects u r
  | _ => s

/-- APPLY_WITHDRAW (R18). -/
def execApplyWithdraw (s : State) : Result := .next (s.awake State.applyWithdraw)

/-- The effect of a LAPSE: the named hold is removed whoever sends it (R19). -/
def State.lapseEffects (s : State) (sender : Station) (resource holder : Byte) (g : Grant) : State :=
  match number16 holder with
  | some h => s.holdEffects resource h g (decide (sender = s.self))
  | none => s

/-- The application of a LAPSE at the head of the inbound queue. -/
def State.applyLapse (s : State) : State :=
  match s.line.inbound with
  | { sender := u, body := .lapse r h g } :: rest =>
    s.applyNotice { sender := u, body := .lapse r h g } rest fun s => s.lapseEffects u r h g
  | _ => s

/-- APPLY_LAPSE (R19). -/
def execApplyLapse (s : State) : Result := .next (s.awake State.applyLapse)

/-- The application of a RENEW at the head of the inbound queue. -/
def State.applyRenew (s : State) : State :=
  match s.line.inbound with
  | { sender := u, body := .renew items } :: rest =>
    s.applyNotice { sender := u, body := .renew items } rest fun s => items.foldl (fun s i => s.renewItem u i) s
  | _ => s

/-- APPLY_RENEW (R20). -/
def execApplyRenew (s : State) : Result := .next (s.awake State.applyRenew)

/-- The application of a JOIN at the head of the inbound queue. -/
def State.applyJoin (s : State) : State :=
  match s.line.inbound with
  | { sender := u, body := .join a p } :: rest =>
    s.applyNotice { sender := u, body := .join a p } rest fun s => s.joinEffects u a p
  | _ => s

/-- APPLY_JOIN (R35, R36). -/
def execApplyJoin (s : State) : Result := .next (s.awake State.applyJoin)

/-- The application of a SYNC at the head of the inbound queue. -/
def State.applySync (s : State) : State :=
  match s.line.inbound with
  | { sender := u, body := .sync a } :: rest =>
    s.applyNotice { sender := u, body := .sync a } rest fun s => s.syncEffects u a
  | _ => s

/-- APPLY_SYNC (R37). -/
def execApplySync (s : State) : Result := .next (s.awake State.applySync)

/-- The application of a FOUND at the head of the inbound queue. -/
def State.applyFound (s : State) : State :=
  match s.line.inbound with
  | { sender := u, body := .found p } :: rest =>
    s.applyNotice { sender := u, body := .found p } rest fun s => s.foundEffects u p
  | _ => s

/-- APPLY_FOUND (R38). -/
def execApplyFound (s : State) : Result := .next (s.awake State.applyFound)

/-- The application of a LEAVE at the head of the inbound queue. -/
def State.applyLeave (s : State) : State :=
  match s.line.inbound with
  | { sender := u, body := .leave } :: rest =>
    s.applyNotice { sender := u, body := .leave } rest fun s => s.leaveEffects u
  | _ => s

/-- APPLY_LEAVE (R44). -/
def execApplyLeave (s : State) : Result := .next (s.awake State.applyLeave)

/-- The application of an EVICT at the head of the inbound queue. -/
def State.applyEvict (s : State) : State :=
  match s.line.inbound with
  | { sender := u, body := .evict t } :: rest =>
    s.applyNotice { sender := u, body := .evict t } rest fun s => s.evictEffects u t
  | _ => s

/-- APPLY_EVICT (R45). -/
def execApplyEvict (s : State) : Result := .next (s.awake State.applyEvict)

/-- The application of an IMAGE part at the head of the inbound queue. -/
def State.applyImage (s : State) : State :=
  match s.line.inbound with
  | { sender := u, body := .image t a last c } :: rest =>
    s.applyNotice { sender := u, body := .image t a last c } rest fun s => s.imageEffects u t a last c
  | _ => s

/-- APPLY_IMAGE (R43, R74). -/
def execApplyImage (s : State) : Result := .next (s.awake State.applyImage)

/-- The application of a PRESENCE at the head of the inbound queue. -/
def State.applyPresence (s : State) : State :=
  match s.line.inbound with
  | { sender := u, body := .presence v d } :: rest =>
    s.applyNotice { sender := u, body := .presence v d } rest fun s => s.presenceEffects u v d
  | _ => s

/-- APPLY_PRESENCE (R78). -/
def execApplyPresence (s : State) : Result := .next (s.awake State.applyPresence)

end Sys2Proof.Machine
end

