-- ==== Sys2Proof/Machine/Line.lean ====
section
/-! DEFINITION. The line events: offering, arbitration lost, conflicts, veto, delivery, truncation, the line states, and
the outcomes of an offer (spec 07, 08). -/

namespace Sys2Proof.Machine

/-! ## The head of the send queue and what an offer builds (R127, R129) -/

/-- Of two frames, earlier first, the one with the lower kind code; the earlier one when they are equal (R127). -/
def SendQueue.better (best : Option QFrame) (f : QFrame) : Option QFrame :=
  if !f.isQueued then best
  else
    match best with
    | none => some f
    | some b => if f.body.kind < b.body.kind then some f else some b

/-- The head: among the queued frames the lowest kind code, and of one kind the earliest entry (R127). -/
def SendQueue.head (q : SendQueue) : Option QFrame := q.frames.foldl SendQueue.better none

/-- The items of a RENEW: one for each HELD record, bottom first (R129). -/
def State.renewItems (s : State) : List (Byte × Grant) :=
  s.stack.filterMap fun k => k.heldGrant.map fun g => (numberByte k.resource, g)

/-- The payload a frame is offered with: content built now for IMAGE, PRESENCE and RENEW, the fixed fields for every
other kind (R58, R71, R129, R146). -/
def State.offered (s : State) : QBody → Payload
  | .image t a p => .image t a (s.isLastPart p) (s.partContent p)
  | .found p => .found p
  | .evict t => .evict (numberByte t)
  | .lapse r h g => .lapse (numberByte r) (numberByte h) g
  | .release r g => .release (numberByte r) g
  | .withdraw r => .withdraw (numberByte r)
  | .leave => .leave
  | .renew => .renew s.renewItems
  | .claim r m p => .claim (numberByte r) m.nibble p.nibble
  | .join a p => .join (BitVec.ofNat 8 a.val) p
  | .sync a => .sync (BitVec.ofNat 8 a.val)
  | .presence =>
    if s.ctl.station = .member ∨ s.ctl.station = .leaving then .presence true s.digest else .presence false 0

/-- The frame enters the on-the-line phase with its content, and the line unit starts sending (R128, R148). -/
def State.startSending (s : State) (f : QFrame) : State :=
  (s.withSendq { s.sendq with
    frames := s.sendq.frames.map fun x =>
      if x.isQueued && decide (x.body.target = f.body.target) then { x with phase := .onLine (s.offered f.body) }
      else x }).withLine { s.line with state := some .sending, frameInHand := true }

/-- Choose the head and offer it; a RENEW that finds no HELD record is removed and the head chosen again (R129). The
number bounds the removals. -/
def State.offerFrom : Nat → State → State
  | 0, s => s
  | n + 1, s =>
    match s.sendq.head with
    | none => s
    | some f =>
      if f.body = .renew ∧ s.renewItems = [] then
        State.offerFrom n (s.withSendq (s.sendq.removeQueued fun b => decide (b = .renew)))
      else s.startSending f

/-- A frame of this station is on the line (R123). -/
def State.onLineFrame (s : State) : Option QFrame := s.sendq.frames.find? fun f => !f.isQueued

/-- The offer conditions (R128). -/
def State.mayOffer (s : State) : Bool :=
  decide (s.line.state = some .idle) && s.line.inbound.isEmpty && s.listening && s.onLineFrame.isNone

/-- The event OFFER. -/
def State.offerHead (s : State) : State :=
  if s.mayOffer then State.offerFrom s.sendq.frames.length s else s

/-- OFFER (R128, R129): while the conditions do not hold, nothing is offered and the queue waits. -/
def execOffer (s : State) : Result := .next (s.awake State.offerHead)

/-! ## Outcomes of an offer (R130 to R133, R137) -/

/-- The frame on the line leaves the queue. -/
def SendQueue.removeOnLine (q : SendQueue) : SendQueue := { q with frames := q.frames.filter QFrame.isQueued }

/-- The frame on the line returns to the queued phase with this retry count; its place and entry order are kept. -/
def SendQueue.returnOnLine (q : SendQueue) (retries : Nat) : SendQueue :=
  { q with frames := q.frames.map fun f => if f.isQueued then f else { f with phase := .queued, retries := retries } }

/-- The resource a frame names (R132). -/
def QBody.resource : QBody → Resource
  | .claim r _ _ => r
  | .release r _ => r
  | .withdraw r => r
  | _ => 0

/-- A SENDING record (R92). -/
def Record.isSending (k : Record) : Bool := decide (k.state = .sending)

/-- The effect of the drop of a host-marked frame, after its SEND_FAILED (R132): a CLAIM pops its SENDING record, a
WITHDRAW returns its record to WAITING, a JOIN returns the station to READY, a LEAVE returns it to MEMBER. -/
def State.hostDrop (s : State) (b : QBody) : State :=
  match b with
  | .claim r _ _ => if (s.recordOf r).any Record.isSending then s.popRecord r else s
  | .withdraw r =>
    if (s.recordOf r).any Record.owesWithdraw then s.setRecord r .waiting else s
  | .join _ _ => if s.ctl.station = .joining then s.returnToReady else s
  | .leave =>
    if s.ctl.station = .leaving then ((s.withCtl { s.ctl with station := .member }).stateCheck).evalGates 3 else s
  | _ => s

/-- The drop of a frame that has left the queue (R131 to R133): SEND_FAILED for a host-marked one; an IMAGE part's
transfer is abandoned and the next one begins; every other requester looks again at its own condition. -/
def State.dropFrame (s : State) (f : QFrame) : State :=
  if f.hostMark then
    (s.raise { kind := .sendFailed, subject := f.body.resource, grant := 0,
               detail := BitVec.ofNat 4 f.body.kind }).hostDrop f.body
  else
    match f.body with
    | .image t _ _ =>
      (s.withTable { s.table with transfers := s.table.transfers.filter fun i => decide (i.target ≠ t) }).placeImage
    | _ => s

/-- The CLAIM of a claim-outstanding record (R95, R137). -/
def State.isWithdrawnClaim (s : State) (b : QBody) : Bool :=
  match b with
  | .claim r _ _ => (s.recordOf r).any fun k => decide (k.state = .withdrawing .claimOutstanding)
  | _ => false

/-- The frame on the line comes back undelivered (R130): a withdrawn CLAIM is removed and its record popped with
WITHDRAWN (R137); a frame whose retry count passes the limit is dropped (R131); a frame that has become stale is
removed (R135); any other is queued again. counts says whether the outcome counts toward the limit. -/
def State.comeBack (s : State) (counts : Bool) : State :=
  match s.onLineFrame with
  | none => s
  | some f =>
    if s.isWithdrawnClaim f.body then
      ((s.withSendq s.sendq.removeOnLine).popRecord f.body.resource).report .withdrawn f.body.resource 0 0
    else if counts ∧ s.ctl.retryLimit.toNat < f.retries + 1 then
      (s.withSendq s.sendq.removeOnLine).dropFrame f
    else if s.tableStale f.body || s.stateStale f.body then s.withSendq s.sendq.removeOnLine
    else s.withSendq (s.sendq.returnOnLine (if counts then f.retries + 1 else f.retries))

/-! ## Arbitration and conflicts (R149, R157, R158) -/

/-- The line unit is sending. -/
def State.isSending (s : State) : Bool := decide (s.line.state = some .sending)

/-- The event ARBITRATION_LOST: the frame returns with an unchanged retry count, and the station receives the winner's
frame. -/
def State.loseArbitration (s : State) : State :=
  if s.isSending then (s.withLine { s.line with state := some .receiving, frameInHand := true }).comeBack false else s

/-- ARBITRATION_LOST (R149). -/
def execArbitrationLost (s : State) : Result := .next (s.awake State.loseArbitration)

/-- The event CONFLICT: the station stops driving and receives; the outcome waits for the end of the frame on the line
(R158). -/
def State.stopAtConflict (s : State) : State :=
  if s.isSending then
    s.withLine { s.line with state := some .receiving, frameInHand := true, conflictPending := true }
  else s

/-- CONFLICT (R157). -/
def execConflict (s : State) : Result := .next (s.awake State.stopAtConflict)

/-- The frame on the line has ended: the outcome of a conflict is settled (R158). The second one in a row is FAULT
(R205). -/
def State.settleConflict (s : State) : State :=
  if s.line.conflictPending then
    if Config.conflictLimit ≤ s.line.conflictCount + 1 then s.enterFault
    else
      (s.withLine { s.line with conflictPending := false, conflictCount := s.line.conflictCount + 1 }).comeBack true
  else s

/-- The line after the end of a frame: RECEIVING until twelve idle cells, no frame in hand, this veto streak (R143,
R155). -/
def State.frameEnded (s : State) (streak : Nat) : State :=
  s.withLine { s.line with state := some .receiving, frameInHand := false, vetoStreak := streak }

/-! ## Veto (R150, R151, R155) -/

/-- The station, as a receiver, detects a receive error in the frame (R150). A frame with this station's number is
damaged, unless this station stopped at a conflict within it (log entry 12). -/
def State.receiveError (s : State) (f : RxFrame) : Bool :=
  match receive f with
  | none => true
  | some n => decide (n.sender = s.self) && !s.line.conflictPending

/-- The inbound queue holds four notices (R155). -/
def State.inboundFull (s : State) : Bool := decide (Config.inboundCapacity ≤ s.line.inbound.length)

/-- The station listened at the veto cell's edge: it listens now, and not because it took JOIN since (R151, R153). -/
def State.listenedAtEdge (s : State) (f : RxFrame) : Bool :=
  s.listening && !(f.joinedSince && decide (s.ctl.station = .joining))

/-- The inbound queue held four notices at the veto cell's edge: since then it can only have lost some (R155). -/
def State.fullAtEdge (s : State) (f : RxFrame) : Bool :=
  decide (Config.inboundCapacity ≤ s.line.inbound.length + f.appliedSince)

/-- The station drives the veto cell of a frame it receives, by what it finds at that cell's edge (R151, R153, R155). -/
def State.drivesVeto (s : State) (f : RxFrame) : Bool :=
  s.line.frameInHand && s.listenedAtEdge f &&
    (s.receiveError f || (s.fullAtEdge f && decide (s.line.vetoStreak < Config.vetoStreakLimit)))

/-- The veto streak after a frame whose veto cell this station drives (R155). -/
def streakUp (n : Nat) : Nat := min Config.vetoStreakLimit (n + 1)

/-- The event FRAME_VETOED: the sender's frame comes back with its retry count raised; at a receiver the streak rises
if it drove the veto cell, else it is cleared, and a conflict is settled. -/
def State.veto (s : State) (f : RxFrame) : State :=
  if s.isSending then (s.frameEnded 0).comeBack true
  else if s.line.state = some .receiving then
    (s.frameEnded (if s.drivesVeto f then streakUp s.line.vetoStreak else 0)).settleConflict
  else s

/-- FRAME_VETOED (R151). -/
def execFrameVetoed (f : RxFrame) (s : State) : Result := .next (s.awake fun s => s.veto f)

/-! ## Delivery (R152, R156) -/

/-- The timer unit is told of a delivered frame (R57, R59, R152): at its sender the presence timer is loaded, elsewhere
the silence timer that is kept for the sender. -/
def State.heard (s : State) (sender : Station) : State :=
  if sender = s.self then s.loadPresence
  else if s.timer.silence[sender].live && s.ctl.station.inBank then
    s.withTimer { s.timer with silence := s.timer.silence.set sender (.running s.timeParams.silenceLimitMs) }
  else s

/-- A delivered notice is dropped for lack of room (R76, R80, R156). -/
def State.dropNotice (s : State) : State :=
  match s.ctl.station with
  | .member => (s.enterResync 1).request (.sync 0) .general
  | .leaving => s.teardownLeave 0
  | .joining | .resync =>
    if s.table.imagePending.any (·.membershipInstalled) then s.spoil else s
  | .offline | .ready | .fault => s

/-- A delivered notice is appended to the inbound queue, or dropped (R152, R156). -/
def State.takeDelivery (s : State) (n : Notice) : State :=
  if s.inboundFull then s.dropNotice else s.withLine { s.line with inbound := s.line.inbound ++ [n] }

/-- The delivery of this station's own frame (R130, R152, R158): it leaves the queue and waits for its application, the
conflict count is cleared, the presence timer loaded, the notice appended. -/
def State.deliverOwn (s : State) (f : QFrame) (content : Payload) : State :=
  let s1 := s.frameEnded 0
  let s2 := s1.withSendq { (s1.sendq.removeOnLine) with awaiting := some f }
  ((s2.withLine { s2.line with
      conflictCount := 0, inbound := s2.line.inbound ++ [{ sender := s.self, body := content }] })).heard s.self

/-- The delivery of a frame to a station that received it: the timers, then the notice, then the settling of a conflict
(R152, R158), by the station state at the end of the veto cell (R153). Where the station does not listen then, or did not
see the start cell, nothing is delivered to it (R153, R162), and nothing where it listens only since the veto cell's
edge and finds a receive error (log entry 44). A frame whose veto cell this station drives is not delivered (log entry
4). -/
def State.deliverReceived (s : State) (f : RxFrame) : State :=
  if s.drivesVeto f then s
  else
    match if s.line.frameInHand && s.listening then receive f else none with
    | some n => (((s.frameEnded 0).heard n.sender).takeDelivery n).settleConflict
    | none => (s.frameEnded 0).settleConflict

/-- The event FRAME_DELIVERED. A sender's own frame is the one it sent (R149), whatever the operand holds. -/
def State.deliver (s : State) (f : RxFrame) : State :=
  if s.isSending then
    match s.onLineFrame with
    | some q =>
      match q.phase with
      | .onLine content => s.deliverOwn q content
      | .queued => s
    | none => s
  else if s.line.state = some .receiving then s.deliverReceived f
  else s

/-- FRAME_DELIVERED (R152). -/
def execFrameDelivered (f : RxFrame) (s : State) : Result := .next (s.awake fun s => s.deliver f)

/-! ## Truncation and the line states (R143, R151, R159, R160) -/

/-- The event FRAME_TRUNCATED: the frame is delivered nowhere, the streak is cleared, a conflict is settled. -/
def State.truncate (s : State) : State :=
  if s.line.state = some .receiving then (s.frameEnded 0).settleConflict else s

/-- FRAME_TRUNCATED (R151, R155, R158). -/
def execFrameTruncated (s : State) : Result := .next (s.awake State.truncate)

/-- The event LINE_IDLE: twelve idle cells in RECEIVING. A frame still in hand has ended before its veto cell (R142,
R151; log entry 23). -/
def State.lineBecomesIdle (s : State) : State :=
  if s.line.state = some .receiving then
    let s1 := if s.line.frameInHand || s.line.conflictPending then s.truncate else s
    if s1.line.state = some .receiving then s1.withLine { s1.line with state := some .idle } else s1
  else s

/-- LINE_IDLE (R143). -/
def execLineIdle (s : State) : Result := .next (s.awake State.lineBecomesIdle)

/-- The event LINE_BLOCKED (R159): the frame in reception is discarded, this station's frame on the line is abandoned
with its retry count unchanged, the timers freeze (R67), and a listening station raises LINE_BLOCKED. -/
def State.lineBecomesBlocked (s : State) : State :=
  if s.line.state = none ∨ s.line.state = some .blocked then s
  else
    let s1 := (s.withLine { s.line with
      state := some .blocked, frameInHand := false, conflictPending := false }).comeBack false
    if s1.listening then s1.raise { kind := .lineBlocked, subject := 0, grant := 0, detail := 0 } else s1

/-- LINE_BLOCKED (R159). -/
def execLineBlocked (s : State) : Result := .next (s.awake State.lineBecomesBlocked)

/-- A frozen timer that is running or expired is loaded in full; a stopped one stays stopped (R67). -/
def Timer.reload (t : Timer) (ms : Nat) : Timer := if t.live then .running ms else .stopped

/-- Every frozen timer is loaded again in full from the parameters in use (R67). -/
def State.reloadFrozen (s : State) : State :=
  s.withTimer { s.timer with
    presence := s.timer.presence.reload s.timeParams.presenceMs,
    silence := Vector.ofFn fun p : Fin 16 => s.timer.silence[p].reload s.timeParams.silenceLimitMs,
    joinWait := s.timer.joinWait.reload s.timeParams.joinWaitMs,
    foundWait := s.timer.foundWait.reload (s.timeParams.foundWaitMs s.timer.foundRank),
    imageWait := s.timer.imageWait.reload s.timeParams.imageWaitMs }

/-- The event LINE_RESTORED (R160): IDLE, the frozen timers loaded again, LINE_RESTORED raised by a listening station.
-/
def State.lineIsRestored (s : State) : State :=
  if s.line.state = some .blocked then
    let s1 := (s.reloadFrozen).withLine { s.line with state := some .idle }
    if s1.listening then s1.raise { kind := .lineRestored, subject := 0, grant := 0, detail := 0 } else s1
  else s

/-- LINE_RESTORED (R160). -/
def execLineRestored (s : State) : Result := .next (s.awake State.lineIsRestored)

/-- The event START_CELL_SEEN: a falling edge on an IDLE line that this station does not drive or join (R143). Commanded
where the station would join (its offer conditions hold and a frame is queued, R148), it stands for a start cell whose
edge came before the conditions, and the station receives: DESIGN CHOICE, log entry 41. -/
def State.seeStartCell (s : State) : State :=
  if s.line.state = some .idle then
    s.withLine { s.line with state := some .receiving, frameInHand := true }
  else s

/-- START_CELL_SEEN (R143). -/
def execStartCellSeen (s : State) : Result := .next (s.awake State.seeStartCell)

end Sys2Proof.Machine
end

