-- ==== Sys2Proof/Machine/HostPort.lean ====
section
/-! DEFINITION. The host port commands: checks in the order of their rules, effects, result codes and response data
(spec 09; R91, R94, R99, R103, R181). -/

namespace Sys2Proof.Machine

/-! ## Result codes (R166) -/

/-- The nine result codes (R166). -/
inductive ResultCode where
  | ok | busy | state | order | full | range | empty | pending | none
deriving DecidableEq, Repr

/-- The value of a result code (R166). -/
def ResultCode.value : ResultCode → Byte
  | .ok => 0x01
  | .busy => 0x02
  | .state => 0x03
  | .order => 0x04
  | .full => 0x05
  | .range => 0x06
  | .empty => 0x07
  | .pending => 0x08
  | .none => 0x09

/-- The command taken is answered with this code alone (R165). -/
def State.answer (s : State) (c : ResultCode) : State := s.respond [c.value]

/-- The command taken is answered OK with these data bytes (R165). -/
def State.answerData (s : State) (data : List Byte) : State := s.respond (ResultCode.ok.value :: data)

/-- A command is taken: SEL is ignored in reset (R196), and between RESET and the rise of SEL the transaction is still
open, so that no second command is taken in it (R164, R182; log entry 31). -/
def State.atPort (s : State) (f : State → State) : State :=
  if s.ctl.inReset || s.port.resetArmed then s else f s

/-- The host slot is free (R126). -/
def State.slotFree (s : State) : Bool := s.sendq.hasRoom .hostSlot

/-! ## CONFIGURE (R168, R198) -/

/-- CONFIGURE as the port takes it. -/
def State.configure (s : State) (leaseTerm grace presence silence count retry : Byte) : State :=
  if s.ctl.station = .offline then
    if (Params.ofOperands leaseTerm grace presence silence count).inRange &&
        retryInRange (orDefault retry Config.defaultRetry) then
      (s.withCtl { s.ctl with
        station := .ready, proposed := Params.ofOperands leaseTerm grace presence silence count,
        retryLimit := orDefault retry Config.defaultRetry }).answer .ok
    else s.answer .range
  else s.answer .state

/-- CONFIGURE (R168). -/
def execConfigure (leaseTerm grace presence silence count retry : Byte) (s : State) : Result :=
  .next (s.atPort fun s => s.configure leaseTerm grace presence silence count retry)

/-! ## JOIN and LEAVE (R169, R170) -/

/-- The blocks of a station whose JOIN is taken (R169, R199): the provisional view, the presence timer, LINE_BLOCKED
where the line is blocked (R160), and the JOIN in the host slot. -/
def State.startJoining (s : State) : State :=
  let s1 := ((s.withCtl { s.ctl with station := .joining }).withTable
    { s.table with members := Vector.replicate 16 .absent }).loadPresence
  let s2 := if s1.frozen then s1.raise { kind := .lineBlocked, subject := 0, grant := 0, detail := 0 } else s1
  s2.placeHost (.join 0 s.ctl.proposed)

/-- JOIN as the port takes it. -/
def State.commandJoin (s : State) : State :=
  if s.ctl.station = .ready ∧ s.stack = [] then s.startJoining.answer .ok else s.answer .state

/-- JOIN (R169). -/
def execJoin (s : State) : Result := .next (s.atPort State.commandJoin)

/-- The blocks of a station whose LEAVE is taken (R170): gates closed with CUT detail 3, transfers abandoned, the tests
of the station state, and the LEAVE in the host slot. -/
def State.startLeaving (s : State) : State :=
  (((((s.withCtl { s.ctl with station := .leaving }).evalGates 3).abandonTransfers).stateCheck)).placeHost .leave

/-- LEAVE as the port takes it. -/
def State.commandLeave (s : State) : State :=
  if s.ctl.station = .member then
    if s.slotFree then s.startLeaving.answer .ok else s.answer .busy
  else s.answer .state

/-- LEAVE (R170). -/
def execLeave (s : State) : Result := .next (s.atPort State.commandLeave)

/-! ## CLAIM (R91, R171) -/

/-- The operands of CLAIM that are in range: a resource below the resource count, a mode and a policy (R91, R171). -/
def State.claimOperands (s : State) (resource modePolicy : Byte) : Option (Resource × Mode × Policy) :=
  match number16 resource, Mode.ofNibble (modePolicy.extractLsb' 4 4), Policy.ofNibble (modePolicy.extractLsb' 0 4) with
  | some r, some m, some p => if r.val < s.count then some (r, m, p) else none
  | _, _, _ => none

/-- The resource is above the top record's, or there is no record (R91). -/
def State.aboveTop (s : State) (r : Resource) : Bool :=
  match s.top with
  | some k => decide (k.resource < r)
  | none => true

/-- The checks of CLAIM after RANGE, in order; ok where every check passes (R91). -/
def State.claimCheck (s : State) (r : Resource) : ResultCode :=
  if Config.stackDepth ≤ s.stack.length then .full
  else if !s.aboveTop r then .order
  else if s.top.any (fun k => k.state.isPending) then .pending
  else if !s.slotFree then .busy
  else .ok

/-- A SENDING record is pushed, and its CLAIM placed in the host slot (R91). -/
def State.pushClaim (s : State) (r : Resource) (m : Mode) (p : Policy) : State :=
  (s.withStack (s.stack ++ [{ resource := r, mode := m, policy := p, state := .sending }])).placeHost (.claim r m p)

/-- CLAIM as the port takes it. -/
def State.commandClaim (s : State) (resource modePolicy : Byte) : State :=
  if s.ctl.station = .member then
    match s.claimOperands resource modePolicy with
    | none => s.answer .range
    | some (r, m, p) =>
      match s.claimCheck r with
      | .ok => (s.pushClaim r m p).answer .ok
      | c => s.answer c
  else s.answer .state

/-- CLAIM (R91, R171). -/
def execClaim (resource modePolicy : Byte) (s : State) : Result :=
  .next (s.atPort fun s => s.commandClaim resource modePolicy)

/-! ## RELEASE (R99, R172) -/

/-- RELEASE at the top record (R99). -/
def State.releaseTop (s : State) : State :=
  match s.top with
  | none => s.answer .empty
  | some k =>
    match k.state with
    | .held g _ =>
      if s.slotFree then
        (((s.setRecord k.resource (.releasing g false)).evalResource k.resource 1 g).placeHost
          (.release k.resource g)).answer .ok
      else s.answer .busy
    | .expired g => (s.setRecord k.resource (.releasing g false)).answer .ok
    | .lapsed _ => (s.popRecord k.resource).answer .ok
    | .sending | .waiting | .withdrawing _ | .releasing _ _ => s.answer .pending

/-- RELEASE as the port takes it. -/
def State.commandRelease (s : State) : State :=
  match s.ctl.station with
  | .member | .resync | .ready => s.releaseTop
  | .offline | .joining | .leaving | .fault => s.answer .state

/-- RELEASE (R99, R172). -/
def execRelease (s : State) : Result := .next (s.atPort State.commandRelease)

/-! ## RENEW (R103, R136, R173) -/

/-- The host command is merged with the queued RENEW, which gains the host mark (R136). -/
def SendQueue.mergeRenew (q : SendQueue) : SendQueue :=
  { q with frames := q.frames.map fun f => if f.body = .renew then { f with hostMark := true } else f }

/-- RENEW in a state that takes it. -/
def State.renewHeld (s : State) : State :=
  if !s.stack.any Record.isHeld then s.answer .none
  else if s.renewQueued then (s.withSendq s.sendq.mergeRenew).answer .ok
  else if s.slotFree then (s.placeHost .renew).answer .ok
  else s.answer .busy

/-- RENEW as the port takes it. -/
def State.commandRenew (s : State) : State :=
  match s.ctl.station with
  | .member | .resync => s.renewHeld
  | .offline | .ready | .joining | .leaving | .fault => s.answer .state

/-- RENEW (R103, R173). -/
def execRenew (s : State) : Result := .next (s.atPort State.commandRenew)

/-! ## WITHDRAW (R94, R137, R174) -/

/-- A CLAIM naming this resource. -/
def QBody.isClaimOf (r : Resource) : QBody → Bool
  | .claim r' _ _ => decide (r' = r)
  | _ => false

/-- The CLAIM of a resource is in the queued phase (R92). -/
def State.claimQueued (s : State) (r : Resource) : Bool :=
  s.sendq.frames.any fun f => f.isQueued && f.body.isClaimOf r

/-- WITHDRAW at the top record (R94). -/
def State.withdrawTop (s : State) : State :=
  match s.top with
  | none => s.answer .none
  | some k =>
    match k.state with
    | .sending =>
      if s.claimQueued k.resource then
        (((s.withSendq (s.sendq.removeQueued (QBody.isClaimOf k.resource))).popRecord k.resource).report
          .withdrawn k.resource 0 0).answer .ok
      else (s.setRecord k.resource (.withdrawing .claimOutstanding)).answer .ok
    | .waiting =>
      if s.slotFree then
        ((s.setRecord k.resource (.withdrawing .withdrawOwed)).placeHost (.withdraw k.resource)).answer .ok
      else s.answer .busy
    | .held _ _ | .expired _ | .releasing _ _ | .lapsed _ | .withdrawing _ => s.answer .none

/-- WITHDRAW as the port takes it. -/
def State.commandWithdraw (s : State) : State :=
  match s.ctl.station with
  | .member | .resync => s.withdrawTop
  | .offline | .ready | .joining | .leaving | .fault => s.answer .state

/-- WITHDRAW (R94, R174). -/
def execWithdraw (s : State) : Result := .next (s.atPort State.commandWithdraw)

/-! ## Reads (R175 to R178) -/

/-- The code of a station state (R175). -/
def StationState.code : StationState → Byte
  | .offline => 0
  | .ready => 1
  | .joining => 2
  | .member => 3
  | .leaving => 4
  | .resync => 5
  | .fault => 6

/-- The MEMBER records in this station's table (R175). -/
def State.memberCount (s : State) : Nat := (all16.filter fun t => s.table.members[t].isMember).length

/-- The seven data bytes of READ STATUS (R175). -/
def State.statusBytes (s : State) : List Byte :=
  [s.ctl.station.code, numberByte s.ctl.number, BitVec.ofNat 8 s.stack.length,
   BitVec.ofNat 8 s.sendq.frames.length, BitVec.ofNat 8 s.port.reports.length, s.statusFlags,
   BitVec.ofNat 8 s.memberCount]

/-- READ STATUS (R175). -/
def execReadStatus (s : State) : Result := .next (s.atPort fun s => s.answerData s.statusBytes)

/-- The state byte of a record (R176). -/
def RecordState.code : RecordState → Byte
  | .sending => 1
  | .waiting => 2
  | .withdrawing _ => 3
  | .held _ _ => 4
  | .expired _ => 5
  | .releasing _ _ => 6
  | .lapsed _ => 7

/-- The policy bit of a record: 0 WAIT, 1 TRY (R176). -/
def Policy.bit : Policy → BitVec 1
  | .wait => 0
  | .tryOnce => 1

/-- The four bytes of a record slot (R176). -/
def Record.slotBytes (k : Record) : List Byte :=
  ((highNibble k.resource) ++ k.mode.bit ++ k.policy.bit ++ BitVec.ofBool k.renewalPending ++
    BitVec.ofBool k.owesWithdraw) :: k.state.code :: twoBytes (k.state.grant.getD 0)

/-- The bytes of record slot j: of the record at that depth, or four times 00h (R176). -/
def State.slotBytes (s : State) (j : Nat) : List Byte :=
  match s.stack[j]? with
  | some k => k.slotBytes
  | none => [0, 0, 0, 0]

/-- The seventeen data bytes of READ STACK (R176). -/
def State.stackBytes (s : State) : List Byte :=
  BitVec.ofNat 8 s.stack.length :: (s.slotBytes 0 ++ s.slotBytes 1 ++ s.slotBytes 2 ++ s.slotBytes 3)

/-- READ STACK (R176). -/
def execReadStack (s : State) : Result := .next (s.atPort fun s => s.answerData s.stackBytes)

/-- READ ENTRY as the port takes it (R177). -/
def State.commandReadEntry (s : State) (resource : Byte) : State :=
  if s.ctl.station.inBank then
    match number16 resource with
    | some r => if r.val < s.count then s.answerData (entryBytes (s.entry r)) else s.answer .range
    | none => s.answer .range
  else s.answer .state

/-- READ ENTRY (R177). -/
def execReadEntry (resource : Byte) (s : State) : Result := .next (s.atPort fun s => s.commandReadEntry resource)

/-- The data bytes of READ MEMBERS (R178). -/
def State.memberBytes (s : State) : List Byte :=
  setsBytes s.table.members ++ [BitVec.ofNat 8 s.table.bank.isSome.toNat] ++ s.bankParams.bytes ++
    s.ctl.proposed.bytes ++ [s.ctl.retryLimit] ++ transfersBytes s.table.members

/-- READ MEMBERS (R178). -/
def execReadMembers (s : State) : Result := .next (s.atPort fun s => s.answerData s.memberBytes)

/-! ## TAKE REPORT (R179, R180, R189) -/

/-- The four bytes of a report (R180). -/
def Report.bytes (r : Report) : List Byte :=
  BitVec.ofNat 8 r.kind.code :: ((highNibble r.subject) ++ r.detail) :: twoBytes r.grant

/-- TAKE REPORT as the port takes it: the oldest report goes, and the lost flag with the last one (R179, R189). -/
def State.commandTakeReport (s : State) : State :=
  match s.port.reports with
  | [] => s.answer .empty
  | r :: rest =>
    (s.withPort { s.port with reports := rest, lost := s.port.lost && !rest.isEmpty }).answerData r.bytes

/-- TAKE REPORT (R179). -/
def execTakeReport (s : State) : Result := .next (s.atPort State.commandTakeReport)

/-! ## SET MASK, RESET and unknown codes (R164, R181, R182) -/

/-- SET MASK as the port takes it (R181). -/
def State.commandSetMask (s : State) (value : BitVec 24) : State :=
  if value.extractLsb' 19 5 = 0 then
    (s.withPort { s.port with mask := value.extractLsb' 0 19 }).answer .ok
  else s.answer .range

/-- SET MASK (R181). -/
def execSetMask (value : BitVec 24) (s : State) : Result := .next (s.atPort fun s => s.commandSetMask value)

/-- RESET as the port takes it: the soft reset waits for the rise of SEL (R182). -/
def State.commandReset (s : State) : State := (s.withPort { s.port with resetArmed := true }).answer .ok

/-- RESET (R182). -/
def execReset (s : State) : Result := .next (s.atPort State.commandReset)

/-- UNKNOWN_COMMAND_CODE (R164): answered RANGE, nothing changes. A code that the framing table assigns is no unknown
code (log entry 29). -/
def execUnknownCommandCode (code : Byte) (s : State) : Result :=
  if assignedCodes.contains code then .refused (.assignedCode code)
  else .next (s.atPort fun s => s.answer .range)

end Sys2Proof.Machine
end

