-- ==== Sys2Proof/Machine/Resets.lean ====
section
/-! DEFINITION. The resets: the soft reset at the rise of SEL, the assertion of RSTN, and the release of reset (spec 11;
R182, R196, R197). -/

namespace Sys2Proof.Machine

/-- The soft reset (R197, R182): READY, the number, the proposed parameters, the retry limit and the mask kept, every
other block at its soft-reset values, the GIN levels being pins. SEL has risen, and the port keeps nothing of the
transaction. -/
def State.softReset (s : State) : State :=
  { s with
    ctl := { s.ctl with station := .ready, exhausted := false },
    table := TableUnit.clear,
    timer := TimerUnit.clear,
    sendq := SendQueue.clear,
    stack := [],
    gate := closedGates s.gate,
    line := LineUnit.afterReset,
    port := { HostPort.afterPinReset false with mask := s.port.mask } }

/-- SOFT_RESET (R182): at the rise of SEL that ends the transaction in which RESET was taken; without one the event does
not arise (log entry 4). -/
def execSoftReset (s : State) : Result :=
  .next (s.awake fun s => if s.port.resetArmed then s.softReset else s)

/-- Every block but the station number at its pin-reset values, the line unit as given (R195, R196). The levels of GIN
and SEL are pins; the transaction in progress is abandoned (R163). -/
def State.pinReset (s : State) (held : Bool) (number : Station) (line : LineUnit) : State :=
  { s with
    ctl := { inReset := held, station := .offline, number := number, proposed := Params.defaults,
             retryLimit := Config.defaultRetry, exhausted := false },
    table := TableUnit.clear,
    timer := TimerUnit.clear,
    sendq := SendQueue.clear,
    stack := [],
    gate := closedGates s.gate,
    line := line,
    port := HostPort.afterPinReset s.port.serial.selLow }

/-- RSTN_ASSERTED (R196): the station is held in reset; everything in progress is abandoned (log entry 27). -/
def execRstnAsserted (s : State) : Result := .next (s.pinReset true s.ctl.number LineUnit.off)

/-- RESET_RELEASE (R196): the straps are sampled, STN3 the most significant, and the station is OFFLINE. Power-on comes
without an RSTN_ASSERTED before it (log entry 28). -/
def execResetRelease (straps : BitVec 4) (s : State) : Result :=
  .next (s.pinReset false (nibbleNumber straps) LineUnit.afterReset)

end Sys2Proof.Machine
end

