-- ==== Sys2Proof/Machine/GatePins.lean ====
section
/-! DEFINITION. The transitions of the GIN inputs (spec 06; R115, R117). -/

namespace Sys2Proof.Machine

/-- The transition of GINn from high to low at a station that is not in reset: an open channel is armed or passes the
assertion (R115); a closed one raises DENIED with the first reason that applies (R117). -/
def State.ginFalls (s : State) (n : Fin 8) : State :=
  if s.gate[n].opened then s.setChannel n { s.gate[n] with armed := true, ginLow := true }
  else
    (s.setChannel n { s.gate[n] with ginLow := true }).raise
      { kind := .denied, subject := channelResource n, grant := 0, detail := s.deniedDetail n }

/-- GIN_ASSERTED (R115, R117). A GIN that is low already makes no transition (log entry 4); in reset the input is
ignored, and only its level is kept (R196). -/
def execGinAsserted (n : Fin 8) (s : State) : Result :=
  .next (if s.gate[n].ginLow then s
    else if s.ctl.inReset then s.setChannel n { s.gate[n] with ginLow := true }
    else s.ginFalls n)

/-- GIN_RELEASED (R115): GOUTn follows an armed channel's GINn; nothing is raised (R116, R117). -/
def execGinReleased (n : Fin 8) (s : State) : Result := .next (s.setChannel n { s.gate[n] with ginLow := false })

end Sys2Proof.Machine
end

