-- ==== Sys2Proof/Machine/TimerEvents.lean ====
section
/-! DEFINITION. The timer expiries, the requests made again at a tick, and the tick (spec 03; R76, R81, R85, R96, R97,
R125, R204). -/

namespace Sys2Proof.Machine

/-! ## Expiries (R48, R53, R54) -/

/-- The time of a running timer has run out (R48); its expiry is taken next. -/
def Timer.due (t : Timer) : Bool := decide (t = .running 0)

/-- The countdown of the hold of a station on a resource, when its time has run out. -/
def State.dueCountdown (s : State) (r : Resource) (h : Station) : Option Countdown :=
  s.timer.countdowns.find? fun c => decide (c.resource = r) && decide (c.holder = h) && c.timer.due

/-- A countdown expires (R53, R54): for an own hold the claim stack unit is told, and the LAPSE is asked for. -/
def State.countdownExpires (s : State) (c : Countdown) : State :=
  let s1 := s.setCountdown c.resource c.holder c.grant .expired
  let s2 := if c.holder = s.self ∧ s.ctl.station.inBank then s1.onCountdownExpired c.resource else s1
  s2.askLapse { c with timer := .expired }

/-- The event HOLD_COUNTDOWN_EXPIRY; the countdown's time must have run out (log entries 4 and 6). -/
def State.expireCountdown (s : State) (r : Resource) (h : Station) : State :=
  match s.dueCountdown r h with
  | some c => s.countdownExpires c
  | none => s

/-- HOLD_COUNTDOWN_EXPIRY (R53, R54). -/
def execHoldCountdownExpiry (r : Resource) (h : Station) (s : State) : Result :=
  .next (s.awake fun s => s.expireCountdown r h)

/-- A presence timer, silence timer or wait expires now: its time has run out and it is not frozen (R48, R67). -/
def State.isDue (s : State) (t : Timer) : Bool := t.due && !s.frozen

/-- The PRESENCE of an expired presence timer is asked for (R57). -/
def State.askPresence (s : State) : State := if s.presenceWanted then s.request .presence .presence else s

/-- The event PRESENCE_TIMER_EXPIRY. -/
def State.expirePresence (s : State) : State :=
  if s.isDue s.timer.presence then (s.withTimer { s.timer with presence := .expired }).askPresence else s

/-- PRESENCE_TIMER_EXPIRY (R57). -/
def execPresenceTimerExpiry (s : State) : Result := .next (s.awake State.expirePresence)

/-- The event SILENCE_TIMER_EXPIRY. -/
def State.expireSilence (s : State) (p : Station) : State :=
  if s.isDue s.timer.silence[p] then
    (s.withTimer { s.timer with silence := s.timer.silence.set p .expired }).askEvict p
  else s

/-- SILENCE_TIMER_EXPIRY (R60). -/
def execSilenceTimerExpiry (p : Station) (s : State) : Result := .next (s.awake fun s => s.expireSilence p)

/-- The rank: the JOINING records with a lower number than this station's (R39). -/
def State.foundRank (s : State) : Nat :=
  (all16.filter fun t => decide (t < s.self) && s.table.members[t].isJoining).length

/-- The image source in this station's own record (R39). -/
def State.ownSource (s : State) : Option Station := s.ownTransfer.bind fun t => t.source

/-- The event JOIN_WAIT_EXPIRY: the found wait with its rank where no source is recorded, else the image wait (R62,
R63). -/
def State.expireJoinWait (s : State) : State :=
  if s.isDue s.timer.joinWait then
    if s.ctl.station = .joining then
      if s.ownSource.isNone then
        s.withTimer { s.timer with
          joinWait := .expired, foundRank := s.foundRank,
          foundWait := .running (s.timeParams.foundWaitMs s.foundRank) }
      else
        s.withTimer { s.timer with joinWait := .expired, imageWait := .running s.timeParams.imageWaitMs }
    else s.withTimer { s.timer with joinWait := .expired }
  else s

/-- JOIN_WAIT_EXPIRY (R62). -/
def execJoinWaitExpiry (s : State) : Result := .next (s.awake State.expireJoinWait)

/-- The FOUND of an expired found wait is asked for (R63). -/
def State.askFound (s : State) : State :=
  if s.foundWanted then s.request (.found s.ctl.proposed) .general else s

/-- The event FOUND_WAIT_EXPIRY. -/
def State.expireFoundWait (s : State) : State :=
  if s.isDue s.timer.foundWait then (s.withTimer { s.timer with foundWait := .expired }).askFound else s

/-- FOUND_WAIT_EXPIRY (R63). -/
def execFoundWaitExpiry (s : State) : Result := .next (s.awake State.expireFoundWait)

/-- The JOIN of an expired image wait is asked for (R65). -/
def State.askJoin (s : State) : State :=
  match s.joinWanted with
  | some a => s.request (.join a s.ctl.proposed) .general
  | none => s

/-- The SYNC a RESYNC station owes is asked for (R66, R76, R81). -/
def State.askSync (s : State) : State :=
  match s.syncWanted with
  | some a => s.request (.sync a) .general
  | none => s

/-- The LEAVE of an exhausted station is asked for (R204). -/
def State.askLeave (s : State) : State := if s.leaveWanted then s.request .leave .general else s

/-- join exhausted (R201): back to READY, then JOIN_FAILED. -/
def State.joinExhausted (s : State) : State :=
  (s.returnToReady).raise { kind := .joinFailed, subject := 0, grant := 0, detail := 0 }

/-- The event IMAGE_WAIT_EXPIRY: the next attempt, or at attempt 2 exhaustion (R65, R66). -/
def State.expireImageWait (s : State) : State :=
  if s.isDue s.timer.imageWait then
    let s1 := s.withTimer { s.timer with imageWait := .expired }
    match s.ctl.station with
    | .joining => if s.ownAttempt.val < Config.lastAttempt then s1.askJoin else s1.joinExhausted
    | .resync => if s.ownAttempt.val < Config.lastAttempt then s1.askSync else (s1.exhaust).askLeave
    | .offline | .ready | .member | .leaving | .fault => s1
  else s

/-- IMAGE_WAIT_EXPIRY (R65, R66). -/
def execImageWaitExpiry (s : State) : Result := .next (s.awake State.expireImageWait)

/-! ## Requests made again at a tick -/

/-- The LAPSEs of the expired countdowns of a station's hold on a resource are asked for again (R55). -/
def State.askLapseAgain (s : State) (r : Resource) (h : Station) : State :=
  (s.timer.countdowns.filter fun c => decide (c.resource = r) && decide (c.holder = h)).foldl State.askLapse s

/-- LAPSE_ASKED_AGAIN (R55). -/
def execLapseAskedAgain (r : Resource) (h : Station) (s : State) : Result :=
  .next (s.awake fun s => s.askLapseAgain r h)

/-- EVICT_ASKED_AGAIN (R60). -/
def execEvictAskedAgain (p : Station) (s : State) : Result := .next (s.awake fun s => s.askEvict p)

/-- PRESENCE_ASKED_AGAIN (R57). -/
def execPresenceAskedAgain (s : State) : Result := .next (s.awake State.askPresence)

/-- FOUND_ASKED_AGAIN (R63). -/
def execFoundAskedAgain (s : State) : Result := .next (s.awake State.askFound)

/-- JOIN_ASKED_AGAIN (R65). -/
def execJoinAskedAgain (s : State) : Result := .next (s.awake State.askJoin)

/-- SYNC_ASKED_AGAIN (R66, R76, R81). -/
def execSyncAskedAgain (s : State) : Result := .next (s.awake State.askSync)

/-- The RENEW of reconciliation is asked for again (R85). -/
def State.askRenew (s : State) : State := if s.renewWanted then s.request .renew .general else s

/-- RECONCILIATION_RENEW_ASKED (R85). -/
def execReconciliationRenewAsked (s : State) : Result := .next (s.awake State.askRenew)

/-- The owed RELEASE of a record is asked for again (R97). -/
def State.askOwedRelease (s : State) (k : Record) : State :=
  match s.releaseWanted k with
  | some b => s.request b .general
  | none => s

/-- OWED_RELEASE_ASKED (R97). -/
def execOwedReleaseAsked (s : State) : Result := .next (s.awake fun s => s.stack.foldl State.askOwedRelease s)

/-- EXHAUSTED_LEAVE_ASKED (R204). -/
def execExhaustedLeaveAsked (s : State) : Result := .next (s.awake State.askLeave)

/-- The owed WITHDRAW of a record is placed where the host slot is free (R96). -/
def State.placeOwedWithdraw (s : State) (k : Record) : State :=
  match s.withdrawWanted k with
  | some b => s.request b .hostSlot
  | none => s

/-- OWED_WITHDRAW_PLACED (R96). -/
def execOwedWithdrawPlaced (s : State) : Result := .next (s.awake fun s => s.stack.foldl State.placeOwedWithdraw s)

/-! ## The tick (R48), taken by step on an empty queue (log entry 5) -/

/-- A running timer has one millisecond less (R48). -/
def Timer.tick : Timer → Timer
  | .running n => .running (n - 1)
  | t => t

/-- The timers one millisecond later: hold countdowns always, every other timer unless it is frozen (R48, R67). -/
def State.advance (s : State) : State :=
  let countdowns := s.timer.countdowns.map fun c => { c with timer := c.timer.tick }
  if s.frozen then s.withTimer { s.timer with countdowns := countdowns }
  else
    s.withTimer { s.timer with
      countdowns := countdowns, presence := s.timer.presence.tick,
      silence := Vector.ofFn fun p : Fin 16 => s.timer.silence[p].tick,
      joinWait := s.timer.joinWait.tick, foundWait := s.timer.foundWait.tick, imageWait := s.timer.imageWait.tick }

/-- One command when a condition holds. -/
def commandIf (b : Bool) (c : Instr) : List Instr := if b then [c] else []

/-- What a countdown brings about at a tick: its expiry, or its LAPSE asked for again. -/
def State.countdownCommands (s : State) (c : Countdown) : List Instr :=
  commandIf c.timer.due (.holdCountdownExpiry c.resource c.holder) ++
    commandIf (s.lapseWanted c) (.lapseAskedAgain c.resource c.holder)

/-- What a silence timer brings about at a tick. -/
def State.silenceCommands (s : State) (p : Station) : List Instr :=
  commandIf (s.isDue s.timer.silence[p]) (.silenceTimerExpiry p) ++ commandIf (s.evictWanted p) (.evictAskedAgain p)

/-- The image wait's expiry at this tick asks for a LEAVE (R66). -/
def State.imageWaitLeaves (s : State) : Bool :=
  decide (s.ctl.station = .resync) && decide (Config.lastAttempt ≤ s.ownAttempt.val)

/-- The events of a tick, in the order in which their requests are taken (R125). JOIN_WAIT_EXPIRY makes no request; it
comes last, since the wait that it loads may expire at the same tick, and that expiry is taken too (R48; log entry 5).
-/
def State.tickCommands (s : State) : List Instr :=
  commandIf (s.isDue s.timer.foundWait) .foundWaitExpiry ++ commandIf s.foundWanted .foundAskedAgain ++
  all16.flatMap s.silenceCommands ++
  (sortCountdowns s.timer.countdowns).flatMap s.countdownCommands ++
  commandIf (s.stack.any fun k => (s.releaseWanted k).isSome) .owedReleaseAsked ++
  commandIf (s.slotFree && s.stack.any fun k => (s.withdrawWanted k).isSome) .owedWithdrawPlaced ++
  commandIf (s.isDue s.timer.imageWait && s.imageWaitLeaves) .imageWaitExpiry ++
  commandIf s.leaveWanted .exhaustedLeaveAsked ++
  commandIf s.renewWanted .reconciliationRenewAsked ++
  commandIf (s.isDue s.timer.imageWait && !s.imageWaitLeaves) .imageWaitExpiry ++
  commandIf (s.joinWanted.any fun a => !s.sendq.queued (.join a s.ctl.proposed)) .joinAskedAgain ++
  commandIf (s.syncWanted.any fun a => !s.sendq.queued (.sync a)) .syncAskedAgain ++
  commandIf (s.isDue s.timer.presence) .presenceTimerExpiry ++ commandIf s.presenceWanted .presenceAskedAgain ++
  commandIf (s.isDue s.timer.joinWait) .joinWaitExpiry

/-- The tick (R48): the timers advance, and the events that fall due wait as commands. In reset no timer runs (R196). -/
def State.tick (s : State) : State :=
  s.awake fun s => (s.advance).withPending (s.pending ++ (s.advance).tickCommands)

end Sys2Proof.Machine
end

