-- ==== Sys2Proof/Machine/Dispatch.lean ====
section
/-! DEFINITION. One arm per command: the meaning it calls. -/

namespace Sys2Proof.Machine

/-- The effect of a command on everything but the queue of waiting commands. -/
def exec (i : Instr) (s : State) : Host.Outcome State Fault Refusal :=
  match i with
  | .configure leaseTerm grace presence silence count retry => Sys2Proof.Machine.execConfigure leaseTerm grace presence silence count retry s
  | .join => Sys2Proof.Machine.execJoin s
  | .leave => Sys2Proof.Machine.execLeave s
  | .claim resource modePolicy => Sys2Proof.Machine.execClaim resource modePolicy s
  | .release => Sys2Proof.Machine.execRelease s
  | .renew => Sys2Proof.Machine.execRenew s
  | .withdraw => Sys2Proof.Machine.execWithdraw s
  | .readStatus => Sys2Proof.Machine.execReadStatus s
  | .readStack => Sys2Proof.Machine.execReadStack s
  | .readEntry resource => Sys2Proof.Machine.execReadEntry resource s
  | .readMembers => Sys2Proof.Machine.execReadMembers s
  | .takeReport => Sys2Proof.Machine.execTakeReport s
  | .setMask value => Sys2Proof.Machine.execSetMask value s
  | .reset => Sys2Proof.Machine.execReset s
  | .unknownCommandCode code => Sys2Proof.Machine.execUnknownCommandCode code s
  | .softReset => Sys2Proof.Machine.execSoftReset s
  | .rstnAsserted => Sys2Proof.Machine.execRstnAsserted s
  | .resetRelease straps => Sys2Proof.Machine.execResetRelease straps s
  | .ginAsserted channel => Sys2Proof.Machine.execGinAsserted channel s
  | .ginReleased channel => Sys2Proof.Machine.execGinReleased channel s
  | .offer => Sys2Proof.Machine.execOffer s
  | .arbitrationLost => Sys2Proof.Machine.execArbitrationLost s
  | .conflict => Sys2Proof.Machine.execConflict s
  | .frameVetoed frame => Sys2Proof.Machine.execFrameVetoed frame s
  | .frameDelivered frame => Sys2Proof.Machine.execFrameDelivered frame s
  | .frameTruncated => Sys2Proof.Machine.execFrameTruncated s
  | .lineIdle => Sys2Proof.Machine.execLineIdle s
  | .lineBlocked => Sys2Proof.Machine.execLineBlocked s
  | .lineRestored => Sys2Proof.Machine.execLineRestored s
  | .applyClaim => Sys2Proof.Machine.execApplyClaim s
  | .applyRelease => Sys2Proof.Machine.execApplyRelease s
  | .applyWithdraw => Sys2Proof.Machine.execApplyWithdraw s
  | .applyLapse => Sys2Proof.Machine.execApplyLapse s
  | .applyRenew => Sys2Proof.Machine.execApplyRenew s
  | .applyJoin => Sys2Proof.Machine.execApplyJoin s
  | .applySync => Sys2Proof.Machine.execApplySync s
  | .applyFound => Sys2Proof.Machine.execApplyFound s
  | .applyLeave => Sys2Proof.Machine.execApplyLeave s
  | .applyEvict => Sys2Proof.Machine.execApplyEvict s
  | .applyImage => Sys2Proof.Machine.execApplyImage s
  | .applyPresence => Sys2Proof.Machine.execApplyPresence s
  | .holdCountdownExpiry resource holder => Sys2Proof.Machine.execHoldCountdownExpiry resource holder s
  | .presenceTimerExpiry => Sys2Proof.Machine.execPresenceTimerExpiry s
  | .silenceTimerExpiry peer => Sys2Proof.Machine.execSilenceTimerExpiry peer s
  | .joinWaitExpiry => Sys2Proof.Machine.execJoinWaitExpiry s
  | .foundWaitExpiry => Sys2Proof.Machine.execFoundWaitExpiry s
  | .imageWaitExpiry => Sys2Proof.Machine.execImageWaitExpiry s
  | .lapseAskedAgain resource holder => Sys2Proof.Machine.execLapseAskedAgain resource holder s
  | .evictAskedAgain peer => Sys2Proof.Machine.execEvictAskedAgain peer s
  | .presenceAskedAgain => Sys2Proof.Machine.execPresenceAskedAgain s
  | .foundAskedAgain => Sys2Proof.Machine.execFoundAskedAgain s
  | .joinAskedAgain => Sys2Proof.Machine.execJoinAskedAgain s
  | .syncAskedAgain => Sys2Proof.Machine.execSyncAskedAgain s
  | .reconciliationRenewAsked => Sys2Proof.Machine.execReconciliationRenewAsked s
  | .owedReleaseAsked => Sys2Proof.Machine.execOwedReleaseAsked s
  | .exhaustedLeaveAsked => Sys2Proof.Machine.execExhaustedLeaveAsked s
  | .owedWithdrawPlaced => Sys2Proof.Machine.execOwedWithdrawPlaced s
  | .startCellSeen => Sys2Proof.Machine.execStartCellSeen s

end Sys2Proof.Machine
end

