-- ==== Sys2Proof/Machine/SerialPins.lean ====
section
/-! DEFINITION. The serial pins of the host port, edge by edge (spec 09, R163 to R165): which row, if any, an edge of
SEL or SCK is. The rows of spec/opcode_table.json begin where a command is taken; these definitions say when that is
(log entry 9). -/

namespace Sys2Proof.Machine

/-- The state with these serial pins. -/
def State.withSerial (s : State) (p : SerialPins) : State := s.withPort { s.port with serial := p }

/-- A transaction is in progress: not in reset, SEL low, and risen since the release of RSTN (R163). -/
def State.inTransaction (s : State) : Bool :=
  !s.ctl.inReset && s.port.serial.selLow && !s.port.serial.waitsForRise

/-- SEL falls: a transaction begins (R163). In reset only the level of the pin is kept (R196). -/
def State.selFalls (s : State) : State :=
  if s.port.serial.selLow then s else s.withSerial (.idle true s.ctl.inReset)

/-- SEL rises: the transaction ends, and an incomplete byte or command in it is discarded (R163, R164). After RESET this
is the soft reset (R182). -/
def State.selRises (s : State) : Result :=
  if s.port.serial.selLow then
    if s.port.resetArmed then execSoftReset (s.withSerial (.idle false false)) else .next (s.withSerial (.idle false false))
  else .next s

/-- The command that the next bit completes: the bytes complete with it carry a command, those before it none (R164). -/
def SerialPins.completes (p : SerialPins) (bit : Bool) : Option Instr :=
  match commandTaken (bytesOfBits p.sampled) with
  | some _ => none
  | none => commandTaken (bytesOfBits (p.sampled ++ [bit]))

/-- SCK rises: SDI is sampled, and the bit that completes the last operand byte takes the command, whose row happens
now, as one event (R163, R164). While SEL is high, in reset, and until SEL has risen after the release of RSTN, SCK and
SDI are ignored. -/
def State.sckRises (s : State) (sdi : Bool) : Result :=
  if s.inTransaction then
    let s1 := s.withSerial { s.port.serial with sampled := s.port.serial.sampled ++ [sdi] }
    match s.port.serial.completes sdi with
    | some c => exec c s1
    | none => .next s1
  else .next s

/-- SCK falls: SDO moves on by one bit (R163). -/
def State.sckFalls (s : State) : State :=
  if s.inTransaction then s.withSerial { s.port.serial with falls := s.port.serial.falls + 1 } else s

end Sys2Proof.Machine
end

