-- ==== Sys2Proof/Safety.lean ====
section
/-! DEFINITION. The laws of a station that the spec's rules keep: what a sound state is, in the terms the statements
use. Every law is said of one state, and holds of the model's own queue of waiting commands whatever it is. -/

namespace Sys2Proof.Safety

open Sys2Proof.Machine

/-! ## The lease table and the membership table (R1, R2, R3, R8, R12, R29, R147) -/

/-- What an image part carries keeps the laws of its table: of one entry, or of the membership records (R147). -/
def payloadLawful : Payload → Bool
  | .image _ _ _ (.resource _ e) => e.lawful
  | .image _ _ _ (.membership members _) => membersLawful members
  | _ => true

/-- The content of a frame on the line keeps them. -/
def frameLawful (f : QFrame) : Bool :=
  match f.phase with
  | .queued => true
  | .onLine c => payloadLawful c

/-- Every entry keeps the laws of one entry: its state follows its holders (R2), no station stands in it twice (R3),
grant numbers are 1 to 65535 and distinct (R8), and its first waiter is not grantable (R12). Every membership record
keeps R29: a JOINING one has an attempt, attempts are 0 to 2, and a source is another station. The image parts in the
inbound queue and on the line carry such entries and records. -/
def TableLaw (s : State) : Prop :=
  (∀ r, (s.entry r).lawful) ∧ membersLawful s.table.members ∧ (∀ n ∈ s.line.inbound, payloadLawful n.body) ∧
    ∀ f ∈ s.sendq.frames, frameLawful f

/-- An entry at or above the resource count is FREE with counter 0 and empty lists (R1, R4). -/
def UnusedLaw (s : State) : Prop := ∀ r : Resource, s.count ≤ r.val → s.entry r = Entry.clear

/-! ## Countdowns (R25, R50) -/

/-- One countdown for each hold in the table, and none beside (R25). -/
def CountdownLaw (s : State) : Prop :=
  (∀ (r : Resource) (h : Station) (g : Grant),
      s.timer.countdowns.any (fun c => c.isOf r h g) = (s.entry r).holds h g) ∧
    (s.timer.countdowns.map fun c => (c.resource, c.holder, c.grant)).Nodup

/-! ## The claim stack (R89) -/

/-- At most four records, resources strictly rising from bottom to top, and only the top record SENDING, WAITING,
WITHDRAWING or RELEASING (R89). -/
def StackLaw (s : State) : Prop :=
  s.stack.length ≤ Config.stackDepth ∧ (s.stack.map (·.resource)).Pairwise (· < ·) ∧
    ∀ k ∈ s.stack.dropLast, k.state.isPending = false

/-! ## The gates (R112, R113, R115) -/

/-- A channel is open exactly while the condition of R113 holds, and armed only while open (R112). -/
def GateLaw (s : State) : Prop :=
  ∀ n : Fin 8, s.gate[n].opened = s.gateCondition n ∧ (s.gate[n].armed = true → s.gate[n].opened = true)

/-! ## The send queue and the line (R124, R126, R128, R154, R155, R158) -/

/-- The frame delivered and not yet applied here holds this place (R126, R130). -/
def awaitingIn (q : SendQueue) (p : Place) : Nat := if q.awaiting.any fun f => decide (f.place = p) then 1 else 0

/-- One host frame, one image part, one PRESENCE and five others at most, no two of one kind and target (R124). -/
def QueueLaw (s : State) : Prop :=
  s.sendq.inPlace .hostSlot + awaitingIn s.sendq .hostSlot ≤ 1 ∧
    s.sendq.inPlace .image + awaitingIn s.sendq .image ≤ 1 ∧
    s.sendq.inPlace .presence ≤ 1 ∧ s.sendq.inPlace .general ≤ Config.generalPlaces ∧
    (s.sendq.frames.map fun f => f.body.target).Nodup

/-- One frame of this station on the line at a time, and one exactly while the line unit is sending or has stopped at a
conflict that is not settled; the inbound queue empty until that frame's end (R128); the bounds of the inbound queue,
the veto streak and the conflict count (R154, R155, R158). -/
def LineLaw (s : State) : Prop :=
  (s.sendq.frames.filter fun f => !f.isQueued).length =
      (if s.line.state = some .sending ∨ s.line.conflictPending = true then 1 else 0) ∧
    (s.line.conflictPending = true → s.line.state = some .receiving) ∧
    (s.line.state = some .sending ∨ s.line.conflictPending = true → s.line.inbound = []) ∧
    s.line.inbound.length ≤ Config.inboundCapacity ∧ s.line.vetoStreak ≤ Config.vetoStreakLimit ∧
    s.line.conflictCount < Config.conflictLimit

/-! ## Reports and configuration (R168, R186, R189) -/

/-- At most sixteen reports, at least one while the lost flag is set, and every CUT with a detail of 0 to 3 (R180, R186,
R189). -/
def ReportLaw (s : State) : Prop :=
  s.port.reports.length ≤ Config.reportCapacity ∧ (s.port.lost = true → s.port.reports ≠ []) ∧
    ∀ r ∈ s.port.reports, r.kind = .cut → r.detail.toNat ≤ 3

/-- The proposed parameters and the retry limit are within their ranges (R31, R168). -/
def ConfigLaw (s : State) : Prop := s.ctl.proposed.inRange = true ∧ retryInRange s.ctl.retryLimit = true

/-! ## The transfer list (R69) -/

/-- Images are owed by a MEMBER only, one to a target, and never to this station (R69). -/
def TransferLaw (s : State) : Prop :=
  (s.table.transfers ≠ [] → s.ctl.station = .member) ∧ (s.table.transfers.map (·.target)).Nodup ∧
    ∀ i ∈ s.table.transfers, i.target ≠ s.self

/-! ## The states that follow no bank (R30, R49, R90, R195, R196, R199, R205) -/

/-- The states that follow no bank. -/
def followsNoBank : StationState → Bool
  | .offline | .ready | .fault => true
  | .joining | .member | .leaving | .resync => false

/-- A LAPSED record. -/
def isLapsed (k : Record) : Bool :=
  match k.state with
  | .lapsed _ => true
  | _ => false

/-- In OFFLINE, READY and FAULT the tables are clear, the timers stopped, the queues empty, no frame of this station on
the line and every channel closed (R30, R49, R199, R205); the claim stack is empty outside the bank, but for LAPSED
records in READY (R90); the exhausted flag is set in RESYNC only (R195); the line unit keeps nothing in FAULT and while
the station is held in reset, which is OFFLINE (R162, R196). -/
def QuietLaw (s : State) : Prop :=
  (followsNoBank s.ctl.station = true →
      s.table = TableUnit.clear ∧ s.timer = TimerUnit.clear ∧ s.sendq = SendQueue.clear ∧ s.line.inbound = [] ∧
        s.line.state ≠ some .sending ∧ s.line.conflictPending = false ∧ ∀ n : Fin 8, s.gate[n].opened = false) ∧
    ((s.ctl.station = .offline ∨ s.ctl.station = .joining ∨ s.ctl.station = .fault) → s.stack = []) ∧
    (s.ctl.station = .ready → ∀ k ∈ s.stack, isLapsed k = true) ∧
    (s.ctl.exhausted = true → s.ctl.station = .resync) ∧
    (s.ctl.station = .fault → s.line = LineUnit.off) ∧
    (s.ctl.inReset = true → s.ctl.station = .offline ∧ s.line = LineUnit.off)

/-! ## Terms of the statements -/

/-- The port takes commands: the station is not held in reset, and no RESET waits for the rise of SEL (R164, R182,
R196). -/
def TakesCommands (s : State) : Prop := s.ctl.inReset = false ∧ s.port.resetArmed = false

/-- The host slot is free: no host frame queued, none on the line, and none delivered and not yet applied (R126). -/
def SlotFree (s : State) : Prop :=
  (∀ f ∈ s.sendq.frames, f.place ≠ .hostSlot) ∧ ∀ f, s.sendq.awaiting = some f → f.place ≠ .hostSlot

/-- No frame of this kind code is queued, in any place and either phase. -/
def NoneQueued (s : State) (kind : Nat) : Prop := ∀ f ∈ s.sendq.frames, f.body.kind ≠ kind

/-- The state with another response and nothing else changed (R165). -/
def answered (s : State) (bytes : List Byte) : State := { s with port := { s.port with response := bytes } }

/-- A frame as it enters the host slot (R123, R125). -/
def hostFrame (b : QBody) : QFrame := { body := b, place := .hostSlot, retries := 0, hostMark := true, phase := .queued }

/-- A frame as it enters a general place (R123, R125). -/
def generalFrame (b : QBody) : QFrame := { body := b, place := .general, retries := 0, hostMark := false, phase := .queued }

/-- One frame of this station is on the line, with this content, between these frames of the queue (R123, R128). -/
def OnLine (s : State) (before : List QFrame) (f : QFrame) (content : Payload) (after : List QFrame) : Prop :=
  s.sendq.frames = before ++ f :: after ∧ f.phase = .onLine content ∧ ∀ x ∈ before ++ after, x.phase = .queued

/-- A CLAIM whose record is WITHDRAWING with the claim outstanding (R95, R137). -/
def WithdrawnClaim (s : State) (b : QBody) : Prop :=
  ∃ r m p k, b = .claim r m p ∧ s.recordOf r = some k ∧ k.state = .withdrawing .claimOutstanding

/-- The frame has become stale by the tables or by the station state (R134, R135). -/
def Stale (s : State) (b : QBody) : Prop := s.tableStale b = true ∨ s.stateStale b = true

/-- At the veto cell's edge of this frame the station listened: it listens, and has not taken JOIN since (R151, R153). -/
def ListenedAtEdge (s : State) (frame : RxFrame) : Prop :=
  s.listening = true ∧ ¬(frame.joinedSince = true ∧ s.ctl.station = .joining)

/-- At that edge it did not listen, or its inbound queue had room, or its veto streak was 8 (R155). -/
def RoomAtEdge (s : State) (frame : RxFrame) : Prop :=
  ListenedAtEdge s frame → s.line.inbound.length + frame.appliedSince < 4 ∨ 8 ≤ s.line.vetoStreak

/-- Stack records below and above this one are of other resources (R89). -/
def OnlyRecord (s : State) (below : List Record) (k : Record) (above : List Record) : Prop :=
  s.stack = below ++ k :: above ∧ ∀ x ∈ below ++ above, x.resource ≠ k.resource

/-- No frame of this kind and target is queued or delivered and not yet applied, and a general place is free (R124,
R125). -/
def GeneralRoom (s : State) (b : QBody) : Prop :=
  (∀ f ∈ s.sendq.frames, f.body.target ≠ b.target) ∧ (∀ f, s.sendq.awaiting = some f → f.body.target ≠ b.target) ∧
    s.sendq.inPlace .general < 5

/-- No hold countdown and no silence timer is expired, so that nothing asks for a LAPSE or an EVICT before the other
requests of an application (R55, R60, R125). -/
def NothingExpired (s : State) : Prop :=
  (∀ c ∈ s.timer.countdowns, c.timer ≠ .expired) ∧ ∀ p : Station, s.timer.silence[p] ≠ .expired

/-- The state with one more frame in the send queue, as the latest. -/
def queuedLast (s : State) (f : QFrame) : State :=
  { s with sendq := { s.sendq with frames := s.sendq.frames ++ [f] } }

/-- The commands of the host port (spec 09). -/
def isHostCommand : Instr → Bool
  | .configure .. | .join | .leave | .claim .. | .release | .renew | .withdraw | .readStatus | .readStack
  | .readEntry .. | .readMembers | .takeReport | .setMask .. | .reset | .unknownCommandCode .. => true
  | .softReset | .rstnAsserted | .resetRelease .. | .ginAsserted .. | .ginReleased .. | .offer | .arbitrationLost
  | .conflict | .frameVetoed .. | .frameDelivered .. | .frameTruncated | .lineIdle | .lineBlocked | .lineRestored
  | .applyClaim | .applyRelease | .applyWithdraw | .applyLapse | .applyRenew | .applyJoin | .applySync | .applyFound
  | .applyLeave | .applyEvict | .applyImage | .applyPresence | .holdCountdownExpiry .. | .presenceTimerExpiry
  | .silenceTimerExpiry .. | .joinWaitExpiry | .foundWaitExpiry | .imageWaitExpiry | .lapseAskedAgain ..
  | .evictAskedAgain .. | .presenceAskedAgain | .foundAskedAgain | .joinAskedAgain | .syncAskedAgain
  | .reconciliationRenewAsked | .owedReleaseAsked | .exhaustedLeaveAsked | .owedWithdrawPlaced | .startCellSeen => false

/-- The station states in which a host port command is taken (the table "Where each command is taken", spec 09, section
9.2); every other command is no host port command. -/
def takenIn (c : Instr) (st : StationState) : Bool :=
  match c with
  | .configure .. => decide (st = .offline)
  | .join => decide (st = .ready)
  | .leave => decide (st = .member)
  | .claim .. => decide (st = .member)
  | .release => decide (st = .ready ∨ st = .member ∨ st = .resync)
  | .renew => decide (st = .member ∨ st = .resync)
  | .withdraw => decide (st = .member ∨ st = .resync)
  | .readEntry .. => decide (st = .member ∨ st = .leaving ∨ st = .resync)
  | c => isHostCommand c

/-- The rows that act while the station is held in reset: the reset pins, and the GIN levels (R196). -/
def actsInReset : Instr → Bool
  | .rstnAsserted | .resetRelease .. | .ginAsserted .. | .ginReleased .. => true
  | _ => false

/-- The items of the transfer list that stand after an application: their target's record carries the transfer at that
attempt with this station as source (R72). -/
def standing (s : State) : List TransferItem :=
  s.table.transfers.filter fun i =>
    decide (s.table.members[i.target].transfer = some { attempt := i.attempt, source := some s.self })

/-- Between two send queues frames leave and new ones, queued with retry count 0, enter behind those that stay; a frame
on the line stays (R125, R135). -/
def QueueMoves (before after : List QFrame) : Prop :=
  ∃ kept added, after = kept ++ added ∧ kept.Sublist before ∧ (∀ f ∈ before, f.phase ≠ .queued → f ∈ kept) ∧
    ∀ f ∈ added, f.retries = 0 ∧ f.phase = .queued

/-- What the application of a notice about one entry leaves alone, at a station that follows the bank: the station
controller, the membership table, the bank parameters, the image-pending state, the transfers that stand, the line but
for the notice taken, the presence timer, the waits, the silence timers of the stations in the bank, the mask, the
response, the GIN levels and the waiting commands. Reports are only added, the delivered frame of this station ends with
its own notice, and the send queue loses stale frames and takes requests. -/
def EntryNoticeFrame (s t : State) : Prop :=
  t.ctl = s.ctl ∧ t.table.members = s.table.members ∧ t.table.bank = s.table.bank ∧
    t.table.imagePending = s.table.imagePending ∧ t.table.transfers = standing s ∧
    t.line = { s.line with inbound := s.line.inbound.tail } ∧
    t.timer.presence = s.timer.presence ∧ t.timer.joinWait = s.timer.joinWait ∧
    t.timer.foundWait = s.timer.foundWait ∧ t.timer.foundRank = s.timer.foundRank ∧
    t.timer.imageWait = s.timer.imageWait ∧
    (∀ p : Station, p ≠ s.self → s.table.members[p] ≠ .absent → t.timer.silence[p] = s.timer.silence[p]) ∧
    (∀ n rest, s.line.inbound = n :: rest →
      t.sendq.awaiting = if n.sender = s.self then none else s.sendq.awaiting) ∧
    QueueMoves s.sendq.frames t.sendq.frames ∧ s.port.reports <+: t.port.reports ∧ t.port.mask = s.port.mask ∧
    t.port.response = s.port.response ∧ t.port.resetArmed = s.port.resetArmed ∧ t.port.serial = s.port.serial ∧
    (∀ n : Fin 8, t.gate[n].ginLow = s.gate[n].ginLow) ∧ t.pending = s.pending

/-- The station follows the bank in every entry (R5), is not in reset, and has this notice at the head of its inbound
queue. -/
def Applies (s : State) (n : Notice) (rest : List Notice) : Prop :=
  s.ctl.inReset = false ∧ s.ctl.station.inBank = true ∧ s.line.inbound = n :: rest

/-- The row that applies a notice of this kind. -/
def rowOf : Payload → Instr
  | .image .. => .applyImage
  | .found .. => .applyFound
  | .evict .. => .applyEvict
  | .lapse .. => .applyLapse
  | .release .. => .applyRelease
  | .withdraw .. => .applyWithdraw
  | .leave => .applyLeave
  | .renew .. => .applyRenew
  | .claim .. => .applyClaim
  | .join .. => .applyJoin
  | .sync .. => .applySync
  | .presence .. => .applyPresence

/-- What a notice shows of its sender in the provisional view of a joiner, which holds no bank parameters (R41): a peer
whose record there is not MEMBER sends a kind that only a MEMBER sends. -/
def ShowsMember (s : State) (n : Notice) : Prop :=
  s.table.bank = none ∧ n.sender ≠ s.self ∧ s.table.members[n.sender].isMember = false ∧
    (∀ a p, n.body ≠ .join a p) ∧ (∀ p, n.body ≠ .found p) ∧ ∀ d, n.body ≠ .presence false d

/-- The membership table of a joiner once a notice's sender is shown to be MEMBER: the joiner's own image source is
chosen again from it (R41). -/
def gainedView (s : State) (u : Station) : Vector MemberRecord 16 :=
  let view := s.table.members.set u (.member none)
  match s.table.members[s.self] with
  | .joining (some tr) => view.set s.self (.joining (some { tr with source := chooseSource view s.self tr.attempt }))
  | _ => view

/-- What an applied notice then makes of a joiner's membership table (R35 to R37, R41, R43 to R45), this station not
being its target. -/
def joinerView (members : Vector MemberRecord 16) (provisional : Bool) (n : Notice) : Vector MemberRecord 16 :=
  let sends : Bool := members[n.sender].isMember
  match n.body with
  | .join ab p =>
    if ab.toNat ≤ 2 ∧ p.inRange = true then members.set n.sender (.joining (some
      { attempt := Fin.ofNat 4 ab.toNat, source := chooseSource members n.sender (Fin.ofNat 4 ab.toNat) })) else members
  | .sync ab =>
    if ab.toNat ≤ 2 ∧ sends = true then
      match chooseSource members n.sender (Fin.ofNat 4 ab.toNat) with
      | some q => members.set n.sender (.member (some { attempt := Fin.ofNat 4 ab.toNat, source := some q }))
      | none => members.set n.sender (.member none)
    else members
  | .leave => if sends then members.set n.sender .absent else members
  | .evict tb =>
    if h : tb.toNat < 16 then
      if sends = true ∧ members[tb.toNat] ≠ .absent then members.set tb.toNat .absent else members
    else members
  | .image u a last _ =>
    if last = true ∧ (members[u].transfer).map (·.attempt) = some a then members.set u (.member none) else members
  | .found _ =>
    if provisional = true ∧ members[n.sender] = .absent then
      members.set n.sender (.joining (some { attempt := 0, source := none }))
    else members
  | .claim .. | .release .. | .withdraw .. | .lapse .. | .renew .. | .presence .. => members

end Sys2Proof.Safety
end

