-- ==== Sys2Proof/Certificates/Slice0/Obligations.lean ====
section
/-! DEFINITION. The statements for the provers. -/

open Sys2Proof Sys2Proof.Machine Sys2Proof.Safety

/-! ## The machine -/

/-- A step runs the command at the front of the queue on the state with the queue's rest. The queue is the model's own
(log entry 11). -/
def Obligations.StepRunsTheFrontCommand : Prop :=
  ∀ (c : Instr) (rest : List Instr) (s : State), step { s with pending := c :: rest } = exec c { s with pending := rest }

/-- On an empty queue the tick of R48 passes: every hold countdown that runs has one millisecond less, every other
running timer too unless the line is BLOCKED (R67), nothing else changes, and what has run out waits as an expiry, the
join wait's behind every other. In reset no timer runs (R196). That the tick stands on an empty queue, and that order,
are the model's choices (log entry 5). -/
def Obligations.IdleStepIsTheTick : Prop :=
  ∀ s : State, s.pending = [] →
    (s.ctl.inReset = true → step s = .next s) ∧
    (s.ctl.inReset = false → ∃ t, step s = .next t ∧
      t.ctl = s.ctl ∧ t.table = s.table ∧ t.sendq = s.sendq ∧ t.stack = s.stack ∧ t.gate = s.gate ∧ t.line = s.line ∧
      t.port = s.port ∧ t.timer.foundRank = s.timer.foundRank ∧
      t.timer.countdowns = s.timer.countdowns.map (fun c => { c with timer := c.timer.tick }) ∧
      (∀ c ∈ t.timer.countdowns, c.timer = .running 0 → .holdCountdownExpiry c.resource c.holder ∈ t.pending) ∧
      (s.line.state = some .blocked →
        t.timer.presence = s.timer.presence ∧ t.timer.silence = s.timer.silence ∧
        t.timer.joinWait = s.timer.joinWait ∧ t.timer.foundWait = s.timer.foundWait ∧
        t.timer.imageWait = s.timer.imageWait) ∧
      (s.line.state ≠ some .blocked →
        t.timer.presence = s.timer.presence.tick ∧ (∀ p : Station, t.timer.silence[p] = s.timer.silence[p].tick) ∧
        t.timer.joinWait = s.timer.joinWait.tick ∧ t.timer.foundWait = s.timer.foundWait.tick ∧
        t.timer.imageWait = s.timer.imageWait.tick ∧
        (t.timer.presence = .running 0 → .presenceTimerExpiry ∈ t.pending) ∧
        (∀ p : Station, t.timer.silence[p] = .running 0 → .silenceTimerExpiry p ∈ t.pending) ∧
        (t.timer.joinWait = .running 0 → ∃ before, t.pending = before ++ [.joinWaitExpiry]) ∧
        (t.timer.foundWait = .running 0 → .foundWaitExpiry ∈ t.pending) ∧
        (t.timer.imageWait = .running 0 → .imageWaitExpiry ∈ t.pending)))

/-- No command touches the commands that wait behind it; that queue is the model's own (log entry 11). -/
def Obligations.CommandsKeepTheQueue : Prop :=
  ∀ (c : Instr) (s t : State), exec c s = .next t → t.pending = s.pending

/-- While the station is held in reset, the host port, the line, the applications and the timers do nothing: every row
but the reset pins and the GIN levels leaves the state as it is (R196). That such a row, commanded all the same, changes
nothing is the model's choice (log entry 27). -/
def Obligations.HeldInResetNothingActs : Prop :=
  ∀ (c : Instr) (s : State), s.ctl.inReset = true → c.wf = true → actsInReset c = false → exec c s = .next s

/-! ## Invariants that every step keeps -/

/-- The laws of the lease table (R2, R3 within an entry, R8, R12) and of the membership records (R29) are kept, and the
image parts in the inbound queue and on the line carry lawful entries and records (R147). -/
def Obligations.StepKeepsTheTableLaw : Prop :=
  ∀ s t : State, TableLaw s → step s = .next t → TableLaw t

/-- Entries at or above the resource count stay FREE with counter 0 and empty lists (R1, R33). -/
def Obligations.StepKeepsTheUnusedLaw : Prop :=
  ∀ s t : State, UnusedLaw s → step s = .next t → UnusedLaw t

/-- There is one countdown for each hold in the table and none beside (R25), in a station whose table is lawful. -/
def Obligations.StepKeepsTheCountdownLaw : Prop :=
  ∀ s t : State, TableLaw s → CountdownLaw s → step s = .next t → CountdownLaw t

/-- The claim stack keeps its law: at most four records, resources rising, only the top one pending (R89). -/
def Obligations.StepKeepsTheStackLaw : Prop :=
  ∀ s t : State, StackLaw s → step s = .next t → StackLaw t

/-- Every channel is open exactly while the condition of R113 holds, and armed only while open (R112), in a station
whose stack is lawful. -/
def Obligations.StepKeepsTheGateLaw : Prop :=
  ∀ s t : State, StackLaw s → GateLaw s → step s = .next t → GateLaw t

/-- The send queue keeps its places, no two frames of one kind and target (R124), one frame on the line at a time
(R128), and the line unit its bounds (R154, R155, R158). -/
def Obligations.StepKeepsTheQueueAndLineLaws : Prop :=
  ∀ s t : State, QueueLaw s → LineLaw s → step s = .next t → QueueLaw t ∧ LineLaw t

/-- At most sixteen reports, at least one while the lost flag is set, every CUT with a detail of 0 to 3 (R180, R186,
R189); the proposed parameters and the retry limit stay within their ranges (R168). -/
def Obligations.StepKeepsTheReportAndConfigLaws : Prop :=
  ∀ s t : State, ReportLaw s → ConfigLaw s → step s = .next t → ReportLaw t ∧ ConfigLaw t

/-- Images are owed by a MEMBER only, one to a target, never to this station (R69). A station that follows no bank
stays clear (R30, R49, R199, R205), the stack follows R90, the exhausted flag stands in RESYNC only (R195), and the
line unit keeps nothing in FAULT and in reset (R162, R196), where the station stands as OFFLINE (log entry 27). -/
def Obligations.StepKeepsTheTransferAndQuietLaws : Prop :=
  ∀ s t : State, step s = .next t → (TransferLaw s → TransferLaw t) ∧ (QuietLaw s → QuietLaw t)

/-- The state the model has right after reset, with its chosen station number and GIN levels (log entries 1 and 2),
keeps every law. -/
def Obligations.ResetKeepsEveryLaw : Prop :=
  TableLaw State.reset ∧ UnusedLaw State.reset ∧ CountdownLaw State.reset ∧ StackLaw State.reset ∧
    GateLaw State.reset ∧ QueueLaw State.reset ∧ LineLaw State.reset ∧ ReportLaw State.reset ∧
    ConfigLaw State.reset ∧ TransferLaw State.reset ∧ QuietLaw State.reset

/-- A GOUT output is low only while its GIN input is low, the station is MEMBER, and the stack holds a HELD record for
that resource, without renewal pending, whose own countdown is running (R115). -/
def Obligations.LowOutputNeedsALiveLease : Prop :=
  ∀ (s : State) (n : Fin 8), GateLaw s → s.goutLow n = true →
    s.gate[n].ginLow = true ∧ s.ctl.station = .member ∧
      ∃ k g ms, k ∈ s.stack ∧ k.resource = channelResource n ∧ k.state = .held g false ∧
        s.countdown k.resource s.self g = .running ms

/-! ## Frames and transactions -/

/-- Every notice whose payload is well-formed (a RENEW of one to four items; an image part of a lawful entry, or of
lawful membership records) comes back from its frame, cell for cell, when each cell's edge comes one cell after the last
(R141, R142, R144 to R147). A frame as the cells between start cell and gap cell is the model's form of it (log entry
7), and that a membership part with parameters out of range is received like any other is the model's choice (log entry
30). -/
def Obligations.FrameRoundTrip : Prop :=
  ∀ n : Notice,
    (∀ items, n.body = .renew items → 1 ≤ items.length ∧ items.length ≤ 4) → payloadLawful n.body = true →
    decodeFrame (encodeFrame n) = some n ∧
      receive { bits := encodeFrame n, edges := (encodeFrame n).map (fun _ => Config.cellNs), stuckLow := false } = some n

/-- Every host port command is taken from the bytes of its transaction, whatever follows them, and not before its last
operand byte has arrived: clocked in bit by bit, most significant bit first, each rising edge of SCK before that one and
after it changes the serial pins' side alone, and the one that completes it is the command. SEL rising ends the
transaction, and what it held is discarded. With SEL high, in reset and before SEL has risen after it, SCK is ignored;
SDO is at high impedance with SEL high and in reset, and else 0 up to the last operand byte, then the response bit by
bit, then 0 (R163 to R165). The pins edge by edge stand beside the rows (log entry 9). -/
def Obligations.TransactionRoundTrip : Prop :=
  (∀ (c : Instr) (bytes more : List Byte), c.wf = true → transactionBytes c = some bytes →
    commandTaken (bytes ++ more) = some c ∧ (∀ n, n < bytes.length → commandTaken (bytes.take n) = none) ∧
    ∀ (s : State) (n falls : Nat) (sdi : Bool), s.ctl.inReset = false → (byteBits (bytes ++ more))[n]? = some sdi →
      let clocked (k : Nat) : State := { s with port := { s.port with serial :=
        { selLow := true, waitsForRise := false, sampled := (byteBits (bytes ++ more)).take k, falls := falls } } }
      (n + 1 = 8 * bytes.length → (clocked n).sckRises sdi = exec c (clocked (n + 1))) ∧
      (n + 1 ≠ 8 * bytes.length → (clocked n).sckRises sdi = .next (clocked (n + 1)))) ∧
  ∀ s : State,
    let pins := s.port.serial
    let withPins (p : SerialPins) : State := { s with port := { s.port with serial := p } }
    (s.ctl.inReset = false → pins.selLow = false →
      s.selFalls = withPins { selLow := true, waitsForRise := false, sampled := [], falls := 0 }) ∧
    (pins.selLow = true → s.port.resetArmed = false →
      s.selRises = .next (withPins { selLow := false, waitsForRise := false, sampled := [], falls := 0 })) ∧
    (s.ctl.inReset = true ∨ pins.selLow = false ∨ pins.waitsForRise = true →
      (∀ sdi, s.sckRises sdi = .next s) ∧ s.sckFalls = s) ∧
    (s.ctl.inReset = true ∨ pins.selLow = false → s.sdo = none) ∧
    (s.ctl.inReset = false → pins.selLow = true → pins.waitsForRise = false →
      s.sckFalls = withPins { pins with falls := pins.falls + 1 } ∧
      (pins.falls < 8 → s.sdo = some false) ∧
      ∀ code rest k j, bytesOfBits pins.sampled = code :: rest → pins.falls = 8 * k + j → j < 8 →
        (k ≤ operandCount code → s.sdo = some false) ∧
        (∀ i, k = operandCount code + 1 + i →
          s.sdo = some (((s.port.response[i]?).getD 0).getLsbD (7 - j))))

/-! ## The lease table's rules -/

/-- A claim is grantable when the entry is FREE, or SHARED with a SHARED claim and no waiter, and in no other case
(R7). -/
def Obligations.GrantableClaims : Prop :=
  ∀ (e : Entry) (m : Mode),
    e.grantable m = true ↔ e.state = .free ∨ (e.state = .shared ∧ m = .shared ∧ e.waiters = [])

/-- The grant number is the first candidate, counting on from the grant counter and from 65535 to 1, that no hold of
the entry has; at most fifteen are passed over; it becomes the new hold's number and the counter; numbers from 1 to
65535 that no two holds share stay so (R8). -/
def Obligations.GrantNumberIsTheFirstFree : Prop :=
  ∀ (e : Entry) (u : Station) (m : Mode), e.holders.length ≤ 15 →
    ∃ passed : List Grant,
      passed.length ≤ 15 ∧ (∀ x ∈ passed, x ∈ e.holders.map (·.grant)) ∧
      List.IsChain (fun a b : Grant => b = if a = 65535 then 1 else a + 1) (e.counter :: (passed ++ [e.nextGrant])) ∧
      e.nextGrant ≠ 0 ∧ e.nextGrant ∉ e.holders.map (·.grant) ∧
      (e.grant u m).counter = e.nextGrant ∧
      (e.grant u m).holders = e.holders ++ [{ station := u, mode := m, grant := e.nextGrant }] ∧
      ((∀ h ∈ e.holders, h.grant ≠ 0) → (e.holders.map (·.grant)).Nodup →
        (∀ h ∈ (e.grant u m).holders, h.grant ≠ 0) ∧ ((e.grant u m).holders.map (·.grant)).Nodup)

/-- Promotion grants the first waiters, in queue order, each as R8 and R9 grant a claim, while the first one is
grantable under the present holders, and stops at the first that is not; nobody else moves (R12). -/
def Obligations.PromotionGrantsTheFrontOfTheQueue : Prop :=
  ∀ e : Entry,
    (e.waiters = [] → e.promote = e) ∧
    (∀ w ws, e.waiters = w :: ws →
      ((e.state = .free ∨ (e.state = .shared ∧ w.mode = .shared)) →
        e.promote = ({ e.grant w.station w.mode with waiters := ws }).promote) ∧
      (¬(e.state = .free ∨ (e.state = .shared ∧ w.mode = .shared)) → e.promote = e)) ∧
    (∃ n, e.promote.waiters = e.waiters.drop n ∧
      e.promote.holders.map (fun h => (h.station, h.mode)) =
        e.holders.map (fun h => (h.station, h.mode)) ++ (e.waiters.take n).map (fun w => (w.station, w.mode))) ∧
    (∀ w ws, e.promote.waiters = w :: ws →
      ¬(e.promote.state = .free ∨ (e.promote.state = .shared ∧ w.mode = .shared)))

/-- The image source for a station is the MEMBER other than it at index attempt mod n in ascending station number; none
where no other station is MEMBER (R34). -/
def Obligations.ImageSourceByIndex : Prop :=
  ∀ (members : Vector MemberRecord 16) (u : Station) (a : Fin 4),
    (chooseSource members u a = none ↔ ∀ p : Station, p ≠ u → members[p].isMember = false) ∧
    (∀ p, chooseSource members u a = some p →
      p ≠ u ∧ members[p].isMember = true ∧
      ((List.finRange 16).filter fun q => decide (q < p) && decide (q ≠ u) && members[q].isMember).length =
        a.val % ((List.finRange 16).filter fun q => decide (q ≠ u) && members[q].isMember).length)

/-- The four times of R32 in milliseconds, and with the defaults 200, 400, 200 and 400, 800, 1200. -/
def Obligations.DerivedTimes : Prop :=
  (∀ (p : Params) (rank : Nat),
    p.silenceLimitMs = p.silence.toNat * (10 * p.presence.toNat) ∧ p.joinWaitMs = 2 * p.silenceLimitMs ∧
    p.imageWaitMs = p.silenceLimitMs ∧ p.foundWaitMs rank = p.joinWaitMs * (1 + rank)) ∧
  Params.defaults.silenceLimitMs = 200 ∧ Params.defaults.joinWaitMs = 400 ∧ Params.defaults.imageWaitMs = 200 ∧
    Params.defaults.foundWaitMs 0 = 400 ∧ Params.defaults.foundWaitMs 1 = 800 ∧ Params.defaults.foundWaitMs 2 = 1200

/-! ## The send queue's and the report queue's rules -/

/-- The head is the frame, among those in the queued phase, with the lowest kind code, and among frames of one kind the
earliest in entry order; the place plays no part (R127). -/
def Obligations.HeadOfTheQueue : Prop :=
  ∀ q : SendQueue,
    (q.head = none ↔ ∀ f ∈ q.frames, f.isQueued = false) ∧
    (∀ f, q.head = some f → ∃ before after, q.frames = before ++ f :: after ∧ f.isQueued = true ∧
      (∀ x ∈ before, x.isQueued = true → f.body.kind < x.body.kind) ∧
      (∀ x ∈ after, x.isQueued = true → f.body.kind ≤ x.body.kind))

/-- A request for a place is satisfied by a frame of the same kind and target, queued in any place or delivered and not
yet applied; finds no room; or enters its place as the latest frame, with retry count 0 (R125). -/
def Obligations.RequestsEnterLast : Prop :=
  ∀ (s : State) (b : QBody) (p : Place),
    (((∃ f ∈ s.sendq.frames, f.body.target = b.target) ∨ (∃ f, s.sendq.awaiting = some f ∧ f.body.target = b.target)) →
      s.request b p = s) ∧
    (¬((∃ f ∈ s.sendq.frames, f.body.target = b.target) ∨ (∃ f, s.sendq.awaiting = some f ∧ f.body.target = b.target)) →
      (s.sendq.hasRoom p = false → s.request b p = s) ∧
      (s.sendq.hasRoom p = true → s.request b p = { s with sendq := { s.sendq with frames := s.sendq.frames ++
        [{ body := b, place := p, retries := 0, hostMark := decide (p = .hostSlot), phase := .queued }] } }))

/-- Reports are kept in the order they are raised until sixteen are queued; each further one is discarded and sets the
lost flag, and a discard changes nothing else (R188). -/
def Obligations.FullQueueDiscards : Prop :=
  ∀ (s : State) (rs : List Report), s.port.reports.length ≤ 16 →
    rs.foldl State.raise s = { s with port := { s.port with
      reports := (s.port.reports ++ rs).take 16,
      lost := s.port.lost || decide (16 < (s.port.reports ++ rs).length) } }

/-- ATTN is asserted while the lost flag is set or a report of a kind whose mask bit, code minus 1, is set is queued,
and released otherwise and in reset (R181, R192). -/
def Obligations.AttentionOutput : Prop :=
  ∀ s : State, s.attn = true ↔
    s.ctl.inReset = false ∧
      (s.port.lost = true ∨ ∃ r ∈ s.port.reports, s.port.mask.getLsbD (r.kind.code - 1) = true)

/-! ## Host port commands -/

/-- A host port command that is taken is answered with one of the nine result codes; with any code but OK it carries no
data and changes nothing else; in a station state that does not take it the answer is STATE, whatever its operands hold
(R166, and the table of spec 09, section 9.2). -/
def Obligations.RefusedCommandsChangeNothing : Prop :=
  ∀ (c : Instr) (s : State), TakesCommands s → isHostCommand c = true → c.wf = true →
    ∃ t code data, exec c s = .next t ∧ t.port.response = code :: data ∧
      code ∈ ([0x01, 0x02, 0x03, 0x04, 0x05, 0x06, 0x07, 0x08, 0x09] : List Byte) ∧
      (code ≠ 0x01 → data = [] ∧ t = answered s [code]) ∧
      (takenIn c s.ctl.station = false → code = 0x03)

/-- CONFIGURE in OFFLINE: with every operand 00h or in range, the five values and the retry limit are set, each 00h
replaced by its default, and the station is READY with OK; with one out of range the answer is RANGE. In every other
state it is STATE. Nothing else changes (R168, R198). -/
def Obligations.ConfigureSetsTheProposals : Prop :=
  ∀ (s : State) (a b c d e f : Byte), TakesCommands s →
    (s.ctl.station ≠ .offline → exec (.configure a b c d e f) s = .next (answered s [0x03])) ∧
    (s.ctl.station = .offline →
      (c.toNat ≤ 64 ∧ (d = 0 ∨ (3 ≤ d.toNat ∧ d.toNat ≤ 15)) ∧ e.toNat ≤ 16 ∧ f.toNat ≤ 15 →
        exec (.configure a b c d e f) s = .next { s with
          ctl := { s.ctl with
            station := .ready,
            proposed := { leaseTerm := if a = 0 then 50 else a, grace := if b = 0 then 10 else b,
                          presence := if c = 0 then 5 else c, silence := if d = 0 then 4 else d,
                          count := if e = 0 then 16 else e },
            retryLimit := if f = 0 then 8 else f },
          port := { s.port with response := [0x01] } }) ∧
      (¬(c.toNat ≤ 64 ∧ (d = 0 ∨ (3 ≤ d.toNat ∧ d.toNat ≤ 15)) ∧ e.toNat ≤ 16 ∧ f.toNat ≤ 15) →
        exec (.configure a b c d e f) s = .next (answered s [0x06])))

/-- JOIN in READY with an empty stack and an empty send queue: JOINING with an all ABSENT view, the presence timer
loaded with the proposed period, a JOIN at attempt 0 with the proposed parameters in the host slot, LINE_BLOCKED raised
where the line is BLOCKED, OK; every other block unchanged. In every other case STATE (R160, R169, R199). -/
def Obligations.JoinStartsJoining : Prop :=
  ∀ s : State, TakesCommands s →
    (¬(s.ctl.station = .ready ∧ s.stack = []) → exec .join s = .next (answered s [0x03])) ∧
    (s.ctl.station = .ready → s.stack = [] → s.sendq = SendQueue.clear →
      exec .join s = .next (answered
        (let u := { s with
          ctl := { s.ctl with station := .joining },
          table := { s.table with members := Vector.replicate 16 .absent },
          timer := { s.timer with presence := .running (10 * s.ctl.proposed.presence.toNat) },
          sendq := { frames := [hostFrame (.join 0 s.ctl.proposed)], awaiting := none } }
        if s.line.state = some .blocked then
          u.raise { kind := .lineBlocked, subject := 0, grant := 0, detail := 0 }
        else u) [0x01]))

/-- LEAVE in MEMBER with the host slot free, the gates standing as R113 says and room for eight reports: LEAVING, every
channel closed and not armed, a CUT with detail 3 and the record's grant number for each channel whose GOUT was low, in
ascending number; no transfer, no queued LAPSE of another station's hold, no queued EVICT; a LEAVE with the host mark
as the last frame; the stack, the tables but for the transfer list, the timers and the line unchanged; OK. With the
slot occupied BUSY, and STATE in every other state (R106, R170). That a general LEAVE which is delivered and not yet
applied does not stand for it is the model's reading (log entry 25). -/
def Obligations.LeaveStartsLeaving : Prop :=
  ∀ s : State, TakesCommands s →
    (s.ctl.station ≠ .member → exec .leave s = .next (answered s [0x03])) ∧
    (s.ctl.station = .member → ¬SlotFree s → exec .leave s = .next (answered s [0x02])) ∧
    (s.ctl.station = .member → SlotFree s → NoneQueued s 6 → GateLaw s → s.port.reports.length ≤ 8 →
      ∃ t, exec .leave s = .next t ∧
        t.ctl = { s.ctl with station := .leaving } ∧ t.table = { s.table with transfers := [] } ∧ t.timer = s.timer ∧
        t.stack = s.stack ∧ t.line = s.line ∧
        (∀ n : Fin 8, t.gate[n] = { opened := false, armed := false, ginLow := s.gate[n].ginLow }) ∧
        t.port = { s.port with
          response := [0x01],
          reports := s.port.reports ++ (all8.filter fun n => s.gate[n].goutLow).map fun n =>
            { kind := .cut, subject := channelResource n, grant := s.channelGrant n, detail := 3 } } ∧
        t.sendq.awaiting = s.sendq.awaiting ∧
        (∃ kept, t.sendq.frames = kept ++ [hostFrame .leave] ∧ kept.Sublist s.sendq.frames ∧
          (∀ f ∈ kept, f.isQueued = true → f.body.isImage = false ∧ (∀ u, f.body ≠ .evict u) ∧
            ∀ r h g, f.body = .lapse r h g → h = s.self) ∧
          (∀ f ∈ s.sendq.frames, (f.isQueued = false ∨ f.body.kind = 4 ∨ f.body.kind = 5 ∨ f.body.kind = 7 ∨
            f.body.kind = 8 ∨ f.body.kind = 11) → f ∈ kept)))

/-- CLAIM in MEMBER: the checks RANGE, FULL, ORDER, PENDING and BUSY in this order, the first that fails giving the
answer; when all pass, a SENDING record on top and a CLAIM with the same fields in the host slot, OK, and nothing else
changed. In every other state STATE (R91, R171). -/
def Obligations.ClaimChecksThenPushes : Prop :=
  ∀ (s : State) (rb mp : Byte), TakesCommands s → s.count ≤ 16 →
    (s.ctl.station ≠ .member → exec (.claim rb mp) s = .next (answered s [0x03])) ∧
    (s.ctl.station = .member →
      (¬(rb.toNat < s.count ∧ (mp.toNat / 16 = 1 ∨ mp.toNat / 16 = 2) ∧ (mp.toNat % 16 = 1 ∨ mp.toNat % 16 = 2)) →
        exec (.claim rb mp) s = .next (answered s [0x06])) ∧
      ((rb.toNat < s.count ∧ (mp.toNat / 16 = 1 ∨ mp.toNat / 16 = 2) ∧ (mp.toNat % 16 = 1 ∨ mp.toNat % 16 = 2)) →
        (4 ≤ s.stack.length → exec (.claim rb mp) s = .next (answered s [0x05])) ∧
        (s.stack.length < 4 →
          ((∃ k, s.stack.getLast? = some k ∧ rb.toNat ≤ k.resource.val) →
            exec (.claim rb mp) s = .next (answered s [0x04])) ∧
          ((∀ k, s.stack.getLast? = some k → k.resource.val < rb.toNat) →
            ((∃ k, s.stack.getLast? = some k ∧ k.state.isPending = true) →
              exec (.claim rb mp) s = .next (answered s [0x08])) ∧
            ((∀ k, s.stack.getLast? = some k → k.state.isPending = false) →
              (¬SlotFree s → exec (.claim rb mp) s = .next (answered s [0x02])) ∧
              (SlotFree s → NoneQueued s 8 → ∀ r : Resource, r.val = rb.toNat →
                let m : Mode := if mp.toNat / 16 = 1 then .shared else .exclusive
                let p : Policy := if mp.toNat % 16 = 1 then .wait else .tryOnce
                exec (.claim rb mp) s = .next { s with
                  stack := s.stack ++ [{ resource := r, mode := m, policy := p, state := .sending }],
                  sendq := { s.sendq with frames := s.sendq.frames ++ [hostFrame (.claim r m p)] },
                  port := { s.port with response := [0x01] } }))))))

/-- RELEASE at the top record, in MEMBER, RESYNC and READY: a LAPSED record is popped, an EXPIRED one becomes RELEASING
with no notice, a pending one answers PENDING, an empty stack EMPTY, a HELD one with the slot occupied BUSY. In the
other states STATE. At a HELD top record with the host slot free, in MEMBER and RESYNC: the record is RELEASING, the
gate of a gated resource closes at once, with a CUT of detail 1 if GOUT was low, a RELEASE naming the resource and the
grant number is the last frame, OK; nothing else changes (R99, R114, R172). -/
def Obligations.ReleaseActsOnTheTop : Prop :=
  (∀ s : State, TakesCommands s →
    ((s.ctl.station = .offline ∨ s.ctl.station = .joining ∨ s.ctl.station = .leaving ∨ s.ctl.station = .fault) →
      exec .release s = .next (answered s [0x03])) ∧
    ((s.ctl.station = .member ∨ s.ctl.station = .resync ∨ s.ctl.station = .ready) →
      (s.stack = [] → exec .release s = .next (answered s [0x07])) ∧
      (∀ below k, s.stack = below ++ [k] → (∀ x ∈ below, x.resource ≠ k.resource) →
        (k.state.isPending = true → exec .release s = .next (answered s [0x08])) ∧
        (∀ g, k.state = .lapsed g → exec .release s = .next (answered { s with stack := below } [0x01])) ∧
        (∀ g, k.state = .expired g → exec .release s =
          .next (answered { s with stack := below ++ [{ k with state := .releasing g false }] } [0x01])) ∧
        (∀ g p, k.state = .held g p → ¬SlotFree s → exec .release s = .next (answered s [0x02]))))) ∧
  ∀ (s : State) (below : List Record) (k : Record) (g : Grant) (p : Bool), TakesCommands s →
    (s.ctl.station = .member ∨ s.ctl.station = .resync) → s.stack = below ++ [k] →
    (∀ x ∈ below, x.resource ≠ k.resource) → k.state = .held g p → SlotFree s →
    (∀ f ∈ s.sendq.frames, ∀ g', f.body ≠ .release k.resource g') →
    ∃ t, exec .release s = .next t ∧ t.ctl = s.ctl ∧ t.table = s.table ∧ t.timer = s.timer ∧ t.line = s.line ∧
      t.stack = below ++ [{ k with state := .releasing g false }] ∧
      t.sendq = { s.sendq with frames := s.sendq.frames ++ [hostFrame (.release k.resource g)] } ∧
      (∀ n : Fin 8, channelResource n ≠ k.resource → t.gate[n] = s.gate[n]) ∧
      (∀ n : Fin 8, channelResource n = k.resource → t.gate[n].opened = false ∧ t.gate[n].ginLow = s.gate[n].ginLow ∧
        (s.gate[n].opened = true → t.gate[n].armed = false) ∧
        (s.gate[n].goutLow = true → t.port = { (s.raise
          { kind := .cut, subject := k.resource, grant := g, detail := 1 }).port with response := [0x01] }) ∧
        (s.gate[n].goutLow = false → t.port = { s.port with response := [0x01] })) ∧
      (8 ≤ k.resource.val → t.port = { s.port with response := [0x01] })

/-- RENEW in MEMBER and RESYNC: NONE without a HELD record; merged with a queued RENEW, which keeps its place, count
and order and has the host mark; else placed in a free host slot; else BUSY. No record changes. In every other state
STATE (R103, R136, R173). That a RENEW which is delivered and not yet applied is none it merges with is the model's
reading (log entry 25). -/
def Obligations.RenewPlacesOrMerges : Prop :=
  ∀ s : State, TakesCommands s →
    (s.ctl.station ≠ .member → s.ctl.station ≠ .resync → exec .renew s = .next (answered s [0x03])) ∧
    ((s.ctl.station = .member ∨ s.ctl.station = .resync) →
      ((∀ k ∈ s.stack, ∀ g p, k.state ≠ .held g p) → exec .renew s = .next (answered s [0x09])) ∧
      ((∃ k ∈ s.stack, ∃ g p, k.state = .held g p) →
        (∀ before f after, s.sendq.frames = before ++ f :: after → f.body = .renew →
          (∀ x ∈ before ++ after, x.body ≠ .renew) →
          exec .renew s = .next (answered { s with
            sendq := { s.sendq with frames := before ++ { f with hostMark := true } :: after } } [0x01])) ∧
        ((∀ f ∈ s.sendq.frames, f.body ≠ .renew) →
          (SlotFree s → exec .renew s = .next (answered { s with
            sendq := { s.sendq with frames := s.sendq.frames ++ [hostFrame .renew] } } [0x01])) ∧
          (¬SlotFree s → exec .renew s = .next (answered s [0x02])))))

/-- WITHDRAW at the top record, in MEMBER and RESYNC: a queued CLAIM is removed and its record popped with WITHDRAWN; a
CLAIM on the line or delivered leaves the record WITHDRAWING, claim outstanding; a WAITING record becomes WITHDRAWING,
withdraw owed, with a WITHDRAW in the free host slot, or BUSY; anything else NONE. In every other state STATE
(R94, R137, R174). -/
def Obligations.WithdrawActsOnTheTop : Prop :=
  ∀ s : State, TakesCommands s →
    (s.ctl.station ≠ .member → s.ctl.station ≠ .resync → exec .withdraw s = .next (answered s [0x03])) ∧
    ((s.ctl.station = .member ∨ s.ctl.station = .resync) →
      (s.stack = [] → exec .withdraw s = .next (answered s [0x09])) ∧
      (∀ below k, s.stack = below ++ [k] → (∀ x ∈ below, x.resource ≠ k.resource) →
        (k.state ≠ .sending → k.state ≠ .waiting → exec .withdraw s = .next (answered s [0x09])) ∧
        (k.state = .sending → ∀ before f after m p, s.sendq.frames = before ++ f :: after → f.phase = .queued →
          f.body = .claim k.resource m p → (∀ x ∈ before ++ after, x.body.kind ≠ 8) →
          exec .withdraw s = .next (answered (({ s with
            stack := below, sendq := { s.sendq with frames := before ++ after } }).raise
              { kind := .withdrawn, subject := k.resource, grant := 0, detail := 0 }) [0x01])) ∧
        (k.state = .sending → (∀ f ∈ s.sendq.frames, f.phase = .queued → f.body.kind ≠ 8) →
          exec .withdraw s = .next (answered { s with
            stack := below ++ [{ k with state := .withdrawing .claimOutstanding }] } [0x01])) ∧
        (k.state = .waiting → ¬SlotFree s → exec .withdraw s = .next (answered s [0x02])) ∧
        (k.state = .waiting → SlotFree s → (∀ f ∈ s.sendq.frames, f.body ≠ .withdraw k.resource) →
          exec .withdraw s = .next (answered { s with
            stack := below ++ [{ k with state := .withdrawing .withdrawOwed }],
            sendq := { s.sendq with frames := s.sendq.frames ++ [hostFrame (.withdraw k.resource)] } } [0x01]))))

/-- READ STATUS, in every state, answers the seven bytes of R175, and READ STACK the depth and four slots of four
bytes, bottom record first and empty slots as 00h; both change nothing (R175, R176). -/
def Obligations.ReadStatusAndStackBytes : Prop :=
  ∀ s : State, TakesCommands s →
    exec .readStatus s = .next (answered s
      [0x01,
       match s.ctl.station with
       | .offline => 0x00 | .ready => 0x01 | .joining => 0x02 | .member => 0x03 | .leaving => 0x04 | .resync => 0x05
       | .fault => 0x06,
       BitVec.ofNat 8 s.ctl.number.val, BitVec.ofNat 8 s.stack.length, BitVec.ofNat 8 s.sendq.frames.length,
       BitVec.ofNat 8 s.port.reports.length,
       BitVec.ofNat 8 ((if s.port.lost then 1 else 0) + if s.table.bank.isSome then 2 else 0),
       BitVec.ofNat 8 ((List.finRange 16).filter fun p => s.table.members[p].isMember).length]) ∧
    (s.stack.length ≤ 4 → ∃ slots : List (List Byte),
      exec .readStack s = .next (answered s (0x01 :: BitVec.ofNat 8 s.stack.length :: slots.flatten)) ∧
      slots.length = 4 ∧
      (∀ j, s.stack.length ≤ j → j < 4 → slots[j]? = some [0x00, 0x00, 0x00, 0x00]) ∧
      (∀ (j : Nat) (k : Record), s.stack[j]? = some k → ∃ b1 b2 b3 b4 : Byte, slots[j]? = some [b1, b2, b3, b4] ∧
        b1.toNat = 16 * k.resource.val + (if k.mode = .exclusive then 8 else 0) +
          (if k.policy = .tryOnce then 4 else 0) + (if k.renewalPending then 2 else 0) +
          (if k.state = .withdrawing .withdrawOwed then 1 else 0) ∧
        256 * b3.toNat + b4.toNat = (k.state.grant.getD 0).toNat ∧
        b2.toNat = (match k.state with
          | .sending => 1 | .waiting => 2 | .withdrawing _ => 3 | .held _ _ => 4 | .expired _ => 5 | .releasing _ _ => 6
          | .lapsed _ => 7)))

/-- READ ENTRY is answered STATE outside MEMBER, LEAVING and RESYNC, RANGE at or above the resource count, and else
with the content of the entry in the layout of a resource part: 4 bytes, 3 for each holder and 1 for each waiter. READ
MEMBERS, in every state, answers the member set, the joining set, the flag, the bank parameters (the proposed ones while
none are held), the proposed parameters, the retry limit and the pending transfers, which read back as a membership part
does. Both change nothing (R147, R177, R178). -/
def Obligations.ReadEntryAndMembersBytes : Prop :=
  (∀ (s : State) (b : Byte), TakesCommands s → s.count ≤ 16 →
    (s.ctl.station ≠ .member → s.ctl.station ≠ .leaving → s.ctl.station ≠ .resync →
      exec (.readEntry b) s = .next (answered s [0x03])) ∧
    ((s.ctl.station = .member ∨ s.ctl.station = .leaving ∨ s.ctl.station = .resync) →
      (s.count ≤ b.toNat → exec (.readEntry b) s = .next (answered s [0x06])) ∧
      (∀ r : Resource, b.toNat = r.val → r.val < s.count → (s.entry r).lawful = true →
        ∃ data, exec (.readEntry b) s = .next (answered s (0x01 :: data)) ∧
          data.length = 4 + 3 * (s.entry r).holders.length + (s.entry r).waiters.length ∧ data.length ≤ 52 ∧
          readEntryBytes data = some (s.entry r)))) ∧
  ∀ s : State, TakesCommands s →
    ∃ m1 m2 j1 j2 n items, exec .readMembers s = .next (answered s
      ([0x01, m1, m2, j1, j2, if s.table.bank.isSome then 0x01 else 0x00] ++
        (s.table.bank.getD s.ctl.proposed).bytes ++ s.ctl.proposed.bytes ++ [s.ctl.retryLimit, n] ++ items)) ∧
      (∀ p : Station, (m1 ++ m2 : BitVec 16).getLsbD p.val = s.table.members[p].isMember) ∧
      (∀ p : Station, (j1 ++ j2 : BitVec 16).getLsbD p.val = s.table.members[p].isJoining) ∧
      items.length = 2 * n.toNat ∧
      n.toNat = ((List.finRange 16).filter fun p => (s.table.members[p].transfer).isSome).length ∧
      (membersLawful s.table.members = true → readMembershipBytes ([m1, m2, j1, j2] ++ (s.table.bank.getD s.ctl.proposed).bytes ++ [n] ++ items) =
        some (s.table.members, s.table.bank.getD s.ctl.proposed))

/-- TAKE REPORT returns and removes the oldest report, four bytes after OK; the lost flag is cleared by the take that
empties the queue and kept by every other; on an empty queue the answer is EMPTY (R179, R180, R189). -/
def Obligations.TakeReportReturnsTheOldest : Prop :=
  ∀ s : State, TakesCommands s →
    (s.port.reports = [] → exec .takeReport s = .next (answered s [0x07])) ∧
    (∀ r rest, s.port.reports = r :: rest → ∃ b2 b3 b4,
      exec .takeReport s = .next { s with port := { s.port with
        reports := rest, lost := s.port.lost && !rest.isEmpty,
        response := [0x01, BitVec.ofNat 8 r.kind.code, b2, b3, b4] } } ∧
      b2.toNat = 16 * r.subject.val + r.detail.toNat ∧ 256 * b3.toNat + b4.toNat = r.grant.toNat)

/-- SET MASK is taken in every state: RANGE when bits 23 to 19 are not all 0; else bit k minus 1 of the mask is that
bit of the value, for each kind code k from 1 to 19, with OK. The queue is untouched (R181, R191). -/
def Obligations.SetMaskSetsNineteenBits : Prop :=
  ∀ (s : State) (v : BitVec 24), TakesCommands s →
    (2 ^ 19 ≤ v.toNat → exec (.setMask v) s = .next (answered s [0x06])) ∧
    (v.toNat < 2 ^ 19 → ∃ mask : BitVec 19,
      exec (.setMask v) s = .next { s with port := { s.port with mask := mask, response := [0x01] } } ∧
      ∀ k, 1 ≤ k → k ≤ 19 → mask.getLsbD (k - 1) = v.getLsbD (k - 1))

/-- An unknown command code is answered RANGE and changes nothing (R164). That a term naming an assigned code is
refused is the model's choice (log entry 29). -/
def Obligations.UnknownCodesAreOutOfRange : Prop :=
  ∀ (s : State) (code : Byte),
    (code ∉ assignedCodes → TakesCommands s → exec (.unknownCommandCode code) s = .next (answered s [0x06])) ∧
    (code ∈ assignedCodes → exec (.unknownCommandCode code) s = .refused (.assignedCode code))

/-! ## Resets -/

/-- RESET is answered OK in every state, and the station goes on as it was until SEL rises; the soft reset then makes
it READY, keeps the number, the proposed parameters, the retry limit and the mask, and clears every other block:
tables, timers, send queue, stack, line counts, inbound queue, reports and lost flag; every channel closed and not
armed, with no report (R182, R193, R197). -/
def Obligations.ResetThenSelRising : Prop :=
  ∀ s : State,
    (TakesCommands s → exec .reset s = .next { s with port := { s.port with resetArmed := true, response := [0x01] } }) ∧
    (s.ctl.inReset = false → s.port.resetArmed = true → ∃ t, exec .softReset s = .next t ∧
      t.ctl = { s.ctl with station := .ready, exhausted := false } ∧ t.table = TableUnit.clear ∧
      t.timer = TimerUnit.clear ∧ t.sendq = SendQueue.clear ∧ t.stack = [] ∧
      (∀ n : Fin 8, t.gate[n] = { opened := false, armed := false, ginLow := s.gate[n].ginLow }) ∧
      t.line = { state := some .receiving, frameInHand := false, conflictPending := false, vetoStreak := 0,
                 conflictCount := 0, inbound := [] } ∧
      t.port = { reports := [], lost := false, mask := s.port.mask, response := [], resetArmed := false,
                 serial := .idle false false })

/-- RSTN asserted, in any state: in reset, LINE released, every GOUT high, ATTN released, SDO at high impedance. Its
release, from any state, samples the straps and gives OFFLINE with every block at its pin-reset value, the proposed
parameters 50, 10, 5, 4, 16, the retry limit 8, the mask enabling all nineteen kinds; a SEL that is low must rise before
a transaction begins (R162, R163, R193, R195, R196). That a release is taken from any
state is the model's choice (log entry 28), and so is what the other blocks hold in reset (log entry 27). -/
def Obligations.PinReset : Prop :=
  ∀ (s : State) (straps : BitVec 4),
    (∃ t, exec .rstnAsserted s = .next t ∧ t.ctl.inReset = true ∧ t.line = LineUnit.off ∧ t.attn = false ∧
      (∀ n : Fin 8, t.goutLow n = false) ∧ t.sdo = none ∧ t.sendq = SendQueue.clear ∧ t.port.resetArmed = false) ∧
    (∃ t, exec (.resetRelease straps) s = .next t ∧
      t.ctl = { inReset := false, station := .offline, number := straps.toFin,
                proposed := { leaseTerm := 50, grace := 10, presence := 5, silence := 4, count := 16 },
                retryLimit := 8, exhausted := false } ∧
      (∀ r, t.entry r = { state := .free, counter := 0, holders := [], waiters := [] }) ∧
      (∀ p : Station, t.table.members[p] = .absent) ∧ t.table.bank = none ∧ t.table.transfers = [] ∧
      t.table.imagePending = none ∧ t.timer.countdowns = [] ∧ t.timer.presence = .stopped ∧
      (∀ p : Station, t.timer.silence[p] = .stopped) ∧ t.timer.joinWait = .stopped ∧ t.timer.foundWait = .stopped ∧
      t.timer.imageWait = .stopped ∧ t.sendq = { frames := [], awaiting := none } ∧ t.stack = [] ∧
      (∀ n : Fin 8, t.gate[n] = { opened := false, armed := false, ginLow := s.gate[n].ginLow }) ∧
      t.line = { state := some .receiving, frameInHand := false, conflictPending := false, vetoStreak := 0,
                 conflictCount := 0, inbound := [] } ∧
      t.port = { reports := [], lost := false, mask := BitVec.allOnes 19, response := [], resetArmed := false,
                 serial := { selLow := s.port.serial.selLow, waitsForRise := s.port.serial.selLow,
                             sampled := [], falls := 0 } })

/-! ## Gate pins -/

/-- GIN falling on an open channel arms it, and GOUT is low; on a closed one DENIED is raised, with the first reason
that applies, and GOUT stays high. GIN rising leaves GOUT high and raises nothing. No other channel and no other block
changes (R115, R117). -/
def Obligations.GinTransitions : Prop :=
  ∀ (s : State) (n : Fin 8),
    (s.ctl.inReset = false → s.gate[n].ginLow = false →
      (s.gate[n].opened = true →
        exec (.ginAsserted n) s = .next { s with gate := s.gate.set n { opened := true, armed := true, ginLow := true } }) ∧
      (s.gate[n].opened = false → ∃ detail : BitVec 4,
        exec (.ginAsserted n) s = .next (({ s with gate := s.gate.set n { s.gate[n] with ginLow := true } }).raise
          { kind := .denied, subject := channelResource n, grant := 0, detail := detail }) ∧
        (s.ctl.station ≠ .member → detail = 0) ∧
        (s.ctl.station = .member →
          ((∀ k ∈ s.stack, k.resource ≠ channelResource n) → detail = 1) ∧
          (∀ k, s.recordOf (channelResource n) = some k →
            ((∀ g p, k.state ≠ .held g p) → detail = 2) ∧ (∀ g, k.state = .held g true → detail = 3) ∧
            (∀ g, k.state = .held g false → detail = 4))))) ∧
    (exec (.ginReleased n) s = .next { s with gate := s.gate.set n { s.gate[n] with ginLow := false } } ∧
      ({ s.gate[n] with ginLow := false } : Channel).goutLow = false)

/-! ## The line -/

/-- OFFER: unless the line is IDLE, the inbound queue empty, the station listening and no frame of it on the line,
nothing is offered. Else the head, the queued frame of the lowest kind code and of one kind the earliest, goes on the
line: its place, retry count and host mark are kept, and its content is the fixed fields, or for an IMAGE part, a RENEW
and a PRESENCE the content built from the state as it is. A RENEW that finds no HELD record is removed, and the head
chosen again (R58, R71, R127 to R129). That the event then changes nothing where a condition fails is the model's
choice (log entry 4). -/
def Obligations.OfferTakesTheHead : Prop :=
  ∀ s : State, s.ctl.inReset = false →
    (¬(s.line.state = some .idle ∧ s.line.inbound = [] ∧
        (s.ctl.station = .joining ∨ s.ctl.station = .member ∨ s.ctl.station = .leaving ∨ s.ctl.station = .resync) ∧
        ∀ f ∈ s.sendq.frames, f.phase = .queued) → exec .offer s = .next s) ∧
    (s.sendq.frames = [] → exec .offer s = .next s) ∧
    (s.line.state = some .idle → s.line.inbound = [] → s.listening = true →
      (s.sendq.frames.map fun f => f.body.target).Nodup → (∀ f ∈ s.sendq.frames, f.phase = .queued) →
      ∀ before f after, s.sendq.frames = before ++ f :: after →
        (∀ x ∈ before, f.body.kind < x.body.kind) → (∀ x ∈ after, f.body.kind ≤ x.body.kind) →
        (f.body = .renew → (∀ k ∈ s.stack, ∀ g p, k.state ≠ .held g p) →
          exec .offer s = exec .offer { s with sendq := { s.sendq with frames := before ++ after } }) ∧
        ((f.body ≠ .renew ∨ ∃ k ∈ s.stack, ∃ g p, k.state = .held g p) → ∃ content,
          exec .offer s = .next { s with
            sendq := { s.sendq with frames := before ++ { f with phase := .onLine content } :: after },
            line := { s.line with state := some .sending, frameInHand := true } } ∧
          content = (match f.body with
            | .image u a .membership => .image u a false (.membership s.table.members s.bankParams)
            | .image u a (.resource r) => .image u a (decide (r.val + 1 = s.count)) (.resource r (s.entry r))
            | .found p => .found p
            | .evict u => .evict (BitVec.ofNat 8 u.val)
            | .lapse r h g => .lapse (BitVec.ofNat 8 r.val) (BitVec.ofNat 8 h.val) g
            | .release r g => .release (BitVec.ofNat 8 r.val) g
            | .withdraw r => .withdraw (BitVec.ofNat 8 r.val)
            | .leave => .leave
            | .renew => .renew (s.stack.filterMap fun k =>
                match k.state with
                | .held g _ => some (BitVec.ofNat 8 k.resource.val, g)
                | _ => none)
            | .claim r m p => .claim (BitVec.ofNat 8 r.val) (if m = .shared then 1 else 2) (if p = .wait then 1 else 2)
            | .join a p => .join (BitVec.ofNat 8 a.val) p
            | .sync a => .sync (BitVec.ofNat 8 a.val)
            | .presence =>
              if s.ctl.station = .member ∨ s.ctl.station = .leaving then .presence true s.digest
              else .presence false 0)))

/-- ARBITRATION_LOST leaves this station receiving, its frame queued again with an unchanged retry count; FRAME_VETOED
at the sender, and the end of the frame after a first CONFLICT, by truncation, by its veto cell or by the other sender's
delivery, raise the retry count by one, to at most the retry limit here. In each case the place and the entry order are
kept, a frame that has become stale is removed instead, and a CLAIM being withdrawn is removed, its record popped with
WITHDRAWN. The other sender's notice is the latest in the inbound queue, and the timer that its sender loads is loaded
(R57, R59, R130, R131, R135, R137, R149, R151, R153, R155, R158). The model's choices: a frame with this station's
number is then no receive error (log entry 12), and what happened since the veto cell's edge comes with the row (log
entry 7). -/
def Obligations.OwnFrameComesBack : Prop :=
  ∀ (s : State) (before after : List QFrame) (f : QFrame) (content : Payload) (c : Instr) (l : LineUnit) (n : Nat)
    (tm : TimerUnit), s.ctl.inReset = false → OnLine s before f content after →
    let settled := { s.line with frameInHand := false, vetoStreak := 0, conflictPending := false, conflictCount := 1 }
    ((c = .arbitrationLost ∧ s.line.state = some .sending ∧ tm = s.timer ∧
        l = { s.line with state := some .receiving, frameInHand := true } ∧ n = f.retries) ∨
      (∃ frame, c = .frameVetoed frame ∧ s.line.state = some .sending ∧ tm = s.timer ∧ n = f.retries + 1 ∧
        n ≤ s.ctl.retryLimit.toNat ∧
        l = { s.line with state := some .receiving, frameInHand := false, vetoStreak := 0 }) ∨
      (s.line.state = some .receiving ∧ s.line.conflictPending = true ∧ s.line.conflictCount = 0 ∧
        n = f.retries + 1 ∧ n ≤ s.ctl.retryLimit.toNat ∧
        ((c = .frameTruncated ∧ tm = s.timer ∧ l = settled) ∨
          (∃ frame, c = .frameVetoed frame ∧ tm = s.timer ∧ l = { settled with
            vetoStreak := if s.line.frameInHand = true ∧ (s.listening = true ∧
                ¬(frame.joinedSince = true ∧ s.ctl.station = .joining)) ∧ (receive frame = none ∨
                (4 ≤ s.line.inbound.length + frame.appliedSince ∧ s.line.vetoStreak < 8)) then
              min 8 (s.line.vetoStreak + 1) else 0 }) ∨
          (∃ frame d, c = .frameDelivered frame ∧ receive frame = some d ∧ s.line.frameInHand = true ∧
            s.listening = true ∧ RoomAtEdge s frame ∧ s.line.inbound.length < 4 ∧
            l = { settled with inbound := s.line.inbound ++ [d] } ∧
            tm = (if d.sender = s.self then { s.timer with presence := .running s.timeParams.presenceMs }
              else if s.timer.silence[d.sender] ≠ .stopped ∧ s.ctl.station.inBank = true then
                { s.timer with silence := s.timer.silence.set d.sender (.running s.timeParams.silenceLimitMs) }
              else s.timer))))) →
    (WithdrawnClaim s f.body → exec c s = .next (({ s with
        line := l, timer := tm, sendq := { s.sendq with frames := before ++ after },
        stack := s.stack.filter fun k => decide (k.resource ≠ f.body.resource) }).raise
          { kind := .withdrawn, subject := f.body.resource, grant := 0, detail := 0 })) ∧
    (¬WithdrawnClaim s f.body → Stale s f.body →
      exec c s = .next { s with line := l, timer := tm, sendq := { s.sendq with frames := before ++ after } }) ∧
    (¬WithdrawnClaim s f.body → ¬Stale s f.body → exec c s = .next { s with
      line := l, timer := tm,
      sendq := { s.sendq with frames := before ++ { f with phase := .queued, retries := n } :: after } })

/-- FRAME_VETOED at a sender whose frame has already been retried as often as the limit allows: the frame is dropped. A
frame without the host mark goes with no report, an IMAGE part with its transfer. A host-marked one raises SEND_FAILED
with its kind code: a CLAIM's SENDING record is popped, a RELEASING record stays, a withdraw-owed record is WAITING
again, a RENEW changes no record, and where the gates stand as R113 says a JOIN's station is READY with its tables
clear, a LEAVE's station MEMBER with its gates evaluated (R131 to R133). -/
def Obligations.DropAtTheRetryLimit : Prop :=
  ∀ (s : State) (before after : List QFrame) (f : QFrame) (content : Payload) (frame : RxFrame),
    s.ctl.inReset = false → OnLine s before f content after → s.line.state = some .sending →
    ¬WithdrawnClaim s f.body → s.ctl.retryLimit.toNat ≤ f.retries →
    let l := { s.line with state := some .receiving, frameInHand := false, vetoStreak := 0 }
    let u := { s with line := l, sendq := { s.sendq with frames := before ++ after } }
    let failed (r : Resource) (kind : BitVec 4) : Report := { kind := .sendFailed, subject := r, grant := 0, detail := kind }
    (f.hostMark = false → f.body.isImage = false → exec (.frameVetoed frame) s = .next u) ∧
    (f.hostMark = false → ∀ v a p, f.body = .image v a p → ∃ t, exec (.frameVetoed frame) s = .next t ∧
      t.table = { s.table with transfers := s.table.transfers.filter fun i => decide (i.target ≠ v) } ∧
      t.ctl = s.ctl ∧ t.timer = s.timer ∧ t.stack = s.stack ∧ t.gate = s.gate ∧ t.line = l ∧ t.port = s.port ∧
      t.sendq.frames.take (before ++ after).length = before ++ after) ∧
    (f.hostMark = true →
      (∀ r m p below k above, f.body = .claim r m p → OnlyRecord s below k above → k.resource = r → k.state = .sending →
        exec (.frameVetoed frame) s = .next { (u.raise (failed r 8)) with stack := below ++ above }) ∧
      (∀ r g, f.body = .release r g → exec (.frameVetoed frame) s = .next (u.raise (failed r 4))) ∧
      (∀ r below k above, f.body = .withdraw r → OnlyRecord s below k above → k.resource = r →
        k.state = .withdrawing .withdrawOwed → exec (.frameVetoed frame) s =
          .next { (u.raise (failed r 5)) with stack := below ++ { k with state := .waiting } :: above }) ∧
      (f.body = .renew → exec (.frameVetoed frame) s = .next (u.raise (failed 0 7))) ∧
      (∀ a p, f.body = .join a p → s.ctl.station = .joining → GateLaw s → ∃ t, exec (.frameVetoed frame) s = .next t ∧
        t.ctl = { s.ctl with station := .ready, exhausted := false } ∧ t.table = TableUnit.clear ∧
        t.timer = TimerUnit.clear ∧ t.sendq = SendQueue.clear ∧ t.stack = s.stack ∧ t.gate = s.gate ∧
        t.line = { l with conflictPending := false, inbound := [] } ∧ t.port = (u.raise (failed 0 9)).port) ∧
      (f.body = .leave → s.ctl.station = .leaving → GateLaw s → ∃ t, exec (.frameVetoed frame) s = .next t ∧
        t.ctl = { s.ctl with station := .member } ∧ t.table = s.table ∧ t.timer = s.timer ∧ t.stack = s.stack ∧
        t.line = l ∧ t.port = (u.raise (failed 0 6)).port ∧ ∀ n : Fin 8, t.gate[n].opened = t.gateCondition n))

/-- CONFLICT at a sender: it stops driving and receives; nothing is settled yet. When the frame on the line then ends,
by truncation, by its veto cell or by the other sender's delivery, a second conflict in a row is FAULT: everything
cleared but the number, the configuration, the mask and the GIN levels, one FAULT report queued. Without a conflict, the
end of a frame that is not delivered clears the veto streak, or raises it to at most 8 where this station drove the veto
cell: it saw the frame from its start cell, and at the veto cell's edge it listened, and had detected an error in it,
its own number as sender among them, or held four notices while the streak was below 8 (R150, R151, R153, R155, R157,
R158, R162, R193, R205). The model's choices: what happened since that edge comes with the row (log entry 7), and a
station stopped at a conflict is no receiver of its own frame (log entry 12). -/
def Obligations.ConflictsAndLostFrames : Prop :=
  ∀ s : State, s.ctl.inReset = false →
    (s.line.state = some .sending → exec .conflict s = .next { s with
      line := { s.line with state := some .receiving, frameInHand := true, conflictPending := true } }) ∧
    (∀ c : Instr, s.line.state = some .receiving → s.line.conflictPending = true → s.line.conflictCount = 1 →
      (c = .frameTruncated ∨ (∃ frame, c = .frameVetoed frame) ∨
        ∃ frame d, c = .frameDelivered frame ∧ receive frame = some d ∧ RoomAtEdge s frame ∧
          s.line.inbound.length < 4) →
      ∃ t, exec c s = .next t ∧ t.ctl = { s.ctl with station := .fault, exhausted := false } ∧
        t.table = TableUnit.clear ∧ t.timer = TimerUnit.clear ∧ t.sendq = SendQueue.clear ∧ t.stack = [] ∧
        (∀ n : Fin 8, t.gate[n] = { opened := false, armed := false, ginLow := s.gate[n].ginLow }) ∧
        t.line.state = none ∧ t.line.inbound = [] ∧
        t.port = { s.port with reports := [{ kind := .fault, subject := 0, grant := 0, detail := 0 }], lost := false }) ∧
    (s.line.state = some .receiving → s.line.conflictPending = false →
      exec .frameTruncated s = .next { s with line := { s.line with frameInHand := false, vetoStreak := 0 } } ∧
      ∀ frame : RxFrame, ∃ streak,
        exec (.frameVetoed frame) s =
          .next { s with line := { s.line with frameInHand := false, vetoStreak := streak } } ∧
        (s.line.frameInHand = true ∧ ListenedAtEdge s frame ∧
            (receive frame = none ∨ (∃ n, receive frame = some n ∧ n.sender = s.self) ∨
              (4 ≤ s.line.inbound.length + frame.appliedSince ∧ s.line.vetoStreak < 8)) →
          streak = min 8 (s.line.vetoStreak + 1)) ∧
        (¬(s.line.frameInHand = true ∧ ListenedAtEdge s frame ∧
            (receive frame = none ∨ (∃ n, receive frame = some n ∧ n.sender = s.self) ∨
              (4 ≤ s.line.inbound.length + frame.appliedSince ∧ s.line.vetoStreak < 8))) → streak = 0))

/-- FRAME_DELIVERED at the sender: its frame leaves the queue and waits for its application, the notice is the latest in
the inbound queue, the presence timer is loaded, the conflict count cleared. At a receiver that listens at the end of
the veto cell, and did not veto the frame at its edge, with room: the notice is the latest in the inbound queue, and the
silence timer kept for its sender is loaded; a station that took JOIN since that edge takes a notice with its own number
too, and loads its presence timer. With four notices the notice is dropped: a MEMBER enters RESYNC with cause 1, its
gates close and a SYNC at attempt 0 is queued where there is room; a LEAVING station leaves the bank; a JOINING or
RESYNC one that has installed the membership part has a spoiled attempt. A station that does not listen takes no notice
(R57, R59, R76, R79, R80, R130, R151 to R153, R155, R156, R158). The model's choices: what happened since the edge comes
with the row (log entry 7), a notice with this station's number counts as its own (log entry 13), and a frame with a
receive error brings nothing to a station that listens only since that edge (log entry 44). -/
def Obligations.DeliveryAppends : Prop :=
  ∀ (s : State) (frame : RxFrame), s.ctl.inReset = false →
    (∀ before f content after, s.line.state = some .sending → OnLine s before f content after →
      exec (.frameDelivered frame) s = .next { s with
        sendq := { frames := before ++ after, awaiting := some f },
        timer := { s.timer with presence := .running s.timeParams.presenceMs },
        line := { s.line with state := some .receiving, frameInHand := false, vetoStreak := 0, conflictCount := 0,
                              inbound := s.line.inbound ++ [{ sender := s.self, body := content }] } }) ∧
    (s.line.state = some .receiving → s.line.conflictPending = false →
      let l := { s.line with frameInHand := false, vetoStreak := 0 }
      (s.listening = false → exec (.frameDelivered frame) s = .next { s with line := l }) ∧
      (s.line.frameInHand = true → ¬ListenedAtEdge s frame → receive frame = none →
        exec (.frameDelivered frame) s = .next { s with line := l }) ∧
      (∀ n, s.listening = true → s.line.frameInHand = true → receive frame = some n →
        (n.sender ≠ s.self ∨ ¬ListenedAtEdge s frame) → RoomAtEdge s frame →
        (s.line.inbound.length < 4 → ∃ silence, exec (.frameDelivered frame) s = .next { s with
            line := { l with inbound := s.line.inbound ++ [n] },
            timer := { s.timer with
              silence := silence,
              presence := if n.sender = s.self then .running s.timeParams.presenceMs else s.timer.presence } } ∧
          (∀ p : Station, p ≠ n.sender ∨ n.sender = s.self → silence[p] = s.timer.silence[p]) ∧
          (s.timer.silence[n.sender] = .stopped → silence[n.sender] = .stopped) ∧
          (s.timer.silence[n.sender] ≠ .stopped → s.ctl.station.inBank = true → n.sender ≠ s.self →
            silence[n.sender] = .running s.timeParams.silenceLimitMs)) ∧
        (4 ≤ s.line.inbound.length → n.sender ≠ s.self →
          ∃ t, exec (.frameDelivered frame) s = .next t ∧
            (s.ctl.station = .member →
              t.ctl = { s.ctl with station := .resync, exhausted := false } ∧
              t.table = { s.table with transfers := [] } ∧ t.stack = s.stack ∧ t.line = l ∧
              (∀ m : Fin 8, t.gate[m].opened = false) ∧
              (s.raise { kind := .resyncBegun, subject := 0, grant := 0, detail := 1 }).port.reports <+:
                t.port.reports ∧
              (GeneralRoom s (.sync 0) → generalFrame (.sync 0) ∈ t.sendq.frames)) ∧
            (s.ctl.station = .leaving →
              t.ctl = { s.ctl with station := .ready, exhausted := false } ∧ t.table = TableUnit.clear ∧
              t.timer = TimerUnit.clear ∧ t.sendq = SendQueue.clear ∧ t.line = { l with inbound := [] } ∧
              (s.stack = [] → GateLaw s → t.port =
                (s.raise { kind := .left, subject := 0, grant := 0, detail := 0 }).port)) ∧
            (s.ctl.station = .joining ∨ s.ctl.station = .resync → ∀ ip, s.table.imagePending = some ip →
              t.ctl = s.ctl ∧ t.line = l ∧ t.port = s.port ∧
              t.table = { s.table with
                imagePending := some (if ip.membershipInstalled then { ip with spoiled := true } else ip) }))))

/-- Twelve idle cells with no frame in hand make the line IDLE; a start cell makes it RECEIVING, with the frame in hand.
At LINE_BLOCKED the frame in reception is discarded; this station's frame on the line, also one whose conflict is not
settled, is queued again with its retry count unchanged and the conflict count unchanged, or if stale or a withdrawn
CLAIM removed; a listening station raises LINE_BLOCKED. At LINE_RESTORED the line is IDLE, each presence, silence or
wait timer that was running or expired is loaded in full, the hold countdowns are untouched, and a listening station
raises LINE_RESTORED (R67, R135, R137, R143, R158 to R160). The model's choices: LINE_BLOCKED leaves the veto streak
(log entry 23), and START_CELL_SEEN commanded where the station would join is a reception (log entry 41). -/
def Obligations.LineStates : Prop :=
  ∀ s : State, s.ctl.inReset = false →
    (s.line.state = some .receiving → s.line.frameInHand = false → s.line.conflictPending = false →
      exec .lineIdle s = .next { s with line := { s.line with state := some .idle } }) ∧
    (s.line.state = some .idle → exec .startCellSeen s =
      .next { s with line := { s.line with state := some .receiving, frameInHand := true } }) ∧
    (let l := { s.line with state := some .blocked, frameInHand := false, conflictPending := false }
      let told (u : State) : State :=
        if s.listening then u.raise { kind := .lineBlocked, subject := 0, grant := 0, detail := 0 } else u
      (s.line.state = some .idle ∨ s.line.state = some .receiving → (∀ f ∈ s.sendq.frames, f.phase = .queued) →
        exec .lineBlocked s = .next (told { s with line := l })) ∧
      (∀ before f content after, OnLine s before f content after →
        (s.line.state = some .sending ∨ (s.line.state = some .receiving ∧ s.line.conflictPending = true)) →
        (WithdrawnClaim s f.body → exec .lineBlocked s = .next (told (({ s with
          line := l, sendq := { s.sendq with frames := before ++ after },
          stack := s.stack.filter fun k => decide (k.resource ≠ f.body.resource) }).raise
            { kind := .withdrawn, subject := f.body.resource, grant := 0, detail := 0 }))) ∧
        (¬WithdrawnClaim s f.body → Stale s f.body → exec .lineBlocked s = .next (told { s with
          line := l, sendq := { s.sendq with frames := before ++ after } })) ∧
        (¬WithdrawnClaim s f.body → ¬Stale s f.body → exec .lineBlocked s = .next (told { s with
          line := l, sendq := { s.sendq with frames := before ++ { f with phase := .queued } :: after } })))) ∧
    (s.line.state = some .blocked → ∃ t,
      exec .lineRestored s = .next (if s.listening then
        t.raise { kind := .lineRestored, subject := 0, grant := 0, detail := 0 } else t) ∧
      t = { s with timer := t.timer, line := { s.line with state := some .idle } } ∧
      t.timer.countdowns = s.timer.countdowns ∧ t.timer.foundRank = s.timer.foundRank ∧
      (let again (old new : Timer) (ms : Nat) : Prop := new = if old = .stopped then .stopped else .running ms;
        again s.timer.presence t.timer.presence s.timeParams.presenceMs ∧
        (∀ p : Station, again s.timer.silence[p] t.timer.silence[p] s.timeParams.silenceLimitMs) ∧
        again s.timer.joinWait t.timer.joinWait s.timeParams.joinWaitMs ∧
        again s.timer.foundWait t.timer.foundWait (s.timeParams.foundWaitMs s.timer.foundRank) ∧
        again s.timer.imageWait t.timer.imageWait s.timeParams.imageWaitMs))

/-! ## Applications -/

/-- APPLY_CLAIM. A CLAIM is stale when its resource is not below the count, its mode or policy is no code, or its
sender is not MEMBER, holds or waits on the resource, or waits on any. A stale one changes no entry. One that is not is
granted as R8 and R9 say with its countdown loaded, or if not grantable queued as the last waiter for WAIT, and without
effect for TRY. At its own station the SENDING record becomes HELD with GRANTED and its gate opens unarmed, or WAITING,
or is popped with REFUSED (the gates standing as R113 says); a record being withdrawn becomes RELEASING or
withdraw-owed, or is popped with REFUSED (R7 to R9, R13 to R16, R93, R95, R113). -/
def Obligations.ClaimApplied : Prop :=
  ∀ (s : State) (u : Station) (r : Resource) (rb : Byte) (mb pb : BitVec 4) (rest : List Notice),
    Applies s { sender := u, body := .claim rb mb pb } rest → rb.toNat = r.val →
    let term (v : Station) : Nat := if v = s.self then s.bankParams.leaseTermMs
      else s.bankParams.leaseTermMs + s.bankParams.graceMs
    let e := s.entry r
    let m : Mode := if mb = 1 then .shared else .exclusive
    let fits : Prop := r.val < s.count ∧ (mb = 1 ∨ mb = 2) ∧ (pb = 1 ∨ pb = 2) ∧ s.table.members[u].isMember = true ∧
      (∀ h ∈ e.holders, h.station ≠ u) ∧ ∀ r', ∀ w ∈ (s.entry r').waiters, w.station ≠ u
    let grantable : Prop := e.state = .free ∨ (e.state = .shared ∧ m = .shared ∧ e.waiters = [])
    ∃ t, exec .applyClaim s = .next t ∧ EntryNoticeFrame s t ∧ (∀ r', r' ≠ r → t.entry r' = s.entry r') ∧
      (fits → grantable →
        t.entry r = { state := m.entryState, counter := e.nextGrant,
                      holders := e.holders ++ [{ station := u, mode := m, grant := e.nextGrant }],
                      waiters := e.waiters } ∧
        t.countdown r u e.nextGrant = .running (term u) ∧
        ∀ r' h' g', (r', h', g') ≠ (r, u, e.nextGrant) → t.countdown r' h' g' = s.countdown r' h' g') ∧
      (fits → ¬grantable → pb = 1 →
        t.entry r = { e with waiters := e.waiters ++ [{ station := u, mode := m }] } ∧
        t.timer.countdowns = s.timer.countdowns) ∧
      (¬fits ∨ (¬grantable ∧ pb = 2) → t.entry r = e ∧ t.timer.countdowns = s.timer.countdowns) ∧
      (u ≠ s.self → t.stack = s.stack ∧ (GateLaw s → t.gate = s.gate ∧ t.port = s.port)) ∧
      (u = s.self → GateLaw s → ∀ below k, s.stack = below ++ [k] → (∀ x ∈ below, x.resource ≠ r) → k.resource = r →
        let refused (cause : BitVec 4) : State := s.raise { kind := .refused, subject := r, grant := 0, detail := cause }
        (k.state = .sending →
          (fits → grantable → t.stack = below ++ [{ k with state := .held e.nextGrant false }] ∧
            t.port = (s.raise { kind := .granted, subject := r, grant := e.nextGrant,
                                detail := if m = .shared then 0 else 1 }).port ∧
            ∀ n : Fin 8, channelResource n = r → s.ctl.station = .member →
              t.gate[n].opened = true ∧ t.gate[n].armed = false) ∧
          (fits → ¬grantable → pb = 1 → t.stack = below ++ [{ k with state := .waiting }] ∧ t.port = s.port) ∧
          (fits → ¬grantable → pb = 2 → t.stack = below ∧ t.port = (refused 0).port) ∧
          (¬fits → t.stack = below ∧ t.port = (refused 1).port)) ∧
        (k.state = .withdrawing .claimOutstanding →
          (fits → grantable → t.stack = below ++ [{ k with state := .releasing e.nextGrant true }] ∧ t.port = s.port) ∧
          (fits → ¬grantable → pb = 1 →
            t.stack = below ++ [{ k with state := .withdrawing .withdrawOwed }] ∧ t.port = s.port) ∧
          (fits → ¬grantable → pb = 2 → t.stack = below ∧ t.port = (refused 0).port) ∧
          (¬fits → t.stack = below ∧ t.port = (refused 1).port)))

/-- APPLY_RELEASE and APPLY_LAPSE. A hold that the notice does not name by resource, station and grant number stays. The
named one is removed, the entry FREE when none remain, and promotion runs, each promoted hold with its countdown loaded.
This station's own RELEASING record is popped with RELEASED; its HELD or EXPIRED one becomes LAPSED with LAPSED, and its
gate closes, with a CUT of detail 2 if GOUT was low. When the last holder goes, its WAITING record at the front of the
queue becomes HELD with GRANTED, and its withdraw-owed one RELEASING without GRANTED, its RELEASE asked for and its
queued WITHDRAW removed (R10, R12, R17, R19, R24, R96 to R98, R100, R101, R114, R134). -/
def Obligations.HoldRemovalApplied : Prop :=
  ∀ (s : State) (c : Instr) (n : Notice) (rest : List Notice) (r : Resource) (rb : Byte) (h : Station) (g : Grant)
    (byThis : Bool), Applies s n rest → rb.toNat = r.val →
    ((c = .applyRelease ∧ n = { sender := h, body := .release rb g } ∧ byThis = decide (h = s.self)) ∨
      (∃ v hb, c = .applyLapse ∧ n = { sender := v, body := .lapse rb hb g } ∧ hb.toNat = h.val ∧
        byThis = decide (v = s.self))) →
    let term (v : Station) : Nat := if v = s.self then s.bankParams.leaseTermMs
      else s.bankParams.leaseTermMs + s.bankParams.graceMs
    let e := s.entry r
    let left := e.holders.filter fun x => !(decide (x.station = h) && decide (x.grant = g))
    let named : Prop := r.val < s.count ∧ ∃ x ∈ e.holders, x.station = h ∧ x.grant = g
    ∃ t, exec c s = .next t ∧ EntryNoticeFrame s t ∧ (∀ r', r' ≠ r → t.entry r' = s.entry r') ∧
      (¬named → t.entry r = e ∧ t.timer.countdowns = s.timer.countdowns ∧ t.stack = s.stack) ∧
      (named →
        t.entry r = ({ e with holders := left, state := if left = [] then .free else e.state }).promote ∧
        ((∀ w ∈ e.waiters, w.station ≠ h) → t.countdown r h g = .stopped) ∧
        (∀ x ∈ (t.entry r).holders, x ∉ e.holders →
          t.countdown r x.station x.grant = .running (term x.station)) ∧
        (h = s.self → (∀ w ∈ e.waiters, w.station ≠ h) → ∀ below k above, OnlyRecord s below k above → k.resource = r →
          (∀ fw, k.state = .releasing g fw → t.stack = below ++ above ∧
            (GateLaw s → t.port = (s.raise
              { kind := .released, subject := r, grant := g, detail := if fw then 3 else 0 }).port)) ∧
          (∀ p, k.state = .held g p ∨ k.state = .expired g →
            t.stack = below ++ { k with state := .lapsed g } :: above ∧
            (∀ m : Fin 8, channelResource m = r → t.gate[m].opened = false) ∧
            (GateLaw s →
              let u := s.raise { kind := .lapsed, subject := r, grant := g, detail := if byThis then 1 else 0 }
              t.port = (if ∃ m : Fin 8, channelResource m = r ∧ s.gate[m].goutLow = true then
                u.raise { kind := .cut, subject := r, grant := g, detail := 2 } else u).port))) ∧
        (h ≠ s.self → left = [] → ∀ m ws below k, e.waiters = { station := s.self, mode := m } :: ws →
          s.stack = below ++ [k] → (∀ x ∈ below, x.resource ≠ r) → k.resource = r → k.state = .waiting →
          let g' := if e.counter = 65535 then 1 else e.counter + 1
          t.stack = below ++ [{ k with state := .held g' false }] ∧
            (GateLaw s → t.port = (s.raise { kind := .granted, subject := r, grant := g',
                                             detail := if m = .shared then 0 else 1 }).port) ∧
            ∀ n : Fin 8, channelResource n = r → s.ctl.station = .member → t.gate[n].opened = true) ∧
        (h ≠ s.self → left = [] → ∀ m ws below k, e.waiters = { station := s.self, mode := m } :: ws →
          (∀ w ∈ ws, w.station ≠ s.self) → s.stack = below ++ [k] → (∀ x ∈ below, x.resource ≠ r) → k.resource = r →
          k.state = .withdrawing .withdrawOwed →
          let g' := if e.counter = 65535 then 1 else e.counter + 1
          t.stack = below ++ [{ k with state := .releasing g' true }] ∧ (GateLaw s → t.port = s.port) ∧
            (∀ f ∈ t.sendq.frames, f.phase = .queued → f.body ≠ .withdraw r) ∧
            (GeneralRoom s (.release r g') → NothingExpired s →
              generalFrame (.release r g') ∈ t.sendq.frames)))

/-- APPLY_WITHDRAW: a waiter of the sender is removed from wherever it stands and promotion runs; without one nothing
changes; this station's own withdraw-owed record is popped with WITHDRAWN. APPLY_RENEW: the countdown of every hold of
the sender that an item names by resource and grant number is loaded and its queued LAPSE removed, every other
countdown goes on, no entry changes; this station's own record loses renewal pending with GRANTED (R11, R12, R18, R20,
R51, R96, R98, R134). -/
def Obligations.WithdrawAndRenewApplied : Prop :=
  (∀ (s : State) (u : Station) (r : Resource) (rb : Byte) (rest : List Notice),
    Applies s { sender := u, body := .withdraw rb } rest → rb.toNat = r.val →
    let e := s.entry r
    let waits : Prop := r.val < s.count ∧ ∃ w ∈ e.waiters, w.station = u
    ∃ t, exec .applyWithdraw s = .next t ∧ EntryNoticeFrame s t ∧ (∀ r', r' ≠ r → t.entry r' = s.entry r') ∧
      (¬waits → t.entry r = e ∧ t.stack = s.stack) ∧
      (waits →
        t.entry r = ({ e with waiters := e.waiters.filter fun w => decide (w.station ≠ u) }).promote ∧
        (u = s.self → ∀ below k, s.stack = below ++ [k] → (∀ x ∈ below, x.resource ≠ r) → k.resource = r →
          k.state = .withdrawing .withdrawOwed → t.stack = below ∧
            (GateLaw s → t.port = (s.raise { kind := .withdrawn, subject := r, grant := 0, detail := 0 }).port)))) ∧
  (∀ (s : State) (u : Station) (items : List (Byte × Grant)) (rest : List Notice),
    Applies s { sender := u, body := .renew items } rest →
    let term (v : Station) : Nat := if v = s.self then s.bankParams.leaseTermMs
      else s.bankParams.leaseTermMs + s.bankParams.graceMs
    let named (r : Resource) (g : Grant) : Prop := (∃ rb, (rb, g) ∈ items ∧ rb.toNat = r.val) ∧ r.val < s.count ∧
      ∃ x ∈ (s.entry r).holders, x.station = u ∧ x.grant = g
    ∃ t, exec .applyRenew s = .next t ∧ EntryNoticeFrame s t ∧ t.table.entries = s.table.entries ∧
      (∀ r g, named r g →
        t.countdown r u g = .running (term u) ∧
        ∀ f ∈ t.sendq.frames, f.phase = .queued → f.body ≠ .lapse r u g) ∧
      (∀ r h g, ¬(h = u ∧ named r g) → t.countdown r h g = s.countdown r h g) ∧
      (u ≠ s.self → t.stack = s.stack) ∧
      (u = s.self → ∀ below k above g, OnlyRecord s below k above → k.state = .held g true → named k.resource g →
        { k with state := .held g false } ∈ t.stack ∧
        (s.port.reports = [] → items.length ≤ 4 →
          { kind := .granted, subject := k.resource, grant := g, detail := if k.mode = .shared then 0 else 1 } ∈
            t.port.reports)))

/-- APPLY_JOIN and APPLY_SYNC of another station, in the bank: one whose attempt is above 2, whose JOIN has a parameter
out of range, or whose SYNC comes from no MEMBER, changes no record; else the sender's record is JOINING, or stays
MEMBER, with the attempt and the image source of R34; a JOIN of a MEMBER first takes it out of every entry, with
PEER_GONE of detail 2; a MEMBER station that is the source owes the image. This station's own JOIN while JOINING, and
its own SYNC while RESYNC, begin an image-pending state at that attempt and load the image wait; without a source the
join wait is loaded, and a RESYNC station with nothing to reconcile is MEMBER with RESYNC_DONE (R35 to R37, R59, R61,
R64, R69, R73, R81, R87). -/
def Obligations.JoinAndSyncApplied : Prop :=
  (∀ (s : State) (u : Station) (ab : Byte) (p : Params) (rest : List Notice),
    Applies s { sender := u, body := .join ab p } rest → u ≠ s.self → ∃ t, exec .applyJoin s = .next t ∧
      t.ctl = s.ctl ∧ t.line = { s.line with inbound := rest } ∧
      (∀ q : Station, q ≠ u → t.table.members[q] = s.table.members[q]) ∧
      (2 < ab.toNat ∨ p.inRange = false →
        t.table.members[u] = s.table.members[u] ∧ t.table.entries = s.table.entries) ∧
      (∀ a : Fin 4, a.val = ab.toNat → a.val ≤ 2 → p.inRange = true →
        t.table.members[u] = .joining (some { attempt := a, source := chooseSource s.table.members u a }) ∧
        (chooseSource s.table.members u a = some s.self → s.ctl.station = .member →
          { target := u, attempt := a, next := .membership } ∈ t.table.transfers) ∧
        (s.table.members[u].isJoining = false → t.timer.silence[u] = .running s.bankParams.silenceLimitMs) ∧
        (s.table.members[u].isMember = false → t.table.entries = s.table.entries) ∧
        (s.table.members[u].isMember = true → TableLaw s →
          (∀ r : Resource, r.val < s.count → (∀ h ∈ (t.entry r).holders, h.station ≠ u) ∧
            ∀ w ∈ (t.entry r).waiters, w.station ≠ u) ∧
          (s.table.members[s.self].isMember = true →
            (s.raise { kind := .peerGone, subject := u, grant := 0, detail := 2 }).port.reports <+:
              t.port.reports)))) ∧
  (∀ (s : State) (a : Fin 4) (ab : Byte) (p : Params) (rest : List Notice), s.ctl.inReset = false →
    s.ctl.station = .joining → s.line.inbound = { sender := s.self, body := .join ab p } :: rest → a.val = ab.toNat →
    a.val ≤ 2 → p.inRange = true → s.table.members[s.self].isMember = false →
    let source := chooseSource s.table.members s.self a
    ∃ t, exec .applyJoin s = .next t ∧ t.ctl = s.ctl ∧
      t.table.members[s.self] = .joining (some { attempt := a, source := source }) ∧
      t.table.imagePending = some { attempt := a, membershipInstalled := false,
                                    installed := Vector.replicate 16 false, spoiled := false } ∧
      t.timer.foundWait = .stopped ∧
      (source = none → t.timer.joinWait = .running s.ctl.proposed.joinWaitMs ∧ t.timer.imageWait = .stopped) ∧
      (source ≠ none → t.timer.joinWait = .stopped ∧ t.timer.imageWait = .running s.ctl.proposed.imageWaitMs)) ∧
  (∀ (s : State) (u : Station) (ab : Byte) (rest : List Notice),
    Applies s { sender := u, body := .sync ab } rest → u ≠ s.self → ∃ t, exec .applySync s = .next t ∧
      EntryNoticeFrame s { t with table := { t.table with members := s.table.members, transfers := standing s } } ∧
      t.table.entries = s.table.entries ∧ t.stack = s.stack ∧
      (∀ q : Station, q ≠ u → t.table.members[q] = s.table.members[q]) ∧
      (2 < ab.toNat ∨ s.table.members[u].isMember = false → t.table.members[u] = s.table.members[u]) ∧
      (∀ a : Fin 4, a.val = ab.toNat → a.val ≤ 2 → s.table.members[u].isMember = true →
        (chooseSource s.table.members u a = none → t.table.members[u] = .member none) ∧
        (∀ q, chooseSource s.table.members u a = some q →
          t.table.members[u] = .member (some { attempt := a, source := some q }) ∧
          (q = s.self → s.ctl.station = .member →
            { target := u, attempt := a, next := .membership } ∈ t.table.transfers)))) ∧
  (∀ (s : State) (a : Fin 4) (ab : Byte) (rest : List Notice), s.ctl.inReset = false → s.ctl.station = .resync →
    s.line.inbound = { sender := s.self, body := .sync ab } :: rest → a.val = ab.toNat → a.val ≤ 2 →
    s.table.members[s.self].isMember = true → ∃ t, exec .applySync s = .next t ∧
      (∀ q, chooseSource s.table.members s.self a = some q → t.ctl = s.ctl ∧
        t.table.members[s.self] = .member (some { attempt := a, source := some q }) ∧
        t.table.imagePending = some { attempt := a, membershipInstalled := false,
                                      installed := Vector.replicate 16 false, spoiled := false } ∧
        t.timer.imageWait = .running s.bankParams.imageWaitMs) ∧
      (chooseSource s.table.members s.self a = none → s.stack = [] →
        (∀ r, (∀ h ∈ (s.entry r).holders, h.station ≠ s.self) ∧ ∀ w ∈ (s.entry r).waiters, w.station ≠ s.self) →
        t.ctl = { s.ctl with station := .member, exhausted := false } ∧ t.table.imagePending = none ∧
        t.timer.imageWait = .stopped ∧
        (s.raise { kind := .resyncDone, subject := 0, grant := 0, detail := 0 }).port.reports <+: t.port.reports))

/-- APPLY_FOUND. At a JOINING station with no MEMBER in its table, from a JOINING sender (or one first seen by this
FOUND): the station is MEMBER, holds the FOUND's parameters, every entry is clear, every JOINING record is MEMBER, the
waits are stopped, the silence timers loaded; MEMBER is raised with the founded bit, and the adopted bit where the
parameters are not the proposed ones; then PEER_JOINED for each other in ascending number. Where a record is MEMBER the
FOUND has no effect on the tables (R23, R38 to R41, R47, R59, R200). -/
def Obligations.FoundApplied : Prop :=
  (∀ (s : State) (u : Station) (p : Params) (rest : List Notice), s.ctl.inReset = false → s.ctl.station = .joining →
    s.line.inbound = { sender := u, body := .found p } :: rest → p.inRange = true →
    (∀ q : Station, s.table.members[q].isMember = false) → s.table.members[s.self].isJoining = true →
    (s.table.members[u].isJoining = true ∨ (s.table.bank = none ∧ s.table.members[u] = .absent)) → s.stack = [] →
    (∀ n : Fin 8, s.gate[n].opened = false) → s.port.reports = [] →
    let joined (q : Station) : Bool := s.table.members[q].isJoining || decide (q = u)
    ∃ t, exec .applyFound s = .next t ∧ t.ctl = { s.ctl with station := .member } ∧ t.table.bank = some p ∧
      (∀ r, t.entry r = { state := .free, counter := 0, holders := [], waiters := [] }) ∧
      (∀ q : Station, t.table.members[q] = if joined q then .member none else .absent) ∧
      t.table.imagePending = none ∧ t.timer.countdowns = [] ∧ t.timer.joinWait = .stopped ∧
      t.timer.foundWait = .stopped ∧ t.timer.imageWait = .stopped ∧ t.stack = [] ∧ t.gate = s.gate ∧
      (∀ q : Station, q ≠ s.self → joined q = true → t.timer.silence[q] = .running p.silenceLimitMs) ∧
      t.line = { s.line with inbound := rest } ∧
      t.port.reports = { kind := .member, subject := 0, grant := 0,
                         detail := if p = s.ctl.proposed then 1 else 3 } ::
        ((List.finRange 16).filter fun q => joined q && decide (q ≠ s.self)).map fun q =>
          { kind := .peerJoined, subject := q, grant := 0, detail := 0 }) ∧
  (∀ (s : State) (u : Station) (p : Params) (rest : List Notice),
    Applies s { sender := u, body := .found p } rest → (∃ q : Station, s.table.members[q].isMember = true) →
    ∃ t, exec .applyFound s = .next t ∧ EntryNoticeFrame s t ∧ t.table.entries = s.table.entries ∧
      t.timer.countdowns = s.timer.countdowns ∧ t.stack = s.stack)

/-- APPLY_LEAVE of a MEMBER, and APPLY_EVICT by a MEMBER of a station not ABSENT. A peer's record is ABSENT, it holds
and waits nowhere in use, its silence timer is discarded, and PEER_GONE has detail 0 or 1. At this station itself:
READY, the tables, the timers and the queues clear, the gates closed; of the stack LEAVE keeps the LAPSED records, and
EVICT makes the HELD and EXPIRED ones LAPSED as well; each other record is popped; from top to bottom each is reported,
RELEASED or WITHDRAWN with detail 1, or LAPSED with detail 3, each HELD one of an open channel with GOUT low followed by
a CUT, of detail 2 at EVICT, and at a LEAVE, where the spec gives no detail, of a free one (log entry 42); last LEFT,
with detail 1 when exhausted (log entry 37), or EVICTED (R21, R44, R45, R108, R109, R114, R116, R202, R203). -/
def Obligations.LeaveAndEvictApplied : Prop :=
  ∀ (s : State) (c : Instr) (n : Notice) (rest : List Notice) (u : Station) (evicted : Bool), Applies s n rest →
    ((c = .applyLeave ∧ n = { sender := u, body := .leave } ∧ s.table.members[u].isMember = true ∧ evicted = false) ∨
      (∃ v ub, c = .applyEvict ∧ n = { sender := v, body := .evict ub } ∧ ub.toNat = u.val ∧
        s.table.members[v].isMember = true ∧ s.table.members[u] ≠ .absent ∧ evicted = true)) →
    (u ≠ s.self → TableLaw s → ∃ t, exec c s = .next t ∧ t.ctl = s.ctl ∧ t.line = { s.line with inbound := rest } ∧
      t.table.members[u] = .absent ∧ (∀ q : Station, q ≠ u → t.table.members[q] = s.table.members[q]) ∧
      t.table.bank = s.table.bank ∧ t.timer.silence[u] = .stopped ∧
      (∀ r : Resource, r.val < s.count → (∀ h ∈ (t.entry r).holders, h.station ≠ u) ∧
        ∀ w ∈ (t.entry r).waiters, w.station ≠ u) ∧
      (s.table.members[s.self].isMember = true →
        (s.raise { kind := .peerGone, subject := u, grant := 0, detail := if evicted then 1 else 0 }).port.reports <+:
          t.port.reports)) ∧
    (u = s.self → StackLaw s → GateLaw s → ∃ t, exec c s = .next t ∧
      t.ctl = { s.ctl with station := .ready, exhausted := false } ∧ t.table = TableUnit.clear ∧
      t.timer = TimerUnit.clear ∧ t.sendq = SendQueue.clear ∧ t.line.inbound = [] ∧
      (∀ m : Fin 8, t.gate[m] = { opened := false, armed := false, ginLow := s.gate[m].ginLow }) ∧
      t.stack = s.stack.filterMap (fun k =>
        match k.state with
        | .lapsed _ => some k
        | .held g _ => if evicted then some { k with state := .lapsed g } else none
        | .expired g => if evicted then some { k with state := .lapsed g } else none
        | _ => none) ∧
      (let cut (r : Resource) (g : Grant) : List Report :=
          if ∃ m : Fin 8, channelResource m = r ∧ s.gate[m].goutLow = true then
            [{ kind := .cut, subject := r, grant := g, detail := if evicted then 2 else Config.leaveCutDetail }] else []
        let told (k : Record) : List Report :=
          match k.state with
          | .lapsed _ => []
          | .held g _ =>
            (if evicted then { kind := .lapsed, subject := k.resource, grant := g, detail := 3 }
              else { kind := .released, subject := k.resource, grant := g, detail := 1 }) :: cut k.resource g
          | .expired g =>
            [if evicted then { kind := .lapsed, subject := k.resource, grant := g, detail := 3 }
              else { kind := .released, subject := k.resource, grant := g, detail := 1 }]
          | .releasing g _ => [{ kind := .released, subject := k.resource, grant := g, detail := 1 }]
          | .sending => [{ kind := .withdrawn, subject := k.resource, grant := 0, detail := 1 }]
          | .waiting => [{ kind := .withdrawn, subject := k.resource, grant := 0, detail := 1 }]
          | .withdrawing _ => [{ kind := .withdrawn, subject := k.resource, grant := 0, detail := 1 }]
        let all := s.stack.reverse.flatMap told ++
          [if evicted then { kind := .evicted, subject := 0, grant := 0, detail := 0 }
            else { kind := .left, subject := 0, grant := 0, detail := if s.ctl.exhausted then 1 else 0 }]
        s.port.reports.length + all.length ≤ 16 →
          t.port.reports = s.port.reports ++ all))

/-- APPLY_IMAGE. At the target, at the attempt of its record and not spoiled, a membership part replaces the membership
table and the bank parameters, and entries at or above a lowered count are clear; a resource part after it overwrites
its entry, each hold with a countdown of lease term plus grace, but an own hold known before in RESYNC keeps the one it
had; the image wait is loaded unless the part is the last. The last part makes a JOINING target MEMBER at every station,
with PEER_JOINED, and ends a RESYNC target's transfer; the joiner itself is MEMBER, with MEMBER raised and its waits
stopped. At the source the next part follows, or the item goes. A resource part before the membership part spoils the
attempt. The last part of a spoiled attempt makes a joiner that has installed the membership part MEMBER, then at once
RESYNC with cause 1, its queued JOIN removed and a SYNC at attempt 0 asked for; one that has not stays JOINING; a RESYNC
station asks for a SYNC at the next attempt, or at attempt 2 is exhausted and asks for a LEAVE (R33, R42, R43, R52, R64,
R70, R74, R76, R79, R200, R204). That the image-pending state then carries the attempt is the model's reading (log entry
22). -/
def Obligations.ImageApplied : Prop :=
  (∀ (s : State) (v : Station) (a : Fin 4) (ms : Vector MemberRecord 16) (ps : Params) (rest : List Notice)
    (tr : Transfer) (ip : ImagePending), s.ctl.inReset = false →
    (s.ctl.station = .joining ∨ s.ctl.station = .resync) → v ≠ s.self →
    s.line.inbound = { sender := v, body := .image s.self a false (.membership ms ps) } :: rest →
    s.table.members[s.self].transfer = some tr → tr.attempt = a → s.table.imagePending = some ip →
    ip.spoiled = false →
    ∃ t, exec .applyImage s = .next t ∧ t.ctl = s.ctl ∧ t.stack = s.stack ∧ t.table.members = ms ∧
      t.table.bank = some ps ∧ t.table.imagePending = some { ip with membershipInstalled := true } ∧
      (∀ r : Resource, r.val < ps.count.toNat → t.entry r = s.entry r) ∧
      (∀ r : Resource, ps.count.toNat ≤ r.val → ps.count.toNat < s.count → t.entry r = Entry.clear) ∧
      t.timer.imageWait = .running
        (if s.ctl.station = .joining then s.ctl.proposed.imageWaitMs else ps.imageWaitMs)) ∧
  (∀ (s : State) (v : Station) (a : Fin 4) (r : Resource) (e : Entry) (rest : List Notice) (tr : Transfer)
    (ip : ImagePending), s.ctl.inReset = false → (s.ctl.station = .joining ∨ s.ctl.station = .resync) → v ≠ s.self →
    s.line.inbound = { sender := v, body := .image s.self a false (.resource r e) } :: rest →
    s.table.members[s.self].transfer = some tr → tr.attempt = a → s.table.imagePending = some ip →
    ip.spoiled = false → ip.membershipInstalled = true → r.val < s.count →
    ∃ t, exec .applyImage s = .next t ∧ t.ctl = s.ctl ∧ t.stack = s.stack ∧ t.table.members = s.table.members ∧
      t.table.bank = s.table.bank ∧ t.entry r = e ∧ (∀ r', r' ≠ r → t.entry r' = s.entry r') ∧
      t.table.imagePending = some { ip with installed := ip.installed.set r true } ∧
      t.timer.imageWait = .running s.timeParams.imageWaitMs ∧
      (∀ h g, e.holds h g = true →
        let kept : Prop := s.ctl.station = .resync ∧ h = s.self ∧ (s.entry r).holds h g = true ∧
          ∃ c ∈ s.timer.countdowns, c.isOf r h g = true
        (kept → t.countdown r h g = s.countdown r h g) ∧
        (¬kept → t.countdown r h g = .running (s.bankParams.leaseTermMs + s.bankParams.graceMs))) ∧
      (∀ h g, e.holds h g = false → t.countdown r h g = .stopped)) ∧
  (∀ (s : State) (v : Station) (a : Fin 4) (r : Resource) (e : Entry) (rest : List Notice) (tr : Transfer)
    (ip : ImagePending), s.ctl.inReset = false → s.ctl.station = .joining → v ≠ s.self →
    s.line.inbound = { sender := v, body := .image s.self a true (.resource r e) } :: rest →
    s.table.members[s.self] = .joining (some tr) → tr.attempt = a → s.table.imagePending = some ip →
    ip.spoiled = false → ip.membershipInstalled = true → r.val < s.count →
    ∃ t, exec .applyImage s = .next t ∧ t.ctl = { s.ctl with station := .member } ∧ t.stack = s.stack ∧
      t.entry r = e ∧ (∀ r', r' ≠ r → t.entry r' = s.entry r') ∧ t.table.members[s.self] = .member none ∧
      (∀ q : Station, q ≠ s.self → t.table.members[q] = s.table.members[q]) ∧ t.table.imagePending = none ∧
      t.timer.joinWait = .stopped ∧ t.timer.foundWait = .stopped ∧ t.timer.imageWait = .stopped ∧
      (s.raise { kind := .member, subject := 0, grant := 0,
                 detail := if s.bankParams = s.ctl.proposed then 0 else 2 }).port.reports <+: t.port.reports) ∧
  (∀ (s : State) (u v : Station) (a : Fin 4) (last : Bool) (content : PartContent) (rest : List Notice)
    (tr : Transfer), Applies s { sender := v, body := .image u a last content } rest → u ≠ s.self →
    s.table.members[u].transfer = some tr → tr.attempt = a →
    ∃ t, exec .applyImage s = .next t ∧ t.ctl = s.ctl ∧ t.stack = s.stack ∧ t.table.entries = s.table.entries ∧
      (∀ q : Station, q ≠ u → t.table.members[q] = s.table.members[q]) ∧
      (last = false → t.table.members[u] = s.table.members[u] ∧
        ∀ more, v = s.self → tr.source = some s.self →
          s.table.transfers = { target := u, attempt := a, next := content.part } :: more →
          { target := u, attempt := a, next := content.part.following } ∈ t.table.transfers) ∧
      (last = true → t.table.members[u] = .member none ∧
        (v = s.self → { target := u, attempt := a, next := content.part } ∉ t.table.transfers) ∧
        (s.table.members[u].isJoining = true → s.table.members[s.self].isMember = true →
          (s.raise { kind := .peerJoined, subject := u, grant := 0, detail := 0 }).port.reports <+: t.port.reports))) ∧
  (∀ (s : State) (v : Station) (a : Fin 4) (r : Resource) (e : Entry) (rest : List Notice) (tr : Transfer)
    (ip : ImagePending), s.ctl.inReset = false → (s.ctl.station = .joining ∨ s.ctl.station = .resync) → v ≠ s.self →
    s.line.inbound = { sender := v, body := .image s.self a false (.resource r e) } :: rest →
    s.table.members[v].isMember = true → s.table.members[s.self].transfer = some tr → tr.attempt = a →
    s.table.imagePending = some ip → ip.spoiled = false → ip.membershipInstalled = false →
    ∃ t, exec .applyImage s = .next t ∧ t.ctl = s.ctl ∧ t.stack = s.stack ∧ t.table.members = s.table.members ∧
      t.table.bank = s.table.bank ∧ t.table.entries = s.table.entries ∧ t.timer.countdowns = s.timer.countdowns ∧
      t.timer.imageWait = s.timer.imageWait ∧ t.table.imagePending = some { ip with spoiled := true }) ∧
  (∀ (s : State) (v : Station) (a : Fin 4) (content : PartContent) (rest : List Notice) (tr : Transfer)
    (ip : ImagePending), s.ctl.inReset = false → v ≠ s.self →
    s.line.inbound = { sender := v, body := .image s.self a true content } :: rest →
    s.table.members[v].isMember = true → tr.attempt = a → s.table.imagePending = some ip → ip.spoiled = true →
    (s.ctl.station = .joining → s.table.members[s.self] = .joining (some tr) → s.stack = [] →
      (∀ n : Fin 8, s.gate[n].opened = false) → ∃ t, exec .applyImage s = .next t ∧ t.stack = [] ∧
      t.table.entries = s.table.entries ∧ t.table.bank = s.table.bank ∧ t.timer.countdowns = s.timer.countdowns ∧
      (∀ n : Fin 8, t.gate[n].opened = false) ∧
      (ip.membershipInstalled = true →
        t.ctl = { s.ctl with station := .resync, exhausted := false } ∧ t.table.imagePending = none ∧
        t.table.members = s.table.members.set s.self (.member none) ∧
        t.timer.joinWait = .stopped ∧ t.timer.foundWait = .stopped ∧ t.timer.imageWait = .stopped ∧
        t.port = ((s.raise { kind := .member, subject := 0, grant := 0,
                             detail := if s.bankParams = s.ctl.proposed then 0 else 2 }).raise
          { kind := .resyncBegun, subject := 0, grant := 0, detail := 1 }).port ∧
        (∀ f ∈ t.sendq.frames, f.phase = .queued → ∀ x p, f.body ≠ .join x p) ∧
        (GeneralRoom s (.sync 0) → NothingExpired s → generalFrame (.sync 0) ∈ t.sendq.frames)) ∧
      (ip.membershipInstalled = false → t.ctl = s.ctl ∧ t.table.members = s.table.members ∧
        t.table.imagePending = some ip ∧ t.timer.imageWait = s.timer.imageWait ∧ t.port = s.port)) ∧
    (s.ctl.station = .resync → s.table.members[s.self] = .member (some tr) → s.ctl.exhausted = false → GateLaw s →
      ∃ t, exec .applyImage s = .next t ∧ t.stack = s.stack ∧ t.table.entries = s.table.entries ∧
      t.table.members = s.table.members.set s.self (.member none) ∧ t.timer.countdowns = s.timer.countdowns ∧
      t.timer.imageWait = .stopped ∧ t.gate = s.gate ∧ t.port = s.port ∧
      (a.val < 2 → t.ctl = s.ctl ∧ t.table.imagePending = some { ip with attempt := a } ∧
        (GeneralRoom s (.sync (a + 1)) → NothingExpired s → generalFrame (.sync (a + 1)) ∈ t.sendq.frames)) ∧
      (a.val = 2 → t.ctl = { s.ctl with exhausted := true } ∧ t.table.imagePending = some ip ∧
        (GeneralRoom s .leave → NothingExpired s → generalFrame .leave ∈ t.sendq.frames))))

/-- Reconciliation, at this station's own last part in RESYNC in an attempt that is not spoiled, or at its own SYNC that
finds no source. Each record, bottom first, is settled against the entry as it then stands. HELD and EXPIRED are kept
with their hold, else LAPSED with LAPSED; RELEASING is kept with its hold, else popped with RELEASED; WAITING and
WITHDRAWING are kept with a waiter, the latter as withdraw-owed, made HELD with renewal pending where there is a hold,
else popped with WITHDRAWN; SENDING and LAPSED are kept; every report has detail 2. Where a hold or waiter of this
station then matches no record the station is exhausted and asks for a LEAVE. Else it is MEMBER, RESYNC_DONE after the
records' reports, its gates open as R113 says and none armed, a queued SYNC removed, and a RENEW asked for where a
record has taken renewal pending. No LAPSE of another station's hold and no EVICT is asked for before the next tick
(R43, R81, R84 to R87, R107, R204). The model's readings: a LAPSED here carries the last number held (log entry 40),
which records account for a hold (log entry 17), and that the test for unmatched holds is made at a SYNC without a
source too (log entry 18). -/
def Obligations.ReconciliationSettles : Prop :=
  ∀ (s : State) (c : Instr) (rest : List Notice) (entries : Resource → Entry), s.ctl.inReset = false →
    s.ctl.station = .resync → s.ctl.exhausted = false → StackLaw s → GateLaw s →
    ((∃ v r e tr ip, c = .applyImage ∧ v ≠ s.self ∧
        s.line.inbound = { sender := v, body := .image s.self tr.attempt true (.resource r e) } :: rest ∧
        s.table.members[s.self] = .member (some tr) ∧ s.table.imagePending = some ip ∧ ip.spoiled = false ∧
        ip.membershipInstalled = true ∧ r.val < s.count ∧ ∀ r', entries r' = if r' = r then e else s.entry r') ∨
      (∃ (ab : Byte) (a : Fin 4), c = .applySync ∧
        s.line.inbound = { sender := s.self, body := .sync ab } :: rest ∧ a.val = ab.toNat ∧ a.val ≤ 2 ∧
        s.table.members[s.self].isMember = true ∧ chooseSource s.table.members s.self a = none ∧ entries = s.entry)) →
    let held (r : Resource) (g : Grant) : Bool :=
      (entries r).holders.any fun x => decide (x.station = s.self) && decide (x.grant = g)
    let own (r : Resource) : Option Hold := (entries r).holders.find? fun x => decide (x.station = s.self)
    let waits (r : Resource) : Bool := (entries r).waiters.any fun w => decide (w.station = s.self)
    let settled (k : Record) : Option Record × List Report :=
      let lapse (g : Grant) : Option Record × List Report := (some { k with state := .lapsed g },
        [{ kind := .lapsed, subject := k.resource, grant := g, detail := 2 }])
      let wait (kept : RecordState) : Option Record × List Report :=
        if waits k.resource then (some { k with state := kept }, [])
        else
          match own k.resource with
          | some x => (some { k with state := .held x.grant true }, [])
          | none => (none, [{ kind := .withdrawn, subject := k.resource, grant := 0, detail := 2 }])
      match k.state with
      | .held g _ => if held k.resource g then (some k, []) else lapse g
      | .expired g => if held k.resource g then (some k, []) else lapse g
      | .releasing g _ =>
        if held k.resource g then (some k, [])
        else (none, [{ kind := .released, subject := k.resource, grant := g, detail := 2 }])
      | .waiting => wait .waiting
      | .withdrawing _ => wait (.withdrawing .withdrawOwed)
      | .sending => (some k, [])
      | .lapsed _ => (some k, [])
    let stack := s.stack.filterMap fun k => (settled k).1
    let told := s.stack.flatMap fun k => (settled k).2
    let unmatched : Prop := ∃ r : Resource,
      (∃ x ∈ (entries r).holders, x.station = s.self ∧ ∀ k ∈ stack, k.resource = r →
        (∀ p, k.state ≠ .held x.grant p) ∧ k.state ≠ .expired x.grant ∧ ∀ p, k.state ≠ .releasing x.grant p) ∨
      (waits r = true ∧ ∀ k ∈ stack, k.resource = r → k.state ≠ .waiting ∧ ∀ w, k.state ≠ .withdrawing w)
    ∃ t, exec c s = .next t ∧ t.stack = stack ∧ (∀ r, t.entry r = entries r) ∧ t.table.bank = s.table.bank ∧
      t.table.members = s.table.members.set s.self (.member none) ∧ t.line = { s.line with inbound := rest } ∧
      (∀ f ∈ t.sendq.frames, ((∃ u, f.body = .evict u) ∨ ∃ r h g, h ≠ s.self ∧ f.body = .lapse r h g) →
        f ∈ s.sendq.frames) ∧
      (s.port.reports.length + told.length < 16 →
        (unmatched → t.port.reports = s.port.reports ++ told) ∧
        (¬unmatched → t.port.reports =
          s.port.reports ++ told ++ [{ kind := .resyncDone, subject := 0, grant := 0, detail := 0 }])) ∧
      (unmatched → t.ctl = { s.ctl with exhausted := true } ∧ t.gate = s.gate ∧
        (∀ ip, t.table.imagePending = some ip → ip.spoiled = true) ∧
        (GeneralRoom s .leave → NothingExpired s → generalFrame .leave ∈ t.sendq.frames)) ∧
      (¬unmatched → t.ctl = { s.ctl with station := .member } ∧ t.table.imagePending = none ∧
        t.timer.imageWait = .stopped ∧ (∀ f ∈ t.sendq.frames, f.phase = .queued → ∀ a, f.body ≠ .sync a) ∧
        (∀ n : Fin 8, t.gate[n].armed = false ∧ (t.gate[n].opened = true ↔
          ∃ k g ms, k ∈ stack ∧ k.resource = channelResource n ∧ k.state = .held g false ∧
            t.countdown k.resource s.self g = .running ms)) ∧
        ((∃ k ∈ s.stack, ∃ x, (settled k).1 = some { k with state := .held x true } ∧ ∀ y p, k.state ≠ .held y p) →
          GeneralRoom s .renew → NothingExpired s → generalFrame .renew ∈ t.sendq.frames))

/-- A JOINING station applies the notices of its peers. It stays JOINING, its stack empty, its gates closed, and raises
nothing. The notice shows its sender to be MEMBER where only a MEMBER sends its kind: this station's own image source is
chosen again, a found wait gives way to the image wait, and once a record is MEMBER a queued FOUND is removed; then the
membership effects follow. An entry not installed at the current attempt keeps its content and countdowns; an installed
one changes as it would at a MEMBER. Its own EVICT makes it READY, clear, with EVICTED (R5, R35 to R37, R39, R41, R43 to
R45, R47, R63, R75, R134, R202). An IMAGE part for this station and a founding FOUND have statements of their own. -/
def Obligations.JoinerAppliesNotices : Prop :=
  ∀ (s : State) (n : Notice) (rest : List Notice), s.ctl.inReset = false → s.ctl.station = .joining →
    s.line.inbound = n :: rest → s.stack = [] → (∀ m : Fin 8, s.gate[m].opened = false) →
    s.table.members[s.self].isMember = false → (s.table.imagePending = none → s.table.bank = none) →
    let atSelf : Prop := ∃ tb : Byte, n.body = .evict tb ∧ tb.toNat = s.self.val ∧
      s.table.members[s.self] ≠ .absent ∧ (s.table.members[n.sender].isMember = true ∨ ShowsMember s n)
    let gained (view : Vector MemberRecord 16) : Prop :=
      (ShowsMember s n → view = gainedView s n.sender) ∧ (¬ShowsMember s n → view = s.table.members)
    (n.sender ≠ s.self → atSelf → ∃ t, exec .applyEvict s = .next t ∧
      t.ctl = { s.ctl with station := .ready, exhausted := false } ∧ t.table = TableUnit.clear ∧
      t.timer = TimerUnit.clear ∧ t.sendq = SendQueue.clear ∧ t.stack = [] ∧ t.gate = s.gate ∧ t.line.inbound = [] ∧
      t.port = (s.raise { kind := .evicted, subject := 0, grant := 0, detail := 0 }).port) ∧
    (¬atSelf → (n.sender ≠ s.self ∨ ∃ v d, n.body = .presence v d) →
      (∀ a last content, n.body ≠ .image s.self a last content) →
      (∀ p, n.body = .found p → ∃ q : Station, s.table.members[q].isMember = true) →
      ∃ t view, exec (rowOf n.body) s = .next t ∧ gained view ∧
        t.ctl = s.ctl ∧ t.stack = [] ∧ t.gate = s.gate ∧ t.port = s.port ∧ t.table.bank = s.table.bank ∧
        t.table.imagePending = s.table.imagePending ∧ t.line = { s.line with inbound := rest } ∧
        t.table.members = joinerView view s.table.bank.isNone n ∧
        t.timer.presence = s.timer.presence ∧ t.timer.joinWait = s.timer.joinWait ∧
        (let stops : Prop := ShowsMember s n ∧ s.timer.foundWait ≠ .stopped ∧
            (∃ tr, s.table.members[s.self] = .joining (some tr) ∧ tr.source = none);
          (stops → t.timer.foundWait = .stopped ∧ t.timer.imageWait = .running s.ctl.proposed.imageWaitMs) ∧
          (¬stops → t.timer.foundWait = s.timer.foundWait ∧ t.timer.imageWait = s.timer.imageWait)) ∧
        ((∃ q : Station, t.table.members[q].isMember = true) →
          ∀ f ∈ t.sendq.frames, f.phase = .queued → ∀ p, f.body ≠ .found p) ∧
        ∃ t', exec (rowOf n.body) { s with ctl := { s.ctl with station := .member } } = .next t' ∧
          ∀ r : Resource,
            let installed : Prop := r.val < s.count ∧ ∃ ip, s.table.imagePending = some ip ∧ ip.installed[r] = true
            (¬installed → t.entry r = s.entry r ∧ ∀ h g, t.countdown r h g = s.countdown r h g) ∧
            (installed → t.entry r = t'.entry r ∧ ∀ h g, t.countdown r h g = t'.countdown r h g))

/-- APPLY_PRESENCE: a MEMBER that hears a valid digest, not its own, of a lower-numbered MEMBER is in RESYNC, with
RESYNC_BEGUN of detail 0, every gate closed, no transfer, and, from an empty stack and send queue with no expired
countdown, a SYNC at attempt 0 queued; a PRESENCE that is not valid, or equal, or from a higher number, or from no
MEMBER, or heard in LEAVING or RESYNC, changes nothing but the notice's place (R77 to R79). -/
def Obligations.PresenceApplied : Prop :=
  ∀ (s : State) (u : Station) (valid : Bool) (digest : BitVec 16) (rest : List Notice),
    Applies s { sender := u, body := .presence valid digest } rest →
    let differs : Prop := s.ctl.station = .member ∧ valid = true ∧ s.table.members[u].isMember = true ∧
      digest ≠ s.digest ∧ u < s.self
    ∃ t, exec .applyPresence s = .next t ∧ t.stack = s.stack ∧ t.table.entries = s.table.entries ∧
      t.table.members = s.table.members ∧ t.table.bank = s.table.bank ∧
      t.timer.countdowns = s.timer.countdowns ∧ t.line = { s.line with inbound := rest } ∧
      (¬differs → EntryNoticeFrame s t ∧ (GateLaw s → t.gate = s.gate ∧ t.port = s.port)) ∧
      (differs → t.ctl = { s.ctl with station := .resync, exhausted := false } ∧ t.table.transfers = [] ∧
        (∀ n : Fin 8, t.gate[n].opened = false) ∧
        (s.raise { kind := .resyncBegun, subject := 0, grant := 0, detail := 0 }).port.reports <+: t.port.reports ∧
        (s.table.imagePending = none → s.sendq = SendQueue.clear → s.stack = [] →
          (∀ c ∈ s.timer.countdowns, c.timer ≠ .expired) → t.sendq.frames = [generalFrame (.sync 0)]))

/-! ## Timers and requests -/

/-- HOLD_COUNTDOWN_EXPIRY, when the countdown's time has run out. The countdown is expired. For this station's own hold
in the bank the HELD record becomes EXPIRED, its gate closes at once, with a CUT of detail 0 if GOUT was low, and a
LAPSE is queued where there is room; for another station's hold the LAPSE is queued in MEMBER, and nothing else happens
in the other states (R48, R53, R54, R114). That the expiry is a row of its own, taken at time 0, and changes nothing at
any other time, is the model's choice (log entries 4 and 6). -/
def Obligations.HoldCountdownExpires : Prop :=
  (∀ (s : State) (r : Resource) (h : Station), s.ctl.inReset = false →
    (∀ c ∈ s.timer.countdowns, c.resource = r → c.holder = h → c.timer ≠ .running 0) →
    exec (.holdCountdownExpiry r h) s = .next s) ∧
  ∀ (s : State) (r : Resource) (h : Station) (g : Grant) (before after : List Countdown), s.ctl.inReset = false →
    s.timer.countdowns = before ++ { resource := r, holder := h, grant := g, timer := .running 0 } :: after →
    (∀ x ∈ before ++ after, ¬(x.resource = r ∧ x.holder = h)) →
    let timer := { s.timer with
      countdowns := before ++ after ++ [{ resource := r, holder := h, grant := g, timer := .expired }] }
    (h ≠ s.self → s.ctl.station ≠ .member →
      exec (.holdCountdownExpiry r h) s = .next { s with timer := timer }) ∧
    (h ≠ s.self → s.ctl.station = .member → GeneralRoom s (.lapse r h g) → exec (.holdCountdownExpiry r h) s =
      .next (queuedLast { s with timer := timer } (generalFrame (.lapse r h g)))) ∧
    (h = s.self → s.ctl.station.inBank = true → GeneralRoom s (.lapse r h g) →
      ∀ below k above p, OnlyRecord s below k above → k.resource = r → k.state = .held g p →
        ∃ gate port, exec (.holdCountdownExpiry r h) s = .next (queuedLast { s with
            timer := timer, stack := below ++ { k with state := .expired g } :: above, gate := gate, port := port }
            (generalFrame (.lapse r h g))) ∧
          (∀ n : Fin 8, channelResource n ≠ r → gate[n] = s.gate[n]) ∧
          (8 ≤ r.val → port = s.port) ∧
          ∀ n : Fin 8, channelResource n = r →
            gate[n].opened = false ∧ gate[n].ginLow = s.gate[n].ginLow ∧
            (s.gate[n].goutLow = true →
              port = (s.raise { kind := .cut, subject := r, grant := g, detail := 0 }).port) ∧
            (s.gate[n].goutLow = false → port = s.port))

/-- The other expiries, of a timer whose time has run out while the line is not BLOCKED (while it is, these timers are
frozen; that an expiry commanded then, or with time left, changes nothing is the model's choice, log entries 4 and 6).
Where there is room the frame asked for is the latest in the queue. The presence timer asks for a PRESENCE; a silence
timer at a MEMBER for an EVICT; the join wait starts the image wait, or without a source the found wait by the rank; the
found wait asks for a FOUND while no record is MEMBER; the image wait asks for the JOIN or SYNC at the next attempt, and
at attempt 2 a joiner is READY with JOIN_FAILED and a RESYNC station is exhausted and asks for a LEAVE (R32, R39, R48,
R57, R60, R62, R63, R65 to R67, R201, R204). -/
def Obligations.OtherTimersExpire : Prop :=
  ∀ s : State, s.ctl.inReset = false →
    (s.line.state = some .blocked → exec .presenceTimerExpiry s = .next s ∧
      (∀ p, exec (.silenceTimerExpiry p) s = .next s) ∧ exec .joinWaitExpiry s = .next s ∧
      exec .foundWaitExpiry s = .next s ∧ exec .imageWaitExpiry s = .next s) ∧
    (s.timer.presence ≠ .running 0 → exec .presenceTimerExpiry s = .next s) ∧
    (∀ p : Station, s.timer.silence[p] ≠ .running 0 → exec (.silenceTimerExpiry p) s = .next s) ∧
    (s.timer.joinWait ≠ .running 0 → exec .joinWaitExpiry s = .next s) ∧
    (s.timer.foundWait ≠ .running 0 → exec .foundWaitExpiry s = .next s) ∧
    (s.timer.imageWait ≠ .running 0 → exec .imageWaitExpiry s = .next s) ∧
    (s.line.state ≠ some .blocked →
      (s.timer.presence = .running 0 → s.listening = true → (∀ f ∈ s.sendq.frames, f.place ≠ .presence) →
        NoneQueued s 11 → (∀ f, s.sendq.awaiting = some f → f.body ≠ .presence) →
        exec .presenceTimerExpiry s = .next (queuedLast { s with timer := { s.timer with presence := .expired } }
          { body := .presence, place := .presence, retries := 0, hostMark := false, phase := .queued })) ∧
      (∀ p : Station, s.timer.silence[p] = .running 0 → s.ctl.station = .member →
        s.table.members[p] ≠ .absent → GeneralRoom s (.evict p) → exec (.silenceTimerExpiry p) s =
          .next (queuedLast { s with timer := { s.timer with silence := s.timer.silence.set p .expired } }
            (generalFrame (.evict p)))) ∧
      (s.timer.joinWait = .running 0 → s.ctl.station = .joining →
        let rank := ((List.finRange 16).filter fun q => decide (q < s.self) && s.table.members[q].isJoining).length
        ((∀ tr, s.table.members[s.self].transfer = some tr → tr.source = none) → exec .joinWaitExpiry s =
          .next { s with timer := { s.timer with
            joinWait := .expired, foundRank := rank,
            foundWait := .running (s.ctl.proposed.joinWaitMs * (1 + rank)) } }) ∧
        (∀ tr q, s.table.members[s.self].transfer = some tr → tr.source = some q → exec .joinWaitExpiry s =
          .next { s with timer := { s.timer with
            joinWait := .expired, imageWait := .running s.ctl.proposed.imageWaitMs } })) ∧
      (s.timer.foundWait = .running 0 → s.ctl.station = .joining →
        ((∀ q : Station, s.table.members[q].isMember = false) → GeneralRoom s (.found s.ctl.proposed) →
          exec .foundWaitExpiry s = .next (queuedLast { s with timer := { s.timer with foundWait := .expired } }
            (generalFrame (.found s.ctl.proposed)))) ∧
        ((∃ q : Station, s.table.members[q].isMember = true) → exec .foundWaitExpiry s =
          .next { s with timer := { s.timer with foundWait := .expired } })) ∧
      (∀ tr, s.timer.imageWait = .running 0 → s.table.members[s.self].transfer = some tr →
        let u := { s with timer := { s.timer with imageWait := .expired } }
        (s.ctl.station = .joining → tr.attempt.val < 2 →
          GeneralRoom s (.join (tr.attempt + 1) s.ctl.proposed) → exec .imageWaitExpiry s =
            .next (queuedLast u (generalFrame (.join (tr.attempt + 1) s.ctl.proposed)))) ∧
        (s.ctl.station = .joining → tr.attempt.val = 2 → GateLaw s → ∃ t, exec .imageWaitExpiry s = .next t ∧
          t.ctl = { s.ctl with station := .ready, exhausted := false } ∧ t.table = TableUnit.clear ∧
          t.timer = TimerUnit.clear ∧ t.sendq = SendQueue.clear ∧ t.line.inbound = [] ∧ t.stack = s.stack ∧
          t.gate = s.gate ∧ t.port = (s.raise { kind := .joinFailed, subject := 0, grant := 0, detail := 0 }).port) ∧
        (∀ ip, s.ctl.station = .resync → s.table.imagePending = some ip →
          (tr.attempt.val < 2 → GeneralRoom s (.sync (tr.attempt + 1)) → exec .imageWaitExpiry s =
            .next (queuedLast u (generalFrame (.sync (tr.attempt + 1))))) ∧
          (tr.attempt.val = 2 → s.ctl.exhausted = false → GeneralRoom s .leave → exec .imageWaitExpiry s =
            .next (queuedLast { u with
              ctl := { s.ctl with exhausted := true },
              table := { s.table with imagePending := some { ip with spoiled := true } } } (generalFrame .leave))))))

/-- The requests made again at a tick. Each of the ten rows changes nothing but the send queue, to which it adds at the
end; and where its condition stands, no frame of the kind and target is queued and there is room, it adds that one
frame, with retry count 0 (R55, R57, R60, R63, R65, R66, R81, R85, R96, R97, R204). -/
def Obligations.RequestsAreMadeAgain : Prop :=
  ∀ s : State, s.ctl.inReset = false →
    (∀ c : Instr, ((∃ r h, c = .lapseAskedAgain r h) ∨ (∃ p, c = .evictAskedAgain p) ∨ c = .presenceAskedAgain ∨
        c = .foundAskedAgain ∨ c = .joinAskedAgain ∨ c = .syncAskedAgain ∨ c = .reconciliationRenewAsked ∨
        c = .owedReleaseAsked ∨ c = .exhaustedLeaveAsked ∨ c = .owedWithdrawPlaced) →
      ∃ added, exec c s = .next { s with sendq := { s.sendq with frames := s.sendq.frames ++ added } } ∧
        ∀ f ∈ added, f.retries = 0 ∧ f.phase = .queued) ∧
    (∀ r h g, s.timer.countdowns.filter (fun c => decide (c.resource = r) && decide (c.holder = h)) =
        [{ resource := r, holder := h, grant := g, timer := .expired }] →
      (if h = s.self then s.ctl.station.inBank = true else s.ctl.station = .member) → GeneralRoom s (.lapse r h g) →
      exec (.lapseAskedAgain r h) s = .next (queuedLast s (generalFrame (.lapse r h g)))) ∧
    (∀ p : Station, s.timer.silence[p] = .expired → s.ctl.station = .member → s.table.members[p] ≠ .absent →
      GeneralRoom s (.evict p) → exec (.evictAskedAgain p) s = .next (queuedLast s (generalFrame (.evict p)))) ∧
    (s.timer.presence = .expired → s.listening = true → (∀ f ∈ s.sendq.frames, f.place ≠ .presence) →
      NoneQueued s 11 → (∀ f, s.sendq.awaiting = some f → f.body ≠ .presence) →
      exec .presenceAskedAgain s = .next (queuedLast s
        { body := .presence, place := .presence, retries := 0, hostMark := false, phase := .queued })) ∧
    (s.timer.foundWait = .expired → s.ctl.station = .joining → (∀ q : Station, s.table.members[q].isMember = false) →
      GeneralRoom s (.found s.ctl.proposed) →
      exec .foundAskedAgain s = .next (queuedLast s (generalFrame (.found s.ctl.proposed)))) ∧
    (∀ tr, s.timer.imageWait = .expired → s.ctl.station = .joining → s.table.members[s.self].transfer = some tr →
      tr.attempt.val < 2 → GeneralRoom s (.join (tr.attempt + 1) s.ctl.proposed) →
      exec .joinAskedAgain s = .next (queuedLast s (generalFrame (.join (tr.attempt + 1) s.ctl.proposed)))) ∧
    (s.ctl.station = .resync → s.ctl.exhausted = false → s.table.imagePending = none → GeneralRoom s (.sync 0) →
      exec .syncAskedAgain s = .next (queuedLast s (generalFrame (.sync 0)))) ∧
    (∀ tr ip, s.timer.imageWait = .expired → s.ctl.station = .resync → s.table.imagePending = some ip →
      s.table.members[s.self].transfer = some tr → tr.attempt.val < 2 → GeneralRoom s (.sync (tr.attempt + 1)) →
      exec .syncAskedAgain s = .next (queuedLast s (generalFrame (.sync (tr.attempt + 1))))) ∧
    (∀ k ∈ s.stack, ∀ g, k.state = .held g true → GeneralRoom s .renew →
      exec .reconciliationRenewAsked s = .next (queuedLast s (generalFrame .renew))) ∧
    (∀ below k g ms, s.stack = below ++ [k] → (∀ x ∈ below, x.state.isPending = false) →
      k.state = .releasing g true → s.countdown k.resource s.self g = .running ms →
      (s.ctl.station = .member ∨ s.ctl.station = .resync) → GeneralRoom s (.release k.resource g) →
      exec .owedReleaseAsked s = .next (queuedLast s (generalFrame (.release k.resource g)))) ∧
    (s.ctl.station = .resync → s.ctl.exhausted = true → GeneralRoom s .leave →
      exec .exhaustedLeaveAsked s = .next (queuedLast s (generalFrame .leave))) ∧
    (∀ below k, s.stack = below ++ [k] → (∀ x ∈ below, x.state.isPending = false) →
      k.state = .withdrawing .withdrawOwed → s.ctl.station = .member → SlotFree s →
      (∀ f ∈ s.sendq.frames, f.body ≠ .withdraw k.resource) →
      (∀ f, s.sendq.awaiting = some f → f.body ≠ .withdraw k.resource) →
      exec .owedWithdrawPlaced s = .next (queuedLast s (hostFrame (.withdraw k.resource))))
end

