-- ==== Sys2Proof/Laws/State.lean ====
section
/-! SUPPORT. One lemma per field per block update of the state, and the fields of the named operations that update one
block once. Later proofs unfold no record update. -/

namespace Sys2Proof.Machine

@[simp] theorem State.withCtl_ctl (s : State) (x : Controller) : (s.withCtl x).ctl = x := rfl
@[simp] theorem State.withCtl_table (s : State) (x : Controller) : (s.withCtl x).table = s.table := rfl
@[simp] theorem State.withCtl_timer (s : State) (x : Controller) : (s.withCtl x).timer = s.timer := rfl
@[simp] theorem State.withCtl_sendq (s : State) (x : Controller) : (s.withCtl x).sendq = s.sendq := rfl
@[simp] theorem State.withCtl_stack (s : State) (x : Controller) : (s.withCtl x).stack = s.stack := rfl
@[simp] theorem State.withCtl_gate (s : State) (x : Controller) : (s.withCtl x).gate = s.gate := rfl
@[simp] theorem State.withCtl_line (s : State) (x : Controller) : (s.withCtl x).line = s.line := rfl
@[simp] theorem State.withCtl_port (s : State) (x : Controller) : (s.withCtl x).port = s.port := rfl
@[simp] theorem State.withCtl_pending (s : State) (x : Controller) : (s.withCtl x).pending = s.pending := rfl
@[simp] theorem State.withTable_ctl (s : State) (x : TableUnit) : (s.withTable x).ctl = s.ctl := rfl
@[simp] theorem State.withTable_table (s : State) (x : TableUnit) : (s.withTable x).table = x := rfl
@[simp] theorem State.withTable_timer (s : State) (x : TableUnit) : (s.withTable x).timer = s.timer := rfl
@[simp] theorem State.withTable_sendq (s : State) (x : TableUnit) : (s.withTable x).sendq = s.sendq := rfl
@[simp] theorem State.withTable_stack (s : State) (x : TableUnit) : (s.withTable x).stack = s.stack := rfl
@[simp] theorem State.withTable_gate (s : State) (x : TableUnit) : (s.withTable x).gate = s.gate := rfl
@[simp] theorem State.withTable_line (s : State) (x : TableUnit) : (s.withTable x).line = s.line := rfl
@[simp] theorem State.withTable_port (s : State) (x : TableUnit) : (s.withTable x).port = s.port := rfl
@[simp] theorem State.withTable_pending (s : State) (x : TableUnit) : (s.withTable x).pending = s.pending := rfl
@[simp] theorem State.withTimer_ctl (s : State) (x : TimerUnit) : (s.withTimer x).ctl = s.ctl := rfl
@[simp] theorem State.withTimer_table (s : State) (x : TimerUnit) : (s.withTimer x).table = s.table := rfl
@[simp] theorem State.withTimer_timer (s : State) (x : TimerUnit) : (s.withTimer x).timer = x := rfl
@[simp] theorem State.withTimer_sendq (s : State) (x : TimerUnit) : (s.withTimer x).sendq = s.sendq := rfl
@[simp] theorem State.withTimer_stack (s : State) (x : TimerUnit) : (s.withTimer x).stack = s.stack := rfl
@[simp] theorem State.withTimer_gate (s : State) (x : TimerUnit) : (s.withTimer x).gate = s.gate := rfl
@[simp] theorem State.withTimer_line (s : State) (x : TimerUnit) : (s.withTimer x).line = s.line := rfl
@[simp] theorem State.withTimer_port (s : State) (x : TimerUnit) : (s.withTimer x).port = s.port := rfl
@[simp] theorem State.withTimer_pending (s : State) (x : TimerUnit) : (s.withTimer x).pending = s.pending := rfl
@[simp] theorem State.withSendq_ctl (s : State) (x : SendQueue) : (s.withSendq x).ctl = s.ctl := rfl
@[simp] theorem State.withSendq_table (s : State) (x : SendQueue) : (s.withSendq x).table = s.table := rfl
@[simp] theorem State.withSendq_timer (s : State) (x : SendQueue) : (s.withSendq x).timer = s.timer := rfl
@[simp] theorem State.withSendq_sendq (s : State) (x : SendQueue) : (s.withSendq x).sendq = x := rfl
@[simp] theorem State.withSendq_stack (s : State) (x : SendQueue) : (s.withSendq x).stack = s.stack := rfl
@[simp] theorem State.withSendq_gate (s : State) (x : SendQueue) : (s.withSendq x).gate = s.gate := rfl
@[simp] theorem State.withSendq_line (s : State) (x : SendQueue) : (s.withSendq x).line = s.line := rfl
@[simp] theorem State.withSendq_port (s : State) (x : SendQueue) : (s.withSendq x).port = s.port := rfl
@[simp] theorem State.withSendq_pending (s : State) (x : SendQueue) : (s.withSendq x).pending = s.pending := rfl
@[simp] theorem State.withStack_ctl (s : State) (x : List Record) : (s.withStack x).ctl = s.ctl := rfl
@[simp] theorem State.withStack_table (s : State) (x : List Record) : (s.withStack x).table = s.table := rfl
@[simp] theorem State.withStack_timer (s : State) (x : List Record) : (s.withStack x).timer = s.timer := rfl
@[simp] theorem State.withStack_sendq (s : State) (x : List Record) : (s.withStack x).sendq = s.sendq := rfl
@[simp] theorem State.withStack_stack (s : State) (x : List Record) : (s.withStack x).stack = x := rfl
@[simp] theorem State.withStack_gate (s : State) (x : List Record) : (s.withStack x).gate = s.gate := rfl
@[simp] theorem State.withStack_line (s : State) (x : List Record) : (s.withStack x).line = s.line := rfl
@[simp] theorem State.withStack_port (s : State) (x : List Record) : (s.withStack x).port = s.port := rfl
@[simp] theorem State.withStack_pending (s : State) (x : List Record) : (s.withStack x).pending = s.pending := rfl
@[simp] theorem State.withGate_ctl (s : State) (x : Vector Channel 8) : (s.withGate x).ctl = s.ctl := rfl
@[simp] theorem State.withGate_table (s : State) (x : Vector Channel 8) : (s.withGate x).table = s.table := rfl
@[simp] theorem State.withGate_timer (s : State) (x : Vector Channel 8) : (s.withGate x).timer = s.timer := rfl
@[simp] theorem State.withGate_sendq (s : State) (x : Vector Channel 8) : (s.withGate x).sendq = s.sendq := rfl
@[simp] theorem State.withGate_stack (s : State) (x : Vector Channel 8) : (s.withGate x).stack = s.stack := rfl
@[simp] theorem State.withGate_gate (s : State) (x : Vector Channel 8) : (s.withGate x).gate = x := rfl
@[simp] theorem State.withGate_line (s : State) (x : Vector Channel 8) : (s.withGate x).line = s.line := rfl
@[simp] theorem State.withGate_port (s : State) (x : Vector Channel 8) : (s.withGate x).port = s.port := rfl
@[simp] theorem State.withGate_pending (s : State) (x : Vector Channel 8) : (s.withGate x).pending = s.pending := rfl
@[simp] theorem State.withLine_ctl (s : State) (x : LineUnit) : (s.withLine x).ctl = s.ctl := rfl
@[simp] theorem State.withLine_table (s : State) (x : LineUnit) : (s.withLine x).table = s.table := rfl
@[simp] theorem State.withLine_timer (s : State) (x : LineUnit) : (s.withLine x).timer = s.timer := rfl
@[simp] theorem State.withLine_sendq (s : State) (x : LineUnit) : (s.withLine x).sendq = s.sendq := rfl
@[simp] theorem State.withLine_stack (s : State) (x : LineUnit) : (s.withLine x).stack = s.stack := rfl
@[simp] theorem State.withLine_gate (s : State) (x : LineUnit) : (s.withLine x).gate = s.gate := rfl
@[simp] theorem State.withLine_line (s : State) (x : LineUnit) : (s.withLine x).line = x := rfl
@[simp] theorem State.withLine_port (s : State) (x : LineUnit) : (s.withLine x).port = s.port := rfl
@[simp] theorem State.withLine_pending (s : State) (x : LineUnit) : (s.withLine x).pending = s.pending := rfl
@[simp] theorem State.withPort_ctl (s : State) (x : HostPort) : (s.withPort x).ctl = s.ctl := rfl
@[simp] theorem State.withPort_table (s : State) (x : HostPort) : (s.withPort x).table = s.table := rfl
@[simp] theorem State.withPort_timer (s : State) (x : HostPort) : (s.withPort x).timer = s.timer := rfl
@[simp] theorem State.withPort_sendq (s : State) (x : HostPort) : (s.withPort x).sendq = s.sendq := rfl
@[simp] theorem State.withPort_stack (s : State) (x : HostPort) : (s.withPort x).stack = s.stack := rfl
@[simp] theorem State.withPort_gate (s : State) (x : HostPort) : (s.withPort x).gate = s.gate := rfl
@[simp] theorem State.withPort_line (s : State) (x : HostPort) : (s.withPort x).line = s.line := rfl
@[simp] theorem State.withPort_port (s : State) (x : HostPort) : (s.withPort x).port = x := rfl
@[simp] theorem State.withPort_pending (s : State) (x : HostPort) : (s.withPort x).pending = s.pending := rfl
@[simp] theorem State.withPending_ctl (s : State) (x : List Instr) : (s.withPending x).ctl = s.ctl := rfl
@[simp] theorem State.withPending_table (s : State) (x : List Instr) : (s.withPending x).table = s.table := rfl
@[simp] theorem State.withPending_timer (s : State) (x : List Instr) : (s.withPending x).timer = s.timer := rfl
@[simp] theorem State.withPending_sendq (s : State) (x : List Instr) : (s.withPending x).sendq = s.sendq := rfl
@[simp] theorem State.withPending_stack (s : State) (x : List Instr) : (s.withPending x).stack = s.stack := rfl
@[simp] theorem State.withPending_gate (s : State) (x : List Instr) : (s.withPending x).gate = s.gate := rfl
@[simp] theorem State.withPending_line (s : State) (x : List Instr) : (s.withPending x).line = s.line := rfl
@[simp] theorem State.withPending_port (s : State) (x : List Instr) : (s.withPending x).port = s.port := rfl
@[simp] theorem State.withPending_pending (s : State) (x : List Instr) : (s.withPending x).pending = x := rfl

@[simp] theorem State.withSerial_ctl (s : State) (p : SerialPins) : (s.withSerial p).ctl = s.ctl := rfl
@[simp] theorem State.withSerial_table (s : State) (p : SerialPins) : (s.withSerial p).table = s.table := rfl
@[simp] theorem State.withSerial_timer (s : State) (p : SerialPins) : (s.withSerial p).timer = s.timer := rfl
@[simp] theorem State.withSerial_sendq (s : State) (p : SerialPins) : (s.withSerial p).sendq = s.sendq := rfl
@[simp] theorem State.withSerial_stack (s : State) (p : SerialPins) : (s.withSerial p).stack = s.stack := rfl
@[simp] theorem State.withSerial_gate (s : State) (p : SerialPins) : (s.withSerial p).gate = s.gate := rfl
@[simp] theorem State.withSerial_line (s : State) (p : SerialPins) : (s.withSerial p).line = s.line := rfl
@[simp] theorem State.withSerial_pending (s : State) (p : SerialPins) : (s.withSerial p).pending = s.pending := rfl
@[simp] theorem State.withSerial_port (s : State) (p : SerialPins) :
    (s.withSerial p).port = { s.port with serial := p } := rfl

/-- SCK is ignored outside a transaction (R163). -/
theorem State.sckRises_ignored {s : State} (h : s.inTransaction = false) (sdi : Bool) : s.sckRises sdi = .next s := by
  simp [State.sckRises, h]

/-- The bit that completes a command takes it (R163, R164). -/
theorem State.sckRises_takes {s : State} {sdi : Bool} {c : Instr} (h : s.inTransaction = true)
    (hc : s.port.serial.completes sdi = some c) :
    s.sckRises sdi = exec c (s.withSerial { s.port.serial with sampled := s.port.serial.sampled ++ [sdi] }) := by
  simp [State.sckRises, h, hc]

/-- Any other bit of a transaction is only sampled (R163). -/
theorem State.sckRises_samples {s : State} {sdi : Bool} (h : s.inTransaction = true)
    (hc : s.port.serial.completes sdi = none) :
    s.sckRises sdi = .next (s.withSerial { s.port.serial with sampled := s.port.serial.sampled ++ [sdi] }) := by
  simp [State.sckRises, h, hc]

/-- A falling edge of SCK moves only the position of SDO. -/
theorem State.sckFalls_port (s : State) : (s.sckFalls).port =
    if s.inTransaction then { s.port with serial := { s.port.serial with falls := s.port.serial.falls + 1 } } else s.port := by
  unfold State.sckFalls; split <;> rfl

@[simp] theorem State.entry_withTable (s : State) (x : TableUnit) (r : Resource) : (s.withTable x).entry r = x.entries[r] := rfl

/-- An entry is read back where it was written, and every other entry is as it was. -/
theorem State.entry_setEntry (s : State) (r r' : Resource) (e : Entry) :
    (s.setEntry r e).entry r' = if r' = r then e else s.entry r' := by
  unfold State.entry State.setEntry
  simp only [State.withTable_table, Fin.getElem_fin, Vector.getElem_set]
  split <;> split <;> simp_all [Fin.ext_iff, eq_comm]

@[simp] theorem State.entry_setEntry_self (s : State) (r : Resource) (e : Entry) : (s.setEntry r e).entry r = e := by
  simp [State.entry_setEntry]

/-- A membership record is read back where it was written, and every other record is as it was. -/
theorem State.recordOfStation_setMember (s : State) (t u : Station) (m : MemberRecord) :
    (s.setMember t m).recordOfStation u = if u = t then m else s.recordOfStation u := by
  unfold State.recordOfStation State.setMember
  simp only [State.withTable_table, Fin.getElem_fin, Vector.getElem_set]
  split <;> split <;> simp_all [Fin.ext_iff, eq_comm]

end Sys2Proof.Machine
end

