-- ==== Sys2Proof/Laws/Frames.lean ====
section
/-! SUPPORT. What each shared operation leaves alone: one lemma per operation, its parts used as rewrite rules. -/

namespace Sys2Proof.Machine

/-- A fold keeps what each of its steps keeps. -/
theorem foldl_keeps {α : Type} {R : State → State → Prop} (refl : ∀ s, R s s)
    (trans : ∀ {a b c}, R a b → R b c → R a c) {f : State → α → State} (h : ∀ s a, R s (f s a)) :
    ∀ (l : List α) (s : State), R s (l.foldl f s)
  | [], s => refl s
  | a :: l, s => trans (h s a) (foldl_keeps refl trans h l (f s a))

theorem ginLow_set (g : Vector Channel 8) (m : Fin 8) (c : Channel) (hc : c.ginLow = g[m].ginLow) (n : Nat) (h : n < 8) :
    (g.set m c)[n].ginLow = g[n].ginLow := by
  simp only [Vector.getElem_set]
  split
  · subst_vars; exact hc
  · rfl

@[simp] theorem State.raise_frame (s : State) (r : Report) :
    (s.raise r).ctl = s.ctl ∧ (s.raise r).table = s.table ∧ (s.raise r).timer = s.timer ∧
    (s.raise r).sendq = s.sendq ∧ (s.raise r).stack = s.stack ∧ (s.raise r).gate = s.gate ∧
    (s.raise r).line = s.line ∧ (s.raise r).port.mask = s.port.mask ∧
    (s.raise r).port.response = s.port.response ∧ (s.raise r).port.resetArmed = s.port.resetArmed ∧
    (s.raise r).port.serial = s.port.serial ∧
    (s.raise r).pending = s.pending := by
  unfold State.raise; (repeat' split) <;> simp

@[simp] theorem State.report_frame (s : State) (k : ReportKind) (r : Resource) (g : Grant) (d : BitVec 4) :
    (s.report k r g d).ctl = s.ctl ∧ (s.report k r g d).table = s.table ∧ (s.report k r g d).timer = s.timer ∧
    (s.report k r g d).sendq = s.sendq ∧ (s.report k r g d).stack = s.stack ∧ (s.report k r g d).gate = s.gate ∧
    (s.report k r g d).line = s.line ∧ (s.report k r g d).port.mask = s.port.mask ∧
    (s.report k r g d).port.response = s.port.response ∧
    (s.report k r g d).port.resetArmed = s.port.resetArmed ∧ (s.report k r g d).port.serial = s.port.serial ∧
    (s.report k r g d).pending = s.pending := by
  unfold State.report; simp

@[simp] theorem State.respond_frame (s : State) (b : List Byte) :
    (s.respond b).ctl = s.ctl ∧ (s.respond b).table = s.table ∧ (s.respond b).timer = s.timer ∧
    (s.respond b).sendq = s.sendq ∧ (s.respond b).stack = s.stack ∧ (s.respond b).gate = s.gate ∧
    (s.respond b).line = s.line ∧ (s.respond b).port.reports = s.port.reports ∧
    (s.respond b).port.lost = s.port.lost ∧ (s.respond b).port.mask = s.port.mask ∧
    (s.respond b).port.resetArmed = s.port.resetArmed ∧ (s.respond b).port.serial = s.port.serial ∧
    (s.respond b).pending = s.pending := by
  unfold State.respond; simp

@[simp] theorem State.answer_frame (s : State) (c : ResultCode) :
    (s.answer c).ctl = s.ctl ∧ (s.answer c).table = s.table ∧ (s.answer c).timer = s.timer ∧
    (s.answer c).sendq = s.sendq ∧ (s.answer c).stack = s.stack ∧ (s.answer c).gate = s.gate ∧
    (s.answer c).line = s.line ∧ (s.answer c).port.reports = s.port.reports ∧
    (s.answer c).port.lost = s.port.lost ∧ (s.answer c).port.mask = s.port.mask ∧
    (s.answer c).port.resetArmed = s.port.resetArmed ∧ (s.answer c).port.serial = s.port.serial ∧
    (s.answer c).pending = s.pending := by
  unfold State.answer; simp

@[simp] theorem State.answerData_frame (s : State) (b : List Byte) :
    (s.answerData b).ctl = s.ctl ∧ (s.answerData b).table = s.table ∧ (s.answerData b).timer = s.timer ∧
    (s.answerData b).sendq = s.sendq ∧ (s.answerData b).stack = s.stack ∧ (s.answerData b).gate = s.gate ∧
    (s.answerData b).line = s.line ∧ (s.answerData b).port.reports = s.port.reports ∧
    (s.answerData b).port.lost = s.port.lost ∧ (s.answerData b).port.mask = s.port.mask ∧
    (s.answerData b).port.resetArmed = s.port.resetArmed ∧ (s.answerData b).port.serial = s.port.serial ∧
    (s.answerData b).pending = s.pending := by
  unfold State.answerData; simp

@[simp] theorem State.setMember_frame (s : State) (t : Station) (m : MemberRecord) :
    (s.setMember t m).ctl = s.ctl ∧ (s.setMember t m).table.entries = s.table.entries ∧
    (s.setMember t m).table.bank = s.table.bank ∧ (s.setMember t m).table.transfers = s.table.transfers ∧
    (s.setMember t m).table.imagePending = s.table.imagePending ∧ (s.setMember t m).timer = s.timer ∧
    (s.setMember t m).sendq = s.sendq ∧ (s.setMember t m).stack = s.stack ∧ (s.setMember t m).gate = s.gate ∧
    (s.setMember t m).line = s.line ∧ (s.setMember t m).port = s.port ∧
    (s.setMember t m).pending = s.pending := by
  unfold State.setMember; simp

@[simp] theorem State.setEntry_frame (s : State) (r : Resource) (e : Entry) :
    (s.setEntry r e).ctl = s.ctl ∧ (s.setEntry r e).table.members = s.table.members ∧
    (s.setEntry r e).table.bank = s.table.bank ∧ (s.setEntry r e).table.transfers = s.table.transfers ∧
    (s.setEntry r e).table.imagePending = s.table.imagePending ∧ (s.setEntry r e).timer = s.timer ∧
    (s.setEntry r e).sendq = s.sendq ∧ (s.setEntry r e).stack = s.stack ∧ (s.setEntry r e).gate = s.gate ∧
    (s.setEntry r e).line = s.line ∧ (s.setEntry r e).port = s.port ∧ (s.setEntry r e).pending = s.pending := by
  unfold State.setEntry; simp

@[simp] theorem State.setCountdown_frame (s : State) (r : Resource) (h : Station) (g : Grant) (t : Timer) :
    (s.setCountdown r h g t).ctl = s.ctl ∧ (s.setCountdown r h g t).table = s.table ∧
    (s.setCountdown r h g t).timer.presence = s.timer.presence ∧
    (s.setCountdown r h g t).timer.silence = s.timer.silence ∧
    (s.setCountdown r h g t).timer.joinWait = s.timer.joinWait ∧
    (s.setCountdown r h g t).timer.foundWait = s.timer.foundWait ∧
    (s.setCountdown r h g t).timer.foundRank = s.timer.foundRank ∧
    (s.setCountdown r h g t).timer.imageWait = s.timer.imageWait ∧ (s.setCountdown r h g t).sendq = s.sendq ∧
    (s.setCountdown r h g t).stack = s.stack ∧ (s.setCountdown r h g t).gate = s.gate ∧
    (s.setCountdown r h g t).line = s.line ∧ (s.setCountdown r h g t).port = s.port ∧
    (s.setCountdown r h g t).pending = s.pending := by
  unfold State.setCountdown; simp

@[simp] theorem State.loadCountdown_frame (s : State) (r : Resource) (h : Station) (g : Grant) :
    (s.loadCountdown r h g).ctl = s.ctl ∧ (s.loadCountdown r h g).table = s.table ∧
    (s.loadCountdown r h g).timer.presence = s.timer.presence ∧
    (s.loadCountdown r h g).timer.silence = s.timer.silence ∧
    (s.loadCountdown r h g).timer.joinWait = s.timer.joinWait ∧
    (s.loadCountdown r h g).timer.foundWait = s.timer.foundWait ∧
    (s.loadCountdown r h g).timer.foundRank = s.timer.foundRank ∧
    (s.loadCountdown r h g).timer.imageWait = s.timer.imageWait ∧ (s.loadCountdown r h g).sendq = s.sendq ∧
    (s.loadCountdown r h g).stack = s.stack ∧ (s.loadCountdown r h g).gate = s.gate ∧
    (s.loadCountdown r h g).line = s.line ∧ (s.loadCountdown r h g).port = s.port ∧
    (s.loadCountdown r h g).pending = s.pending := by
  unfold State.loadCountdown; simp

@[simp] theorem State.discardCountdown_frame (s : State) (r : Resource) (h : Station) (g : Grant) :
    (s.discardCountdown r h g).ctl = s.ctl ∧ (s.discardCountdown r h g).table = s.table ∧
    (s.discardCountdown r h g).timer.presence = s.timer.presence ∧
    (s.discardCountdown r h g).timer.silence = s.timer.silence ∧
    (s.discardCountdown r h g).timer.joinWait = s.timer.joinWait ∧
    (s.discardCountdown r h g).timer.foundWait = s.timer.foundWait ∧
    (s.discardCountdown r h g).timer.foundRank = s.timer.foundRank ∧
    (s.discardCountdown r h g).timer.imageWait = s.timer.imageWait ∧
    (s.discardCountdown r h g).sendq = s.sendq ∧ (s.discardCountdown r h g).stack = s.stack ∧
    (s.discardCountdown r h g).gate = s.gate ∧ (s.discardCountdown r h g).line = s.line ∧
    (s.discardCountdown r h g).port = s.port ∧ (s.discardCountdown r h g).pending = s.pending := by
  unfold State.discardCountdown; simp

@[simp] theorem State.discardCountdowns_frame (s : State) (w : Resource → Bool) :
    (s.discardCountdowns w).ctl = s.ctl ∧ (s.discardCountdowns w).table = s.table ∧
    (s.discardCountdowns w).timer.presence = s.timer.presence ∧
    (s.discardCountdowns w).timer.silence = s.timer.silence ∧
    (s.discardCountdowns w).timer.joinWait = s.timer.joinWait ∧
    (s.discardCountdowns w).timer.foundWait = s.timer.foundWait ∧
    (s.discardCountdowns w).timer.foundRank = s.timer.foundRank ∧
    (s.discardCountdowns w).timer.imageWait = s.timer.imageWait ∧ (s.discardCountdowns w).sendq = s.sendq ∧
    (s.discardCountdowns w).stack = s.stack ∧ (s.discardCountdowns w).gate = s.gate ∧
    (s.discardCountdowns w).line = s.line ∧ (s.discardCountdowns w).port = s.port ∧
    (s.discardCountdowns w).pending = s.pending := by
  unfold State.discardCountdowns; simp

@[simp] theorem State.loadPresence_frame (s : State) :
    (s.loadPresence).ctl = s.ctl ∧ (s.loadPresence).table = s.table ∧
    (s.loadPresence).timer.countdowns = s.timer.countdowns ∧ (s.loadPresence).timer.silence = s.timer.silence ∧
    (s.loadPresence).timer.joinWait = s.timer.joinWait ∧ (s.loadPresence).timer.foundWait = s.timer.foundWait ∧
    (s.loadPresence).timer.foundRank = s.timer.foundRank ∧
    (s.loadPresence).timer.imageWait = s.timer.imageWait ∧ (s.loadPresence).sendq = s.sendq ∧
    (s.loadPresence).stack = s.stack ∧ (s.loadPresence).gate = s.gate ∧ (s.loadPresence).line = s.line ∧
    (s.loadPresence).port = s.port ∧ (s.loadPresence).pending = s.pending := by
  unfold State.loadPresence; simp

@[simp] theorem State.startJoinWait_frame (s : State) :
    (s.startJoinWait).ctl = s.ctl ∧ (s.startJoinWait).table = s.table ∧
    (s.startJoinWait).timer.countdowns = s.timer.countdowns ∧
    (s.startJoinWait).timer.presence = s.timer.presence ∧ (s.startJoinWait).timer.silence = s.timer.silence ∧
    (s.startJoinWait).timer.foundRank = s.timer.foundRank ∧ (s.startJoinWait).sendq = s.sendq ∧
    (s.startJoinWait).stack = s.stack ∧ (s.startJoinWait).gate = s.gate ∧ (s.startJoinWait).line = s.line ∧
    (s.startJoinWait).port = s.port ∧ (s.startJoinWait).pending = s.pending := by
  unfold State.startJoinWait; simp

@[simp] theorem State.startImageWait_frame (s : State) :
    (s.startImageWait).ctl = s.ctl ∧ (s.startImageWait).table = s.table ∧
    (s.startImageWait).timer.countdowns = s.timer.countdowns ∧
    (s.startImageWait).timer.presence = s.timer.presence ∧ (s.startImageWait).timer.silence = s.timer.silence ∧
    (s.startImageWait).timer.foundRank = s.timer.foundRank ∧ (s.startImageWait).sendq = s.sendq ∧
    (s.startImageWait).stack = s.stack ∧ (s.startImageWait).gate = s.gate ∧ (s.startImageWait).line = s.line ∧
    (s.startImageWait).port = s.port ∧ (s.startImageWait).pending = s.pending := by
  unfold State.startImageWait; simp

@[simp] theorem State.stopWaits_frame (s : State) :
    (s.stopWaits).ctl = s.ctl ∧ (s.stopWaits).table = s.table ∧
    (s.stopWaits).timer.countdowns = s.timer.countdowns ∧ (s.stopWaits).timer.presence = s.timer.presence ∧
    (s.stopWaits).timer.silence = s.timer.silence ∧ (s.stopWaits).timer.foundRank = s.timer.foundRank ∧
    (s.stopWaits).sendq = s.sendq ∧ (s.stopWaits).stack = s.stack ∧ (s.stopWaits).gate = s.gate ∧
    (s.stopWaits).line = s.line ∧ (s.stopWaits).port = s.port ∧ (s.stopWaits).pending = s.pending := by
  unfold State.stopWaits; simp

@[simp] theorem State.evalChannel_frame (s : State) (n : Fin 8) (d : BitVec 4) (g : Grant) :
    (s.evalChannel n d g).ctl = s.ctl ∧ (s.evalChannel n d g).table = s.table ∧
    (s.evalChannel n d g).timer = s.timer ∧ (s.evalChannel n d g).sendq = s.sendq ∧
    (s.evalChannel n d g).stack = s.stack ∧
    (∀ i : Nat, ∀ hi : i < 8, (s.evalChannel n d g).gate[i].ginLow = s.gate[i].ginLow) ∧
    (s.evalChannel n d g).line = s.line ∧ (s.evalChannel n d g).port.mask = s.port.mask ∧
    (s.evalChannel n d g).port.response = s.port.response ∧
    (s.evalChannel n d g).port.resetArmed = s.port.resetArmed ∧ (s.evalChannel n d g).port.serial = s.port.serial ∧
    (s.evalChannel n d g).pending = s.pending := by
  unfold State.evalChannel State.setChannel; (repeat' split) <;> simp
  all_goals exact ginLow_set _ _ _ rfl

@[simp] theorem State.evalResource_frame (s : State) (r : Resource) (d : BitVec 4) (g : Grant) :
    (s.evalResource r d g).ctl = s.ctl ∧ (s.evalResource r d g).table = s.table ∧
    (s.evalResource r d g).timer = s.timer ∧ (s.evalResource r d g).sendq = s.sendq ∧
    (s.evalResource r d g).stack = s.stack ∧
    (∀ i : Nat, ∀ hi : i < 8, (s.evalResource r d g).gate[i].ginLow = s.gate[i].ginLow) ∧
    (s.evalResource r d g).line = s.line ∧ (s.evalResource r d g).port.mask = s.port.mask ∧
    (s.evalResource r d g).port.response = s.port.response ∧
    (s.evalResource r d g).port.resetArmed = s.port.resetArmed ∧ (s.evalResource r d g).port.serial = s.port.serial ∧
    (s.evalResource r d g).pending = s.pending := by
  unfold State.evalResource; (repeat' split) <;> simp

@[simp] theorem State.evalGates_frame (s : State) (d : BitVec 4) :
    (s.evalGates d).ctl = s.ctl ∧ (s.evalGates d).table = s.table ∧ (s.evalGates d).timer = s.timer ∧
    (s.evalGates d).sendq = s.sendq ∧ (s.evalGates d).stack = s.stack ∧
    (∀ i : Nat, ∀ hi : i < 8, (s.evalGates d).gate[i].ginLow = s.gate[i].ginLow) ∧
    (s.evalGates d).line = s.line ∧ (s.evalGates d).port.mask = s.port.mask ∧
    (s.evalGates d).port.response = s.port.response ∧ (s.evalGates d).port.resetArmed = s.port.resetArmed ∧
    (s.evalGates d).port.serial = s.port.serial ∧
    (s.evalGates d).pending = s.pending := by
  unfold State.evalGates
  exact foldl_keeps (R := fun s t => t.ctl = s.ctl ∧ t.table = s.table ∧ t.timer = s.timer ∧ t.sendq = s.sendq
      ∧ t.stack = s.stack ∧ (∀ i : Nat, ∀ hi : i < 8, t.gate[i].ginLow = s.gate[i].ginLow) ∧ t.line = s.line ∧
      t.port.mask = s.port.mask ∧ t.port.response = s.port.response ∧ t.port.resetArmed = s.port.resetArmed ∧
      t.port.serial = s.port.serial ∧
      t.pending = s.pending)
    (fun _ => by simp) (fun h1 h2 => by simp_all) (fun s a => by simp) _ s

@[simp] theorem State.request_frame (s : State) (b : QBody) (p : Place) :
    (s.request b p).ctl = s.ctl ∧ (s.request b p).table = s.table ∧ (s.request b p).timer = s.timer ∧
    (s.request b p).stack = s.stack ∧ (s.request b p).gate = s.gate ∧ (s.request b p).line = s.line ∧
    (s.request b p).port = s.port ∧ (s.request b p).pending = s.pending := by
  unfold State.request; simp

@[simp] theorem State.placeHost_frame (s : State) (b : QBody) :
    (s.placeHost b).ctl = s.ctl ∧ (s.placeHost b).table = s.table ∧ (s.placeHost b).timer = s.timer ∧
    (s.placeHost b).stack = s.stack ∧ (s.placeHost b).gate = s.gate ∧ (s.placeHost b).line = s.line ∧
    (s.placeHost b).port = s.port ∧ (s.placeHost b).pending = s.pending := by
  unfold State.placeHost; simp

@[simp] theorem State.staleCheck_frame (s : State) :
    (s.staleCheck).ctl = s.ctl ∧ (s.staleCheck).table = s.table ∧ (s.staleCheck).timer = s.timer ∧
    (s.staleCheck).stack = s.stack ∧ (s.staleCheck).gate = s.gate ∧ (s.staleCheck).line = s.line ∧
    (s.staleCheck).port = s.port ∧ (s.staleCheck).pending = s.pending := by
  unfold State.staleCheck; simp

@[simp] theorem State.stateCheck_frame (s : State) :
    (s.stateCheck).ctl = s.ctl ∧ (s.stateCheck).table = s.table ∧ (s.stateCheck).timer = s.timer ∧
    (s.stateCheck).stack = s.stack ∧ (s.stateCheck).gate = s.gate ∧ (s.stateCheck).line = s.line ∧
    (s.stateCheck).port = s.port ∧ (s.stateCheck).pending = s.pending := by
  unfold State.stateCheck; simp

@[simp] theorem State.placeImage_frame (s : State) :
    (s.placeImage).ctl = s.ctl ∧ (s.placeImage).table = s.table ∧ (s.placeImage).timer = s.timer ∧
    (s.placeImage).stack = s.stack ∧ (s.placeImage).gate = s.gate ∧ (s.placeImage).line = s.line ∧
    (s.placeImage).port = s.port ∧ (s.placeImage).pending = s.pending := by
  unfold State.placeImage; (repeat' split) <;> simp

@[simp] theorem State.abandonTransfers_frame (s : State) :
    (s.abandonTransfers).ctl = s.ctl ∧ (s.abandonTransfers).table.entries = s.table.entries ∧
    (s.abandonTransfers).table.members = s.table.members ∧ (s.abandonTransfers).table.bank = s.table.bank ∧
    (s.abandonTransfers).table.imagePending = s.table.imagePending ∧ (s.abandonTransfers).timer = s.timer ∧
    (s.abandonTransfers).stack = s.stack ∧ (s.abandonTransfers).gate = s.gate ∧
    (s.abandonTransfers).line = s.line ∧ (s.abandonTransfers).port = s.port ∧
    (s.abandonTransfers).pending = s.pending := by
  unfold State.abandonTransfers; simp

@[simp] theorem State.setRecord_frame (s : State) (r : Resource) (st : RecordState) :
    (s.setRecord r st).ctl = s.ctl ∧ (s.setRecord r st).table = s.table ∧ (s.setRecord r st).timer = s.timer ∧
    (s.setRecord r st).sendq = s.sendq ∧ (s.setRecord r st).gate = s.gate ∧ (s.setRecord r st).line = s.line ∧
    (s.setRecord r st).port = s.port ∧ (s.setRecord r st).pending = s.pending := by
  unfold State.setRecord; simp

@[simp] theorem State.popRecord_frame (s : State) (r : Resource) :
    (s.popRecord r).ctl = s.ctl ∧ (s.popRecord r).table = s.table ∧ (s.popRecord r).timer = s.timer ∧
    (s.popRecord r).sendq = s.sendq ∧ (s.popRecord r).gate = s.gate ∧ (s.popRecord r).line = s.line ∧
    (s.popRecord r).port = s.port ∧ (s.popRecord r).pending = s.pending := by
  unfold State.popRecord; simp

@[simp] theorem State.onGranted_frame (s : State) (c : Bool) (r : Resource) (m : Mode) (g : Grant) :
    (s.onGranted c r m g).ctl = s.ctl ∧ (s.onGranted c r m g).table = s.table ∧
    (s.onGranted c r m g).timer = s.timer ∧ (s.onGranted c r m g).sendq = s.sendq ∧
    (∀ i : Nat, ∀ hi : i < 8, (s.onGranted c r m g).gate[i].ginLow = s.gate[i].ginLow) ∧
    (s.onGranted c r m g).line = s.line ∧ (s.onGranted c r m g).port.mask = s.port.mask ∧
    (s.onGranted c r m g).port.response = s.port.response ∧
    (s.onGranted c r m g).port.resetArmed = s.port.resetArmed ∧ (s.onGranted c r m g).port.serial = s.port.serial ∧
    (s.onGranted c r m g).pending = s.pending := by
  unfold State.onGranted; (repeat' split) <;> simp

@[simp] theorem State.onQueued_frame (s : State) (r : Resource) :
    (s.onQueued r).ctl = s.ctl ∧ (s.onQueued r).table = s.table ∧ (s.onQueued r).timer = s.timer ∧
    (s.onQueued r).gate = s.gate ∧ (s.onQueued r).line = s.line ∧ (s.onQueued r).port = s.port ∧
    (s.onQueued r).pending = s.pending := by
  unfold State.onQueued; (repeat' split) <;> simp

@[simp] theorem State.onRefused_frame (s : State) (r : Resource) (c : BitVec 4) :
    (s.onRefused r c).ctl = s.ctl ∧ (s.onRefused r c).table = s.table ∧ (s.onRefused r c).timer = s.timer ∧
    (s.onRefused r c).sendq = s.sendq ∧ (s.onRefused r c).gate = s.gate ∧ (s.onRefused r c).line = s.line ∧
    (s.onRefused r c).port.mask = s.port.mask ∧ (s.onRefused r c).port.response = s.port.response ∧
    (s.onRefused r c).port.resetArmed = s.port.resetArmed ∧ (s.onRefused r c).port.serial = s.port.serial ∧
    (s.onRefused r c).pending = s.pending := by
  unfold State.onRefused; (repeat' split) <;> simp

@[simp] theorem State.onWaiterRemoved_frame (s : State) (r : Resource) :
    (s.onWaiterRemoved r).ctl = s.ctl ∧ (s.onWaiterRemoved r).table = s.table ∧
    (s.onWaiterRemoved r).timer = s.timer ∧ (s.onWaiterRemoved r).sendq = s.sendq ∧
    (s.onWaiterRemoved r).gate = s.gate ∧ (s.onWaiterRemoved r).line = s.line ∧
    (s.onWaiterRemoved r).port.mask = s.port.mask ∧ (s.onWaiterRemoved r).port.response = s.port.response ∧
    (s.onWaiterRemoved r).port.resetArmed = s.port.resetArmed ∧ (s.onWaiterRemoved r).port.serial = s.port.serial ∧
    (s.onWaiterRemoved r).pending = s.pending := by
  unfold State.onWaiterRemoved; (repeat' split) <;> simp

@[simp] theorem State.onHoldRemoved_frame (s : State) (r : Resource) (g : Grant) (b : Bool) :
    (s.onHoldRemoved r g b).ctl = s.ctl ∧ (s.onHoldRemoved r g b).table = s.table ∧
    (s.onHoldRemoved r g b).timer = s.timer ∧ (s.onHoldRemoved r g b).sendq = s.sendq ∧
    (∀ i : Nat, ∀ hi : i < 8, (s.onHoldRemoved r g b).gate[i].ginLow = s.gate[i].ginLow) ∧
    (s.onHoldRemoved r g b).line = s.line ∧ (s.onHoldRemoved r g b).port.mask = s.port.mask ∧
    (s.onHoldRemoved r g b).port.response = s.port.response ∧
    (s.onHoldRemoved r g b).port.resetArmed = s.port.resetArmed ∧ (s.onHoldRemoved r g b).port.serial = s.port.serial ∧
    (s.onHoldRemoved r g b).pending = s.pending := by
  unfold State.onHoldRemoved; (repeat' split) <;> simp

@[simp] theorem State.onRenewed_frame (s : State) (r : Resource) (g : Grant) :
    (s.onRenewed r g).ctl = s.ctl ∧ (s.onRenewed r g).table = s.table ∧ (s.onRenewed r g).timer = s.timer ∧
    (s.onRenewed r g).sendq = s.sendq ∧
    (∀ i : Nat, ∀ hi : i < 8, (s.onRenewed r g).gate[i].ginLow = s.gate[i].ginLow) ∧
    (s.onRenewed r g).line = s.line ∧ (s.onRenewed r g).port.mask = s.port.mask ∧
    (s.onRenewed r g).port.response = s.port.response ∧ (s.onRenewed r g).port.resetArmed = s.port.resetArmed ∧
    (s.onRenewed r g).port.serial = s.port.serial ∧
    (s.onRenewed r g).pending = s.pending := by
  unfold State.onRenewed; (repeat' split) <;> simp

@[simp] theorem State.onCountdownExpired_frame (s : State) (r : Resource) :
    (s.onCountdownExpired r).ctl = s.ctl ∧ (s.onCountdownExpired r).table = s.table ∧
    (s.onCountdownExpired r).timer = s.timer ∧ (s.onCountdownExpired r).sendq = s.sendq ∧
    (∀ i : Nat, ∀ hi : i < 8, (s.onCountdownExpired r).gate[i].ginLow = s.gate[i].ginLow) ∧
    (s.onCountdownExpired r).line = s.line ∧ (s.onCountdownExpired r).port.mask = s.port.mask ∧
    (s.onCountdownExpired r).port.response = s.port.response ∧
    (s.onCountdownExpired r).port.resetArmed = s.port.resetArmed ∧
    (s.onCountdownExpired r).port.serial = s.port.serial ∧
    (s.onCountdownExpired r).pending = s.pending := by
  unfold State.onCountdownExpired; (repeat' split) <;> simp

@[simp] theorem State.evictRecord_frame (s : State) (k : Record) :
    (s.evictRecord k).ctl = s.ctl ∧ (s.evictRecord k).table = s.table ∧ (s.evictRecord k).timer = s.timer ∧
    (s.evictRecord k).sendq = s.sendq ∧
    (∀ i : Nat, ∀ hi : i < 8, (s.evictRecord k).gate[i].ginLow = s.gate[i].ginLow) ∧
    (s.evictRecord k).line = s.line ∧ (s.evictRecord k).port.mask = s.port.mask ∧
    (s.evictRecord k).port.response = s.port.response ∧ (s.evictRecord k).port.resetArmed = s.port.resetArmed ∧
    (s.evictRecord k).port.serial = s.port.serial ∧
    (s.evictRecord k).pending = s.pending := by
  unfold State.evictRecord; (repeat' split) <;> simp

@[simp] theorem State.leaveRecord_frame (s : State) (k : Record) :
    (s.leaveRecord k).ctl = s.ctl ∧ (s.leaveRecord k).table = s.table ∧ (s.leaveRecord k).timer = s.timer ∧
    (s.leaveRecord k).sendq = s.sendq ∧
    (∀ i : Nat, ∀ hi : i < 8, (s.leaveRecord k).gate[i].ginLow = s.gate[i].ginLow) ∧
    (s.leaveRecord k).line = s.line ∧ (s.leaveRecord k).port.mask = s.port.mask ∧
    (s.leaveRecord k).port.response = s.port.response ∧ (s.leaveRecord k).port.resetArmed = s.port.resetArmed ∧
    (s.leaveRecord k).port.serial = s.port.serial ∧
    (s.leaveRecord k).pending = s.pending := by
  unfold State.leaveRecord; (repeat' split) <;> simp

@[simp] theorem State.holdGranted_frame (s : State) (c : Bool) (r : Resource) (h : Hold) :
    (s.holdGranted c r h).ctl = s.ctl ∧ (s.holdGranted c r h).table = s.table ∧
    (s.holdGranted c r h).timer.presence = s.timer.presence ∧
    (s.holdGranted c r h).timer.silence = s.timer.silence ∧
    (s.holdGranted c r h).timer.joinWait = s.timer.joinWait ∧
    (s.holdGranted c r h).timer.foundWait = s.timer.foundWait ∧
    (s.holdGranted c r h).timer.foundRank = s.timer.foundRank ∧
    (s.holdGranted c r h).timer.imageWait = s.timer.imageWait ∧ (s.holdGranted c r h).sendq = s.sendq ∧
    (∀ i : Nat, ∀ hi : i < 8, (s.holdGranted c r h).gate[i].ginLow = s.gate[i].ginLow) ∧
    (s.holdGranted c r h).line = s.line ∧ (s.holdGranted c r h).port.mask = s.port.mask ∧
    (s.holdGranted c r h).port.response = s.port.response ∧
    (s.holdGranted c r h).port.resetArmed = s.port.resetArmed ∧ (s.holdGranted c r h).port.serial = s.port.serial ∧
    (s.holdGranted c r h).pending = s.pending := by
  unfold State.holdGranted; (repeat' split) <;> simp

@[simp] theorem State.promoteAt_frame (s : State) (r : Resource) :
    (s.promoteAt r).ctl = s.ctl ∧ (s.promoteAt r).table.members = s.table.members ∧
    (s.promoteAt r).table.bank = s.table.bank ∧ (s.promoteAt r).table.transfers = s.table.transfers ∧
    (s.promoteAt r).table.imagePending = s.table.imagePending ∧
    (s.promoteAt r).timer.presence = s.timer.presence ∧ (s.promoteAt r).timer.silence = s.timer.silence ∧
    (s.promoteAt r).timer.joinWait = s.timer.joinWait ∧ (s.promoteAt r).timer.foundWait = s.timer.foundWait ∧
    (s.promoteAt r).timer.foundRank = s.timer.foundRank ∧ (s.promoteAt r).timer.imageWait = s.timer.imageWait ∧
    (s.promoteAt r).sendq = s.sendq ∧
    (∀ i : Nat, ∀ hi : i < 8, (s.promoteAt r).gate[i].ginLow = s.gate[i].ginLow) ∧
    (s.promoteAt r).line = s.line ∧ (s.promoteAt r).port.mask = s.port.mask ∧
    (s.promoteAt r).port.response = s.port.response ∧ (s.promoteAt r).port.resetArmed = s.port.resetArmed ∧
    (s.promoteAt r).port.serial = s.port.serial ∧
    (s.promoteAt r).pending = s.pending := by
  unfold State.promoteAt
  have h := foldl_keeps (R := fun s t => t.ctl = s.ctl ∧ t.table.members = s.table.members ∧ t.table.bank =
      s.table.bank ∧ t.table.transfers = s.table.transfers ∧ t.table.imagePending = s.table.imagePending ∧
      t.timer.presence = s.timer.presence ∧ t.timer.silence = s.timer.silence ∧ t.timer.joinWait =
      s.timer.joinWait ∧ t.timer.foundWait = s.timer.foundWait ∧ t.timer.foundRank = s.timer.foundRank ∧
      t.timer.imageWait = s.timer.imageWait ∧ t.sendq = s.sendq ∧ (∀ i : Nat, ∀ hi : i < 8, t.gate[i].ginLow =
      s.gate[i].ginLow) ∧ t.line = s.line ∧ t.port.mask = s.port.mask ∧ t.port.response = s.port.response ∧
      t.port.resetArmed = s.port.resetArmed ∧ t.port.serial = s.port.serial ∧ t.pending = s.pending)
    (fun _ => by simp) (fun h1 h2 => by simp_all) (fun s a => by simp)
    (((s.entry r).promote).holders.drop (s.entry r).holders.length) (s.setEntry r (s.entry r).promote)
    (f := fun s h => s.holdGranted false r h)
  simpa using h

@[simp] theorem State.dropHold_frame (s : State) (r : Resource) (h : Station) (g : Grant) (b : Bool) :
    (s.dropHold r h g b).ctl = s.ctl ∧ (s.dropHold r h g b).table.members = s.table.members ∧
    (s.dropHold r h g b).table.bank = s.table.bank ∧ (s.dropHold r h g b).table.transfers = s.table.transfers ∧
    (s.dropHold r h g b).table.imagePending = s.table.imagePending ∧
    (s.dropHold r h g b).timer.presence = s.timer.presence ∧
    (s.dropHold r h g b).timer.silence = s.timer.silence ∧
    (s.dropHold r h g b).timer.joinWait = s.timer.joinWait ∧
    (s.dropHold r h g b).timer.foundWait = s.timer.foundWait ∧
    (s.dropHold r h g b).timer.foundRank = s.timer.foundRank ∧
    (s.dropHold r h g b).timer.imageWait = s.timer.imageWait ∧ (s.dropHold r h g b).sendq = s.sendq ∧
    (∀ i : Nat, ∀ hi : i < 8, (s.dropHold r h g b).gate[i].ginLow = s.gate[i].ginLow) ∧
    (s.dropHold r h g b).line = s.line ∧ (s.dropHold r h g b).port.mask = s.port.mask ∧
    (s.dropHold r h g b).port.response = s.port.response ∧
    (s.dropHold r h g b).port.resetArmed = s.port.resetArmed ∧ (s.dropHold r h g b).port.serial = s.port.serial ∧
    (s.dropHold r h g b).pending = s.pending := by
  unfold State.dropHold; (repeat' split) <;> simp

@[simp] theorem State.dropWaiter_frame (s : State) (r : Resource) (w : Station) :
    (s.dropWaiter r w).ctl = s.ctl ∧ (s.dropWaiter r w).table.members = s.table.members ∧
    (s.dropWaiter r w).table.bank = s.table.bank ∧ (s.dropWaiter r w).table.transfers = s.table.transfers ∧
    (s.dropWaiter r w).table.imagePending = s.table.imagePending ∧ (s.dropWaiter r w).timer = s.timer ∧
    (s.dropWaiter r w).sendq = s.sendq ∧ (s.dropWaiter r w).gate = s.gate ∧ (s.dropWaiter r w).line = s.line ∧
    (s.dropWaiter r w).port.mask = s.port.mask ∧ (s.dropWaiter r w).port.response = s.port.response ∧
    (s.dropWaiter r w).port.resetArmed = s.port.resetArmed ∧ (s.dropWaiter r w).port.serial = s.port.serial ∧
    (s.dropWaiter r w).pending = s.pending := by
  unfold State.dropWaiter; (repeat' split) <;> simp

@[simp] theorem State.purgeAt_frame (s : State) (t : Station) (r : Resource) :
    (s.purgeAt t r).ctl = s.ctl ∧ (s.purgeAt t r).table.members = s.table.members ∧
    (s.purgeAt t r).table.bank = s.table.bank ∧ (s.purgeAt t r).table.transfers = s.table.transfers ∧
    (s.purgeAt t r).table.imagePending = s.table.imagePending ∧
    (s.purgeAt t r).timer.presence = s.timer.presence ∧ (s.purgeAt t r).timer.silence = s.timer.silence ∧
    (s.purgeAt t r).timer.joinWait = s.timer.joinWait ∧ (s.purgeAt t r).timer.foundWait = s.timer.foundWait ∧
    (s.purgeAt t r).timer.foundRank = s.timer.foundRank ∧ (s.purgeAt t r).timer.imageWait = s.timer.imageWait ∧
    (s.purgeAt t r).sendq = s.sendq ∧
    (∀ i : Nat, ∀ hi : i < 8, (s.purgeAt t r).gate[i].ginLow = s.gate[i].ginLow) ∧
    (s.purgeAt t r).line = s.line ∧ (s.purgeAt t r).port.mask = s.port.mask ∧
    (s.purgeAt t r).port.response = s.port.response ∧ (s.purgeAt t r).port.resetArmed = s.port.resetArmed ∧
    (s.purgeAt t r).port.serial = s.port.serial ∧
    (s.purgeAt t r).pending = s.pending := by
  unfold State.purgeAt; (repeat' split) <;> simp

@[simp] theorem State.purge_frame (s : State) (t : Station) :
    (s.purge t).ctl = s.ctl ∧ (s.purge t).table.members = s.table.members ∧
    (s.purge t).table.bank = s.table.bank ∧ (s.purge t).table.transfers = s.table.transfers ∧
    (s.purge t).table.imagePending = s.table.imagePending ∧ (s.purge t).timer.presence = s.timer.presence ∧
    (s.purge t).timer.silence = s.timer.silence ∧ (s.purge t).timer.joinWait = s.timer.joinWait ∧
    (s.purge t).timer.foundWait = s.timer.foundWait ∧ (s.purge t).timer.foundRank = s.timer.foundRank ∧
    (s.purge t).timer.imageWait = s.timer.imageWait ∧ (s.purge t).sendq = s.sendq ∧
    (∀ i : Nat, ∀ hi : i < 8, (s.purge t).gate[i].ginLow = s.gate[i].ginLow) ∧ (s.purge t).line = s.line ∧
    (s.purge t).port.mask = s.port.mask ∧ (s.purge t).port.response = s.port.response ∧
    (s.purge t).port.resetArmed = s.port.resetArmed ∧ (s.purge t).port.serial = s.port.serial ∧
    (s.purge t).pending = s.pending := by
  unfold State.purge
  exact foldl_keeps (R := fun s t => t.ctl = s.ctl ∧ t.table.members = s.table.members ∧ t.table.bank =
      s.table.bank ∧ t.table.transfers = s.table.transfers ∧ t.table.imagePending = s.table.imagePending ∧
      t.timer.presence = s.timer.presence ∧ t.timer.silence = s.timer.silence ∧ t.timer.joinWait =
      s.timer.joinWait ∧ t.timer.foundWait = s.timer.foundWait ∧ t.timer.foundRank = s.timer.foundRank ∧
      t.timer.imageWait = s.timer.imageWait ∧ t.sendq = s.sendq ∧ (∀ i : Nat, ∀ hi : i < 8, t.gate[i].ginLow =
      s.gate[i].ginLow) ∧ t.line = s.line ∧ t.port.mask = s.port.mask ∧ t.port.response = s.port.response ∧
      t.port.resetArmed = s.port.resetArmed ∧ t.port.serial = s.port.serial ∧ t.pending = s.pending)
    (fun _ => by simp) (fun h1 h2 => by simp_all) (fun s a => by simp) _ s

@[simp] theorem State.claimStale_frame (s : State) (u : Station) (b : Byte) :
    (s.claimStale u b).ctl = s.ctl ∧ (s.claimStale u b).table = s.table ∧ (s.claimStale u b).timer = s.timer ∧
    (s.claimStale u b).sendq = s.sendq ∧ (s.claimStale u b).gate = s.gate ∧ (s.claimStale u b).line = s.line ∧
    (s.claimStale u b).port.mask = s.port.mask ∧ (s.claimStale u b).port.response = s.port.response ∧
    (s.claimStale u b).port.resetArmed = s.port.resetArmed ∧ (s.claimStale u b).port.serial = s.port.serial ∧
    (s.claimStale u b).pending = s.pending := by
  unfold State.claimStale; (repeat' split) <;> simp

@[simp] theorem State.claimDecided_frame (s : State) (u : Station) (r : Resource) (m : Mode) (p : Policy) :
    (s.claimDecided u r m p).ctl = s.ctl ∧ (s.claimDecided u r m p).table.members = s.table.members ∧
    (s.claimDecided u r m p).table.bank = s.table.bank ∧
    (s.claimDecided u r m p).table.transfers = s.table.transfers ∧
    (s.claimDecided u r m p).table.imagePending = s.table.imagePending ∧
    (s.claimDecided u r m p).timer.presence = s.timer.presence ∧
    (s.claimDecided u r m p).timer.silence = s.timer.silence ∧
    (s.claimDecided u r m p).timer.joinWait = s.timer.joinWait ∧
    (s.claimDecided u r m p).timer.foundWait = s.timer.foundWait ∧
    (s.claimDecided u r m p).timer.foundRank = s.timer.foundRank ∧
    (s.claimDecided u r m p).timer.imageWait = s.timer.imageWait ∧
    (∀ i : Nat, ∀ hi : i < 8, (s.claimDecided u r m p).gate[i].ginLow = s.gate[i].ginLow) ∧
    (s.claimDecided u r m p).line = s.line ∧ (s.claimDecided u r m p).port.mask = s.port.mask ∧
    (s.claimDecided u r m p).port.response = s.port.response ∧
    (s.claimDecided u r m p).port.resetArmed = s.port.resetArmed ∧
    (s.claimDecided u r m p).port.serial = s.port.serial ∧
    (s.claimDecided u r m p).pending = s.pending := by
  unfold State.claimDecided; (repeat' split) <;> simp

@[simp] theorem State.claimEffects_frame (s : State) (u : Station) (b : Byte) (m p : BitVec 4) :
    (s.claimEffects u b m p).ctl = s.ctl ∧ (s.claimEffects u b m p).table.members = s.table.members ∧
    (s.claimEffects u b m p).table.bank = s.table.bank ∧
    (s.claimEffects u b m p).table.transfers = s.table.transfers ∧
    (s.claimEffects u b m p).table.imagePending = s.table.imagePending ∧
    (s.claimEffects u b m p).timer.presence = s.timer.presence ∧
    (s.claimEffects u b m p).timer.silence = s.timer.silence ∧
    (s.claimEffects u b m p).timer.joinWait = s.timer.joinWait ∧
    (s.claimEffects u b m p).timer.foundWait = s.timer.foundWait ∧
    (s.claimEffects u b m p).timer.foundRank = s.timer.foundRank ∧
    (s.claimEffects u b m p).timer.imageWait = s.timer.imageWait ∧
    (∀ i : Nat, ∀ hi : i < 8, (s.claimEffects u b m p).gate[i].ginLow = s.gate[i].ginLow) ∧
    (s.claimEffects u b m p).line = s.line ∧ (s.claimEffects u b m p).port.mask = s.port.mask ∧
    (s.claimEffects u b m p).port.response = s.port.response ∧
    (s.claimEffects u b m p).port.resetArmed = s.port.resetArmed ∧
    (s.claimEffects u b m p).port.serial = s.port.serial ∧
    (s.claimEffects u b m p).pending = s.pending := by
  unfold State.claimEffects; (repeat' split) <;> simp

@[simp] theorem State.holdEffects_frame (s : State) (b : Byte) (h : Station) (g : Grant) (t : Bool) :
    (s.holdEffects b h g t).ctl = s.ctl ∧ (s.holdEffects b h g t).table.members = s.table.members ∧
    (s.holdEffects b h g t).table.bank = s.table.bank ∧
    (s.holdEffects b h g t).table.transfers = s.table.transfers ∧
    (s.holdEffects b h g t).table.imagePending = s.table.imagePending ∧
    (s.holdEffects b h g t).timer.presence = s.timer.presence ∧
    (s.holdEffects b h g t).timer.silence = s.timer.silence ∧
    (s.holdEffects b h g t).timer.joinWait = s.timer.joinWait ∧
    (s.holdEffects b h g t).timer.foundWait = s.timer.foundWait ∧
    (s.holdEffects b h g t).timer.foundRank = s.timer.foundRank ∧
    (s.holdEffects b h g t).timer.imageWait = s.timer.imageWait ∧ (s.holdEffects b h g t).sendq = s.sendq ∧
    (∀ i : Nat, ∀ hi : i < 8, (s.holdEffects b h g t).gate[i].ginLow = s.gate[i].ginLow) ∧
    (s.holdEffects b h g t).line = s.line ∧ (s.holdEffects b h g t).port.mask = s.port.mask ∧
    (s.holdEffects b h g t).port.response = s.port.response ∧
    (s.holdEffects b h g t).port.resetArmed = s.port.resetArmed ∧ (s.holdEffects b h g t).port.serial = s.port.serial ∧
    (s.holdEffects b h g t).pending = s.pending := by
  unfold State.holdEffects; (repeat' split) <;> simp

@[simp] theorem State.lapseEffects_frame (s : State) (u : Station) (b h : Byte) (g : Grant) :
    (s.lapseEffects u b h g).ctl = s.ctl ∧ (s.lapseEffects u b h g).table.members = s.table.members ∧
    (s.lapseEffects u b h g).table.bank = s.table.bank ∧
    (s.lapseEffects u b h g).table.transfers = s.table.transfers ∧
    (s.lapseEffects u b h g).table.imagePending = s.table.imagePending ∧
    (s.lapseEffects u b h g).timer.presence = s.timer.presence ∧
    (s.lapseEffects u b h g).timer.silence = s.timer.silence ∧
    (s.lapseEffects u b h g).timer.joinWait = s.timer.joinWait ∧
    (s.lapseEffects u b h g).timer.foundWait = s.timer.foundWait ∧
    (s.lapseEffects u b h g).timer.foundRank = s.timer.foundRank ∧
    (s.lapseEffects u b h g).timer.imageWait = s.timer.imageWait ∧ (s.lapseEffects u b h g).sendq = s.sendq ∧
    (∀ i : Nat, ∀ hi : i < 8, (s.lapseEffects u b h g).gate[i].ginLow = s.gate[i].ginLow) ∧
    (s.lapseEffects u b h g).line = s.line ∧ (s.lapseEffects u b h g).port.mask = s.port.mask ∧
    (s.lapseEffects u b h g).port.response = s.port.response ∧
    (s.lapseEffects u b h g).port.resetArmed = s.port.resetArmed ∧
    (s.lapseEffects u b h g).port.serial = s.port.serial ∧
    (s.lapseEffects u b h g).pending = s.pending := by
  unfold State.lapseEffects; (repeat' split) <;> simp

@[simp] theorem State.withdrawEffects_frame (s : State) (u : Station) (b : Byte) :
    (s.withdrawEffects u b).ctl = s.ctl ∧ (s.withdrawEffects u b).table.members = s.table.members ∧
    (s.withdrawEffects u b).table.bank = s.table.bank ∧
    (s.withdrawEffects u b).table.transfers = s.table.transfers ∧
    (s.withdrawEffects u b).table.imagePending = s.table.imagePending ∧
    (s.withdrawEffects u b).timer.presence = s.timer.presence ∧
    (s.withdrawEffects u b).timer.silence = s.timer.silence ∧
    (s.withdrawEffects u b).timer.joinWait = s.timer.joinWait ∧
    (s.withdrawEffects u b).timer.foundWait = s.timer.foundWait ∧
    (s.withdrawEffects u b).timer.foundRank = s.timer.foundRank ∧
    (s.withdrawEffects u b).timer.imageWait = s.timer.imageWait ∧ (s.withdrawEffects u b).sendq = s.sendq ∧
    (∀ i : Nat, ∀ hi : i < 8, (s.withdrawEffects u b).gate[i].ginLow = s.gate[i].ginLow) ∧
    (s.withdrawEffects u b).line = s.line ∧ (s.withdrawEffects u b).port.mask = s.port.mask ∧
    (s.withdrawEffects u b).port.response = s.port.response ∧
    (s.withdrawEffects u b).port.resetArmed = s.port.resetArmed ∧ (s.withdrawEffects u b).port.serial = s.port.serial ∧
    (s.withdrawEffects u b).pending = s.pending := by
  unfold State.withdrawEffects; (repeat' split) <;> simp

@[simp] theorem State.renewItem_frame (s : State) (u : Station) (x : Byte × Grant) :
    (s.renewItem u x).ctl = s.ctl ∧ (s.renewItem u x).table = s.table ∧
    (s.renewItem u x).timer.presence = s.timer.presence ∧ (s.renewItem u x).timer.silence = s.timer.silence ∧
    (s.renewItem u x).timer.joinWait = s.timer.joinWait ∧
    (s.renewItem u x).timer.foundWait = s.timer.foundWait ∧
    (s.renewItem u x).timer.foundRank = s.timer.foundRank ∧
    (s.renewItem u x).timer.imageWait = s.timer.imageWait ∧ (s.renewItem u x).sendq = s.sendq ∧
    (∀ i : Nat, ∀ hi : i < 8, (s.renewItem u x).gate[i].ginLow = s.gate[i].ginLow) ∧
    (s.renewItem u x).line = s.line ∧ (s.renewItem u x).port.mask = s.port.mask ∧
    (s.renewItem u x).port.response = s.port.response ∧ (s.renewItem u x).port.resetArmed = s.port.resetArmed ∧
    (s.renewItem u x).port.serial = s.port.serial ∧
    (s.renewItem u x).pending = s.pending := by
  unfold State.renewItem; (repeat' split) <;> simp

@[simp] theorem State.viewGained_frame (s : State) :
    (s.viewGained).ctl = s.ctl ∧ (s.viewGained).table.entries = s.table.entries ∧
    (s.viewGained).table.bank = s.table.bank ∧ (s.viewGained).table.transfers = s.table.transfers ∧
    (s.viewGained).table.imagePending = s.table.imagePending ∧
    (s.viewGained).timer.countdowns = s.timer.countdowns ∧ (s.viewGained).timer.presence = s.timer.presence ∧
    (s.viewGained).timer.silence = s.timer.silence ∧ (s.viewGained).timer.joinWait = s.timer.joinWait ∧
    (s.viewGained).timer.foundRank = s.timer.foundRank ∧ (s.viewGained).sendq = s.sendq ∧
    (s.viewGained).stack = s.stack ∧ (s.viewGained).gate = s.gate ∧ (s.viewGained).line = s.line ∧
    (s.viewGained).port = s.port ∧ (s.viewGained).pending = s.pending := by
  unfold State.viewGained; (repeat' split)
  all_goals (first | (simp; done) | (dsimp only; split <;> simp))

@[simp] theorem State.evidence_frame (s : State) (n : Notice) :
    (s.evidence n).ctl = s.ctl ∧ (s.evidence n).table.entries = s.table.entries ∧
    (s.evidence n).table.bank = s.table.bank ∧ (s.evidence n).table.transfers = s.table.transfers ∧
    (s.evidence n).table.imagePending = s.table.imagePending ∧
    (s.evidence n).timer.countdowns = s.timer.countdowns ∧ (s.evidence n).timer.presence = s.timer.presence ∧
    (s.evidence n).timer.silence = s.timer.silence ∧ (s.evidence n).timer.joinWait = s.timer.joinWait ∧
    (s.evidence n).timer.foundRank = s.timer.foundRank ∧ (s.evidence n).sendq = s.sendq ∧
    (s.evidence n).stack = s.stack ∧ (s.evidence n).gate = s.gate ∧ (s.evidence n).line = s.line ∧
    (s.evidence n).port = s.port ∧ (s.evidence n).pending = s.pending := by
  unfold State.evidence; (repeat' split) <;> simp

@[simp] theorem State.reportPeer_frame (s : State) (k : ReportKind) (p : Station) (d : BitVec 4) :
    (s.reportPeer k p d).ctl = s.ctl ∧ (s.reportPeer k p d).table = s.table ∧
    (s.reportPeer k p d).timer = s.timer ∧ (s.reportPeer k p d).sendq = s.sendq ∧
    (s.reportPeer k p d).stack = s.stack ∧ (s.reportPeer k p d).gate = s.gate ∧
    (s.reportPeer k p d).line = s.line ∧ (s.reportPeer k p d).port.mask = s.port.mask ∧
    (s.reportPeer k p d).port.response = s.port.response ∧
    (s.reportPeer k p d).port.resetArmed = s.port.resetArmed ∧ (s.reportPeer k p d).port.serial = s.port.serial ∧
    (s.reportPeer k p d).pending = s.pending := by
  unfold State.reportPeer; (repeat' split) <;> simp

@[simp] theorem State.takeTransfer_frame (s : State) (t : Station) (a : Fin 4) (u : Option Station) :
    (s.takeTransfer t a u).ctl = s.ctl ∧ (s.takeTransfer t a u).table.entries = s.table.entries ∧
    (s.takeTransfer t a u).table.members = s.table.members ∧ (s.takeTransfer t a u).table.bank = s.table.bank ∧
    (s.takeTransfer t a u).table.imagePending = s.table.imagePending ∧ (s.takeTransfer t a u).timer = s.timer ∧
    (s.takeTransfer t a u).stack = s.stack ∧ (s.takeTransfer t a u).gate = s.gate ∧
    (s.takeTransfer t a u).line = s.line ∧ (s.takeTransfer t a u).port = s.port ∧
    (s.takeTransfer t a u).pending = s.pending := by
  unfold State.takeTransfer; (repeat' split) <;> simp

@[simp] theorem State.testTransfers_frame (s : State) :
    (s.testTransfers).ctl = s.ctl ∧ (s.testTransfers).table.entries = s.table.entries ∧
    (s.testTransfers).table.members = s.table.members ∧ (s.testTransfers).table.bank = s.table.bank ∧
    (s.testTransfers).table.imagePending = s.table.imagePending ∧ (s.testTransfers).timer = s.timer ∧
    (s.testTransfers).sendq = s.sendq ∧ (s.testTransfers).stack = s.stack ∧ (s.testTransfers).gate = s.gate ∧
    (s.testTransfers).line = s.line ∧ (s.testTransfers).port = s.port ∧
    (s.testTransfers).pending = s.pending := by
  unfold State.testTransfers; simp

@[simp] theorem State.askLapse_frame (s : State) (c : Countdown) :
    (s.askLapse c).ctl = s.ctl ∧ (s.askLapse c).table = s.table ∧ (s.askLapse c).timer = s.timer ∧
    (s.askLapse c).stack = s.stack ∧ (s.askLapse c).gate = s.gate ∧ (s.askLapse c).line = s.line ∧
    (s.askLapse c).port = s.port ∧ (s.askLapse c).pending = s.pending := by
  unfold State.askLapse; (repeat' split) <;> simp

@[simp] theorem State.askEvict_frame (s : State) (t : Station) :
    (s.askEvict t).ctl = s.ctl ∧ (s.askEvict t).table = s.table ∧ (s.askEvict t).timer = s.timer ∧
    (s.askEvict t).stack = s.stack ∧ (s.askEvict t).gate = s.gate ∧ (s.askEvict t).line = s.line ∧
    (s.askEvict t).port = s.port ∧ (s.askEvict t).pending = s.pending := by
  unfold State.askEvict; (repeat' split) <;> simp

@[simp] theorem State.askExpired_frame (s : State) :
    (s.askExpired).ctl = s.ctl ∧ (s.askExpired).table = s.table ∧ (s.askExpired).timer = s.timer ∧
    (s.askExpired).stack = s.stack ∧ (s.askExpired).gate = s.gate ∧ (s.askExpired).line = s.line ∧
    (s.askExpired).port = s.port ∧ (s.askExpired).pending = s.pending := by
  unfold State.askExpired
  have h1 := foldl_keeps (R := fun s t => t.ctl = s.ctl ∧ t.table = s.table ∧ t.timer = s.timer ∧ t.stack =
      s.stack ∧ t.gate = s.gate ∧ t.line = s.line ∧ t.port = s.port ∧ t.pending = s.pending)
    (fun _ => by simp) (fun h1 h2 => by simp_all) (fun s a => by simp) (f := State.askEvict) all16 s
  have h2 := foldl_keeps (R := fun s t => t.ctl = s.ctl ∧ t.table = s.table ∧ t.timer = s.timer ∧ t.stack =
      s.stack ∧ t.gate = s.gate ∧ t.line = s.line ∧ t.port = s.port ∧ t.pending = s.pending)
    (fun _ => by simp) (fun h1 h2 => by simp_all) (fun s a => by simp) (f := State.askLapse)
    (all16.foldl State.askEvict s).expiredCountdowns (all16.foldl State.askEvict s)
  simp_all

@[simp] theorem State.askOwnExpired_frame (s : State) :
    (s.askOwnExpired).ctl = s.ctl ∧ (s.askOwnExpired).table = s.table ∧ (s.askOwnExpired).timer = s.timer ∧
    (s.askOwnExpired).stack = s.stack ∧ (s.askOwnExpired).gate = s.gate ∧ (s.askOwnExpired).line = s.line ∧
    (s.askOwnExpired).port = s.port ∧ (s.askOwnExpired).pending = s.pending := by
  unfold State.askOwnExpired
  exact foldl_keeps (R := fun s t => t.ctl = s.ctl ∧ t.table = s.table ∧ t.timer = s.timer ∧ t.stack =
      s.stack ∧ t.gate = s.gate ∧ t.line = s.line ∧ t.port = s.port ∧ t.pending = s.pending)
    (fun _ => by simp) (fun h1 h2 => by simp_all) (fun s a => by simp) (f := State.askLapse) _ s

@[simp] theorem State.askExpiredAfter_frame (s0 s : State) :
    (State.askExpiredAfter s0 s).ctl = s.ctl ∧ (State.askExpiredAfter s0 s).table = s.table ∧
    (State.askExpiredAfter s0 s).timer = s.timer ∧ (State.askExpiredAfter s0 s).stack = s.stack ∧
    (State.askExpiredAfter s0 s).gate = s.gate ∧ (State.askExpiredAfter s0 s).line = s.line ∧
    (State.askExpiredAfter s0 s).port = s.port ∧ (State.askExpiredAfter s0 s).pending = s.pending := by
  unfold State.askExpiredAfter; split <;> simp

@[simp] theorem State.startSending_frame (s : State) (f : QFrame) :
    (s.startSending f).ctl = s.ctl ∧ (s.startSending f).table = s.table ∧ (s.startSending f).timer = s.timer ∧
    (s.startSending f).stack = s.stack ∧ (s.startSending f).gate = s.gate ∧ (s.startSending f).port = s.port ∧
    (s.startSending f).pending = s.pending := by
  unfold State.startSending; simp

@[simp] theorem State.heard_frame (s : State) (u : Station) :
    (s.heard u).ctl = s.ctl ∧ (s.heard u).table = s.table ∧ (s.heard u).timer.countdowns = s.timer.countdowns ∧
    (s.heard u).timer.joinWait = s.timer.joinWait ∧ (s.heard u).timer.foundWait = s.timer.foundWait ∧
    (s.heard u).timer.foundRank = s.timer.foundRank ∧ (s.heard u).timer.imageWait = s.timer.imageWait ∧
    (s.heard u).sendq = s.sendq ∧ (s.heard u).stack = s.stack ∧ (s.heard u).gate = s.gate ∧
    (s.heard u).line = s.line ∧ (s.heard u).port = s.port ∧ (s.heard u).pending = s.pending := by
  unfold State.heard; (repeat' split) <;> simp

@[simp] theorem State.askPresence_frame (s : State) :
    (s.askPresence).ctl = s.ctl ∧ (s.askPresence).table = s.table ∧ (s.askPresence).timer = s.timer ∧
    (s.askPresence).stack = s.stack ∧ (s.askPresence).gate = s.gate ∧ (s.askPresence).line = s.line ∧
    (s.askPresence).port = s.port ∧ (s.askPresence).pending = s.pending := by
  unfold State.askPresence; (repeat' split) <;> simp

@[simp] theorem State.askFound_frame (s : State) :
    (s.askFound).ctl = s.ctl ∧ (s.askFound).table = s.table ∧ (s.askFound).timer = s.timer ∧
    (s.askFound).stack = s.stack ∧ (s.askFound).gate = s.gate ∧ (s.askFound).line = s.line ∧
    (s.askFound).port = s.port ∧ (s.askFound).pending = s.pending := by
  unfold State.askFound; (repeat' split) <;> simp

@[simp] theorem State.askJoin_frame (s : State) :
    (s.askJoin).ctl = s.ctl ∧ (s.askJoin).table = s.table ∧ (s.askJoin).timer = s.timer ∧
    (s.askJoin).stack = s.stack ∧ (s.askJoin).gate = s.gate ∧ (s.askJoin).line = s.line ∧
    (s.askJoin).port = s.port ∧ (s.askJoin).pending = s.pending := by
  unfold State.askJoin; (repeat' split) <;> simp

@[simp] theorem State.askSync_frame (s : State) :
    (s.askSync).ctl = s.ctl ∧ (s.askSync).table = s.table ∧ (s.askSync).timer = s.timer ∧
    (s.askSync).stack = s.stack ∧ (s.askSync).gate = s.gate ∧ (s.askSync).line = s.line ∧
    (s.askSync).port = s.port ∧ (s.askSync).pending = s.pending := by
  unfold State.askSync; (repeat' split) <;> simp

@[simp] theorem State.askLeave_frame (s : State) :
    (s.askLeave).ctl = s.ctl ∧ (s.askLeave).table = s.table ∧ (s.askLeave).timer = s.timer ∧
    (s.askLeave).stack = s.stack ∧ (s.askLeave).gate = s.gate ∧ (s.askLeave).line = s.line ∧
    (s.askLeave).port = s.port ∧ (s.askLeave).pending = s.pending := by
  unfold State.askLeave; (repeat' split) <;> simp

@[simp] theorem State.askRenew_frame (s : State) :
    (s.askRenew).ctl = s.ctl ∧ (s.askRenew).table = s.table ∧ (s.askRenew).timer = s.timer ∧
    (s.askRenew).stack = s.stack ∧ (s.askRenew).gate = s.gate ∧ (s.askRenew).line = s.line ∧
    (s.askRenew).port = s.port ∧ (s.askRenew).pending = s.pending := by
  unfold State.askRenew; (repeat' split) <;> simp

@[simp] theorem State.askOwedRelease_frame (s : State) (k : Record) :
    (s.askOwedRelease k).ctl = s.ctl ∧ (s.askOwedRelease k).table = s.table ∧
    (s.askOwedRelease k).timer = s.timer ∧ (s.askOwedRelease k).stack = s.stack ∧
    (s.askOwedRelease k).gate = s.gate ∧ (s.askOwedRelease k).line = s.line ∧
    (s.askOwedRelease k).port = s.port ∧ (s.askOwedRelease k).pending = s.pending := by
  unfold State.askOwedRelease; (repeat' split) <;> simp

@[simp] theorem State.placeOwedWithdraw_frame (s : State) (k : Record) :
    (s.placeOwedWithdraw k).ctl = s.ctl ∧ (s.placeOwedWithdraw k).table = s.table ∧
    (s.placeOwedWithdraw k).timer = s.timer ∧ (s.placeOwedWithdraw k).stack = s.stack ∧
    (s.placeOwedWithdraw k).gate = s.gate ∧ (s.placeOwedWithdraw k).line = s.line ∧
    (s.placeOwedWithdraw k).port = s.port ∧ (s.placeOwedWithdraw k).pending = s.pending := by
  unfold State.placeOwedWithdraw; (repeat' split) <;> simp

end Sys2Proof.Machine
end

