-- ==== Sys2Proof/Laws/Ops.lean ====
section
/-! SUPPORT. What each shared operation can do, said once: reports, send queue, countdowns, gates, records, and the
frame of an application. -/

namespace Sys2Proof.Machine

open Sys2Proof.Safety

theorem mem_all16 (n : Fin 16) : n ∈ all16 := (by decide : ∀ n : Fin 16, n ∈ all16) n

theorem all16_eq_finRange : all16 = List.finRange 16 := by decide

/-- Out of reset a meaning acts. -/
theorem State.awake_of {s : State} (h : s.ctl.inReset = false) (f : State → State) : s.awake f = f s := by
  simp [State.awake, h]

/-! ## Reports (R186, R188) -/

/-- A raise appends below sixteen reports, and else sets the lost flag. -/
theorem State.raise_port (s : State) (r : Report) :
    (s.raise r).port = if s.port.reports.length < 16 then { s.port with reports := s.port.reports ++ [r] }
      else { s.port with lost := true } := by
  unfold State.raise Config.reportCapacity; split <;> rfl

/-- What a raise adds stands after what was queued. -/
theorem State.reports_prefix_raise (s : State) (r : Report) : s.port.reports <+: (s.raise r).port.reports := by
  rw [State.raise_port]; split <;> simp

/-- A raise is a change of the port alone, read from the port alone. -/
theorem State.raise_eq (s : State) (r : Report) : s.raise r = s.withPort (s.raise r).port := by
  unfold State.raise; split <;> rfl

theorem State.raise_port_congr {s t : State} (h : s.port = t.port) (r : Report) : (s.raise r).port = (t.raise r).port := by
  simp only [State.raise_port, h]

/-! ## The send queue (R125, R134, R135) -/

@[simp] theorem SendQueue.queued_iff (q : SendQueue) (b : QBody) :
    q.queued b = true ↔ ∃ f ∈ q.frames, f.body.target = b.target := by
  simp [SendQueue.queued]

@[simp] theorem SendQueue.delivered_iff (q : SendQueue) (b : QBody) :
    q.delivered b = true ↔ ∃ f, q.awaiting = some f ∧ f.body.target = b.target := by
  unfold SendQueue.delivered; cases q.awaiting <;> simp

/-- A request that is wanted and finds room enters its place as the latest frame. -/
theorem SendQueue.request_enters (q : SendQueue) (b : QBody) (p : Place)
    (h1 : ∀ f ∈ q.frames, f.body.target ≠ b.target) (h2 : ∀ f, q.awaiting = some f → f.body.target ≠ b.target)
    (h3 : q.hasRoom p = true) : q.request b p = q.enter b p := by
  have hq : q.queued b = false := by
    rw [← Bool.not_eq_true, SendQueue.queued_iff]; simpa using h1
  have hd : q.delivered b = false := by
    rw [← Bool.not_eq_true, SendQueue.delivered_iff]; simpa using h2
  simp [SendQueue.request, hq, hd, h3]

/-- A request adds at most one frame, at the end, in the queued phase with retry count 0. -/
theorem SendQueue.request_adds (q : SendQueue) (b : QBody) (p : Place) :
    q.request b p = q ∨ q.request b p = q.enter b p := by
  unfold SendQueue.request; split
  · exact .inl rfl
  · split
    · exact .inr rfl
    · exact .inl rfl

/-- Where GeneralRoom holds, no frame of the kind and target is queued. -/
theorem generalRoom_queued {s : State} {b : QBody} (h : GeneralRoom s b) : s.sendq.queued b = false := by
  rw [← Bool.not_eq_true, SendQueue.queued_iff]; simpa using h.1

theorem generalRoom_congr {s t : State} {b : QBody} (h : GeneralRoom s b) (e : t.sendq = s.sendq) : GeneralRoom t b := by
  unfold GeneralRoom at *; rw [e]; exact h

/-- The free detail of a CUT at own LEAVE is one that R180 allows. -/
theorem leaveCutDetail_le : Config.leaveCutDetail.toNat ≤ 3 := by
  unfold Config.leaveCutDetail
  have := Config.leaveCutCode.isLt
  rw [BitVec.toNat_setWidth]; omega

/-- A frame that stands in the queue after a request stood there before, or is the one asked for. -/
theorem State.mem_request {s : State} {b : QBody} {p : Place} {f : QFrame} (h : f ∈ (s.request b p).sendq.frames) :
    f ∈ s.sendq.frames ∨ f.body = b := by
  unfold State.request at h
  rcases SendQueue.request_adds s.sendq b p with e | e <;> simp [e, SendQueue.enter] at h
  · exact .inl h
  · rcases h with h | rfl
    · exact .inl h
    · exact .inr rfl

/-- Asking for the LAPSEs of countdowns adds LAPSEs of these countdowns alone. -/
theorem State.mem_foldl_askLapse {f : QFrame} : ∀ {l : List Countdown} {s : State},
    f ∈ (l.foldl State.askLapse s).sendq.frames →
      f ∈ s.sendq.frames ∨ ∃ c ∈ l, f.body = .lapse c.resource c.holder c.grant
  | [], _, h => .inl h
  | c :: l, s, h => by
    rcases State.mem_foldl_askLapse (l := l) h with h | ⟨d, hd, e⟩
    · unfold State.askLapse at h
      split at h
      · exact (State.mem_request h).imp_right fun e => ⟨c, by simp, e⟩
      · exact .inl h
    · exact .inr ⟨d, by simp [hd], e⟩

/-- The application that ends RESYNC in MEMBER adds LAPSEs of this station's own holds alone (R87). -/
theorem State.mem_askExpiredAfter_reconciled {s0 s : State} {f : QFrame} (h0 : s0.ctl.station = .resync)
    (h1 : s.ctl.station = .member) (h : f ∈ (State.askExpiredAfter s0 s).sendq.frames) :
    f ∈ s.sendq.frames ∨ ∃ r g, f.body = .lapse r s.self g := by
  rw [State.askExpiredAfter, if_pos ⟨h0, h1⟩, State.askOwnExpired] at h
  refine (State.mem_foldl_askLapse h).imp_right ?_
  rintro ⟨c, hc, e⟩
  exact ⟨c.resource, c.grant, by simp at hc; rw [e, hc.2]⟩

/-- Every other application asks for all that is wanted (R55, R60). -/
theorem State.askExpiredAfter_other {s0 s : State} (h : s0.ctl.station ≠ .resync ∨ s.ctl.station ≠ .member) :
    State.askExpiredAfter s0 s = s.askExpired :=
  if_neg fun h' => h.elim (· h'.1) (· h'.2)

/-- The room for a general frame is what GeneralRoom says. -/
theorem State.request_general {s : State} {b : QBody} (h : GeneralRoom s b) :
    s.request b .general = queuedLast s (generalFrame b) := by
  unfold State.request
  have h3 : s.sendq.hasRoom .general = true := decide_eq_true h.2.2
  rw [SendQueue.request_enters _ _ _ h.1 h.2.1 h3]
  rfl

/-- The host slot is free as SlotFree says. -/
theorem SendQueue.hasRoom_hostSlot (s : State) : s.sendq.hasRoom .hostSlot = true ↔ SlotFree s := by
  unfold SlotFree SendQueue.hasRoom SendQueue.inPlace
  cases s.sendq.awaiting <;> simp

/-! ## Countdowns (R50, R51) -/

theorem State.countdown_congr {s t : State} (h : s.timer.countdowns = t.timer.countdowns) (r : Resource) (u : Station)
    (g : Grant) : s.countdown r u g = t.countdown r u g := by
  simp only [State.countdown, h]

theorem Countdown.isOf_iff (c : Countdown) (r : Resource) (h : Station) (g : Grant) :
    c.isOf r h g = true ↔ (c.resource, c.holder, c.grant) = (r, h, g) := by
  simp [Countdown.isOf, and_assoc]

theorem find_filter_other (l : List Countdown) (r r' : Resource) (h h' : Station) (g g' : Grant)
    (hne : (r', h', g') ≠ (r, h, g)) :
    (l.filter fun c => !c.isOf r h g).find? (fun c => c.isOf r' h' g') = l.find? fun c => c.isOf r' h' g' := by
  induction l with
  | nil => rfl
  | cons c l ih =>
    by_cases hc : c.isOf r h g = true
    · have hc' : c.isOf r' h' g' = false := by
        rw [← Bool.not_eq_true, Countdown.isOf_iff]; rw [Countdown.isOf_iff] at hc; rw [hc]; exact fun e => hne e.symm
      rw [List.filter_cons_of_neg (by simpa using hc), List.find?_cons_of_neg (by simpa using hc')]; exact ih
    · rw [List.filter_cons_of_pos (by simpa using hc)]
      simp only [List.find?_cons]; split
      · rfl
      · exact ih

/-- A countdown is read back where it was set, and every other countdown goes on. -/
theorem State.countdown_setCountdown (s : State) (r r' : Resource) (h h' : Station) (g g' : Grant) (t : Timer) :
    (s.setCountdown r h g t).countdown r' h' g' =
      if (r', h', g') = (r, h, g) then t else s.countdown r' h' g' := by
  unfold State.countdown State.setCountdown
  simp only [State.withTimer_timer, List.find?_append]
  by_cases e : (r', h', g') = (r, h, g)
  · obtain ⟨rfl, rfl, rfl⟩ := by simpa using e
    have : (s.timer.countdowns.filter fun c => !c.isOf r' h' g').find? (fun c => c.isOf r' h' g') = none := by
      simp [List.find?_eq_none]
    rw [this]; simp [Countdown.isOf]
  · rw [find_filter_other _ _ _ _ _ _ _ e, if_neg e]
    have : ({ resource := r, holder := h, grant := g, timer := t } : Countdown).isOf r' h' g' = false := by
      rw [← Bool.not_eq_true, Countdown.isOf_iff]; exact fun x => e x.symm
    rw [List.find?_cons, this]; simp

theorem State.countdown_loadCountdown (s : State) (r r' : Resource) (h h' : Station) (g g' : Grant) :
    (s.loadCountdown r h g).countdown r' h' g' =
      if (r', h', g') = (r, h, g) then .running (s.countdownMs h) else s.countdown r' h' g' :=
  s.countdown_setCountdown _ _ _ _ _ _ _

/-- A discarded countdown is stopped, and every other countdown goes on. -/
theorem State.countdown_discardCountdown (s : State) (r r' : Resource) (h h' : Station) (g g' : Grant) :
    (s.discardCountdown r h g).countdown r' h' g' =
      if (r', h', g') = (r, h, g) then .stopped else s.countdown r' h' g' := by
  unfold State.countdown State.discardCountdown
  simp only [State.withTimer_timer]
  by_cases e : (r', h', g') = (r, h, g)
  · obtain ⟨rfl, rfl, rfl⟩ := by simpa using e
    have : (s.timer.countdowns.filter fun c => !c.isOf r' h' g').find? (fun c => c.isOf r' h' g') = none := by
      simp [List.find?_eq_none]
    rw [this]; simp
  · rw [find_filter_other _ _ _ _ _ _ _ e, if_neg e]

/-! ## Gates (R112 to R116) -/

/-- The opening condition reads the station state, the number, the stack and the countdowns alone. -/
theorem State.gateCondition_congr {s t : State} (h1 : s.ctl.station = t.ctl.station) (h2 : s.ctl.number = t.ctl.number)
    (h3 : s.stack = t.stack) (h4 : s.timer.countdowns = t.timer.countdowns) (n : Fin 8) :
    s.gateCondition n = t.gateCondition n := by
  simp only [State.gateCondition, State.recordOf, State.countdown, State.self, h1, h2, h3, h4]

/-- Everything the evaluation of a channel can do to its own channel. -/
theorem State.evalChannel_gate_self (s : State) (n : Fin 8) (d : BitVec 4) (g : Grant) :
    (s.evalChannel n d g).gate[n] =
      { opened := s.gateCondition n, ginLow := s.gate[n].ginLow,
        armed := if s.gateCondition n = s.gate[n].opened then s.gate[n].armed else false } := by
  unfold State.evalChannel State.setChannel
  rcases hg : s.gate[n] with ⟨o, a, i⟩
  cases hc : s.gateCondition n <;> cases o <;> simp_all
  all_goals (split <;> simp)

/-- The evaluation of a channel touches no other channel. -/
theorem State.evalChannel_gate_other (s : State) (n m : Fin 8) (d : BitVec 4) (g : Grant) (h : m ≠ n) :
    (s.evalChannel n d g).gate[m] = s.gate[m] := by
  have hne : (n : Nat) ≠ m := fun e => h (Fin.ext e.symm)
  unfold State.evalChannel State.setChannel
  (repeat' split) <;> simp [hne]

/-- The evaluation of a channel raises a CUT exactly when it closes an output that was low. -/
theorem State.evalChannel_port (s : State) (n : Fin 8) (d : BitVec 4) (g : Grant) :
    (s.evalChannel n d g).port =
      if s.gateCondition n = false ∧ s.gate[n].goutLow = true then
        (s.raise { kind := .cut, subject := channelResource n, grant := g, detail := d }).port else s.port := by
  unfold State.evalChannel State.setChannel
  rcases hg : s.gate[n] with ⟨o, a, i⟩
  cases hc : s.gateCondition n <;> cases o <;> simp_all [Channel.goutLow]
  cases a <;> cases i <;> simp [State.raise_port]
  rfl

/-- A channel that stands as its condition says is left alone. -/
theorem State.evalChannel_of_lawful (s : State) (n : Fin 8) (d : BitVec 4) (g : Grant)
    (h : s.gate[n].opened = s.gateCondition n) : s.evalChannel n d g = s := by
  unfold State.evalChannel
  cases hc : s.gateCondition n <;> simp_all

theorem State.evalChannel_gateCondition (s : State) (n m : Fin 8) (d : BitVec 4) (g : Grant) :
    (s.evalChannel n d g).gateCondition m = s.gateCondition m :=
  State.gateCondition_congr (by simp) (by simp) (by simp) (by simp) m

/-- A fold over channels evaluates each of them, and no other. -/
theorem foldl_evalChannel_gate (d : BitVec 4) : ∀ (l : List (Fin 8)) (s : State), l.Nodup → ∀ n : Fin 8,
    (l.foldl (fun s n => s.evalChannel n d (s.channelGrant n)) s).gate[n] =
      if n ∈ l then { opened := s.gateCondition n, ginLow := s.gate[n].ginLow,
                      armed := if s.gateCondition n = s.gate[n].opened then s.gate[n].armed else false }
      else s.gate[n]
  | [], s, _, n => by simp
  | m :: l, s, hl, n => by
    rw [List.foldl_cons, foldl_evalChannel_gate d l _ (List.nodup_cons.1 hl).2 n]
    by_cases e : n = m
    · subst e
      have : n ∉ l := (List.nodup_cons.1 hl).1
      simp only [this, if_false, List.mem_cons_self, if_true]
      exact s.evalChannel_gate_self n d _
    · rw [State.evalChannel_gate_other _ _ _ _ _ e, State.evalChannel_gateCondition]
      simp [e]

/-- After every channel is evaluated each is open exactly while its condition holds. -/
theorem State.evalGates_gate (s : State) (d : BitVec 4) (n : Fin 8) :
    (s.evalGates d).gate[n] =
      { opened := s.gateCondition n, ginLow := s.gate[n].ginLow,
        armed := if s.gateCondition n = s.gate[n].opened then s.gate[n].armed else false } := by
  have h := foldl_evalChannel_gate d all8 s (by decide) n
  have hm : n ∈ all8 := (by decide : ∀ n : Fin 8, n ∈ all8) n
  simpa [State.evalGates, hm] using h

/-- Gates that stand as their conditions say are left alone, with no report. -/
theorem State.evalGates_of_lawful (s : State) (d : BitVec 4) (h : ∀ n : Fin 8, s.gate[n].opened = s.gateCondition n) :
    s.evalGates d = s := by
  unfold State.evalGates
  generalize all8 = l
  induction l with
  | nil => rfl
  | cons m l ih => rw [List.foldl_cons, State.evalChannel_of_lawful _ _ _ _ (h m)]; exact ih

/-- The evaluation of the gates adds to the reports at their end. -/
theorem State.reports_prefix_evalChannel (s : State) (n : Fin 8) (d : BitVec 4) (g : Grant) :
    s.port.reports <+: (s.evalChannel n d g).port.reports := by
  rw [State.evalChannel_port]; split
  · exact s.reports_prefix_raise _
  · exact List.prefix_rfl

theorem State.reports_prefix_evalGates (s : State) (d : BitVec 4) : s.port.reports <+: (s.evalGates d).port.reports := by
  unfold State.evalGates
  exact foldl_keeps (R := fun s t => s.port.reports <+: t.port.reports) (fun _ => List.prefix_rfl)
    (fun h1 h2 => h1.trans h2) (fun s n => s.reports_prefix_evalChannel n d _) _ s

/-! ## Records (R88, R89) -/

theorem find_append_only (below above : List Record) (k : Record) (h : ∀ x ∈ below, x.resource ≠ k.resource) :
    (below ++ k :: above).find? (fun x => decide (x.resource = k.resource)) = some k := by
  induction below with
  | nil => simp
  | cons b below ih =>
    have hb : b.resource ≠ k.resource := h b (by simp)
    simp only [List.cons_append, List.find?_cons, hb, decide_false]
    exact ih fun x hx => h x (by simp [hx])

/-- The only record of a resource is the one read. -/
theorem State.recordOf_only {s : State} {below above : List Record} {k : Record} (h : OnlyRecord s below k above) :
    s.recordOf k.resource = some k := by
  unfold State.recordOf; rw [h.1]
  exact find_append_only _ _ _ fun x hx => h.2 x (by simp [hx])

theorem map_other (l : List Record) (r : Resource) (st : RecordState) (h : ∀ x ∈ l, x.resource ≠ r) :
    l.map (fun k => if k.resource = r then { k with state := st } else k) = l := by
  conv_rhs => rw [← List.map_id l]
  exact List.map_congr_left fun x hx => by simp [h x hx]

/-- The only record of a resource is set where it stands. -/
theorem State.setRecord_only {s : State} {below above : List Record} {k : Record} (h : OnlyRecord s below k above)
    (st : RecordState) : s.setRecord k.resource st = s.withStack (below ++ { k with state := st } :: above) := by
  unfold State.setRecord
  rw [h.1, List.map_append, List.map_cons, map_other _ _ _ fun x hx => h.2 x (by simp [hx]),
    map_other _ _ _ fun x hx => h.2 x (by simp [hx])]
  simp

theorem filter_other (l : List Record) (r : Resource) (h : ∀ x ∈ l, x.resource ≠ r) :
    l.filter (fun k => decide (k.resource ≠ r)) = l :=
  List.filter_eq_self.2 fun x hx => by simpa using h x hx

/-- The only record of a resource is taken out, and the records above it move down. -/
theorem State.popRecord_only {s : State} {below above : List Record} {k : Record} (h : OnlyRecord s below k above) :
    s.popRecord k.resource = s.withStack (below ++ above) := by
  unfold State.popRecord
  rw [h.1, List.filter_append, List.filter_cons_of_neg (by simp), filter_other _ _ fun x hx => h.2 x (by simp [hx]),
    filter_other _ _ fun x hx => h.2 x (by simp [hx])]

/-! ## Applications (R6, R25, R27) -/

/-- In the bank no notice is evidence, and an application is its effects and what follows them. -/
theorem State.evidence_inBank {s : State} (n : Notice) (h : s.ctl.station ≠ .joining) : s.evidence n = s := by
  simp [State.evidence, State.provisional, h]

theorem StationState.listening_of_inBank {st : StationState} (h : st.inBank = true) : st.listening = true := by
  cases st <;> simp_all [StationState.inBank, StationState.listening]

@[simp] theorem State.takeNotice_frame (s : State) (n : Notice) (rest : List Notice) :
    (s.takeNotice n rest).ctl = s.ctl ∧ (s.takeNotice n rest).table = s.table ∧
    (s.takeNotice n rest).timer = s.timer ∧ (s.takeNotice n rest).stack = s.stack ∧
    (s.takeNotice n rest).gate = s.gate ∧ (s.takeNotice n rest).port = s.port ∧
    (s.takeNotice n rest).pending = s.pending ∧ (s.takeNotice n rest).sendq.frames = s.sendq.frames ∧
    (s.takeNotice n rest).line = { s.line with inbound := rest } := by
  unfold State.takeNotice; simp

/-- An application at a station of the bank. -/
theorem State.applyNotice_inBank {s : State} (n : Notice) (rest : List Notice) (effects : State → State)
    (h : s.ctl.station.inBank = true) :
    s.applyNotice n rest effects = State.finish (s.takeNotice n rest) (effects (s.takeNotice n rest)) := by
  unfold State.applyNotice
  have h1 : (s.takeNotice n rest).listening = true := by
    simp only [State.listening, State.takeNotice_frame]; exact StationState.listening_of_inBank h
  have h2 : (s.takeNotice n rest).ctl.station ≠ .joining := by
    simp only [State.takeNotice_frame]; rintro e; rw [e] at h; exact absurd h (by decide)
  simp only [h1, if_true, State.evidence_inBank n h2]

@[simp] theorem State.askNewRelease_frame (s0 s : State) (k : Record) :
    (State.askNewRelease s0 s k).ctl = s.ctl ∧ (State.askNewRelease s0 s k).table = s.table ∧
    (State.askNewRelease s0 s k).timer = s.timer ∧ (State.askNewRelease s0 s k).stack = s.stack ∧
    (State.askNewRelease s0 s k).gate = s.gate ∧ (State.askNewRelease s0 s k).line = s.line ∧
    (State.askNewRelease s0 s k).port = s.port ∧ (State.askNewRelease s0 s k).pending = s.pending := by
  unfold State.askNewRelease; (repeat' split) <;> simp

@[simp] theorem State.askNewSync_frame (s0 s : State) :
    (State.askNewSync s0 s).ctl = s.ctl ∧ (State.askNewSync s0 s).table = s.table ∧
    (State.askNewSync s0 s).timer = s.timer ∧ (State.askNewSync s0 s).stack = s.stack ∧
    (State.askNewSync s0 s).gate = s.gate ∧ (State.askNewSync s0 s).line = s.line ∧
    (State.askNewSync s0 s).port = s.port ∧ (State.askNewSync s0 s).pending = s.pending := by
  unfold State.askNewSync; (repeat' split) <;> simp

@[simp] theorem State.askNewRenew_frame (s0 s : State) :
    (State.askNewRenew s0 s).ctl = s.ctl ∧ (State.askNewRenew s0 s).table = s.table ∧
    (State.askNewRenew s0 s).timer = s.timer ∧ (State.askNewRenew s0 s).stack = s.stack ∧
    (State.askNewRenew s0 s).gate = s.gate ∧ (State.askNewRenew s0 s).line = s.line ∧
    (State.askNewRenew s0 s).port = s.port ∧ (State.askNewRenew s0 s).pending = s.pending := by
  unfold State.askNewRenew; (repeat' split) <;> simp

@[simp] theorem State.askNewLeave_frame (s0 s : State) :
    (State.askNewLeave s0 s).ctl = s.ctl ∧ (State.askNewLeave s0 s).table = s.table ∧
    (State.askNewLeave s0 s).timer = s.timer ∧ (State.askNewLeave s0 s).stack = s.stack ∧
    (State.askNewLeave s0 s).gate = s.gate ∧ (State.askNewLeave s0 s).line = s.line ∧
    (State.askNewLeave s0 s).port = s.port ∧ (State.askNewLeave s0 s).pending = s.pending := by
  unfold State.askNewLeave; (repeat' split) <;> simp

/-- The requests made together after an application change the send queue alone. -/
@[simp] theorem State.askAfter_frame (s0 s : State) :
    (State.askAfter s0 s).ctl = s.ctl ∧ (State.askAfter s0 s).table = s.table ∧
    (State.askAfter s0 s).timer = s.timer ∧ (State.askAfter s0 s).stack = s.stack ∧
    (State.askAfter s0 s).gate = s.gate ∧ (State.askAfter s0 s).line = s.line ∧
    (State.askAfter s0 s).port = s.port ∧ (State.askAfter s0 s).pending = s.pending := by
  have hfold : ∀ (l : List Record) (s : State), (fun s t : State => t.ctl = s.ctl ∧ t.table = s.table ∧
      t.timer = s.timer ∧ t.stack = s.stack ∧ t.gate = s.gate ∧ t.line = s.line ∧ t.port = s.port ∧
      t.pending = s.pending) s (l.foldl (fun s k => State.askNewRelease s0 s k) s) :=
    foldl_keeps (R := fun s t : State => t.ctl = s.ctl ∧ t.table = s.table ∧ t.timer = s.timer ∧ t.stack = s.stack ∧
      t.gate = s.gate ∧ t.line = s.line ∧ t.port = s.port ∧ t.pending = s.pending)
      (fun _ => by simp) (fun h1 h2 => by simp_all) (fun s k => by simp)
  have h := hfold (State.askExpiredAfter s0 s.placeImage).stack (State.askExpiredAfter s0 s.placeImage)
  simp only [State.askExpiredAfter_frame, State.placeImage_frame] at h
  unfold State.askAfter
  simp only [State.askNewSync_frame, State.askNewRenew_frame, State.askNewLeave_frame, State.askExpiredAfter_frame,
    State.placeImage_frame]
  exact h

@[simp] theorem State.updateSilence_frame (s0 s : State) :
    (State.updateSilence s0 s).ctl = s.ctl ∧ (State.updateSilence s0 s).table = s.table ∧
    (State.updateSilence s0 s).sendq = s.sendq ∧ (State.updateSilence s0 s).stack = s.stack ∧
    (State.updateSilence s0 s).gate = s.gate ∧ (State.updateSilence s0 s).line = s.line ∧
    (State.updateSilence s0 s).port = s.port ∧ (State.updateSilence s0 s).pending = s.pending ∧
    (State.updateSilence s0 s).timer.countdowns = s.timer.countdowns ∧
    (State.updateSilence s0 s).timer.presence = s.timer.presence ∧
    (State.updateSilence s0 s).timer.joinWait = s.timer.joinWait ∧
    (State.updateSilence s0 s).timer.foundWait = s.timer.foundWait ∧
    (State.updateSilence s0 s).timer.foundRank = s.timer.foundRank ∧
    (State.updateSilence s0 s).timer.imageWait = s.timer.imageWait := by
  unfold State.updateSilence; simp

/-- What follows the effects of a notice leaves the tables but for the transfer list, the countdowns, the waits and the
stack alone. -/
@[simp] theorem State.finish_frame (s0 s : State) :
    (State.finish s0 s).ctl = s.ctl ∧ (State.finish s0 s).table.entries = s.table.entries ∧
    (State.finish s0 s).table.members = s.table.members ∧ (State.finish s0 s).table.bank = s.table.bank ∧
    (State.finish s0 s).table.imagePending = s.table.imagePending ∧ (State.finish s0 s).stack = s.stack ∧
    (State.finish s0 s).line = s.line ∧ (State.finish s0 s).timer.countdowns = s.timer.countdowns ∧
    (State.finish s0 s).timer.presence = s.timer.presence ∧ (State.finish s0 s).timer.joinWait = s.timer.joinWait ∧
    (State.finish s0 s).timer.foundWait = s.timer.foundWait ∧
    (State.finish s0 s).timer.foundRank = s.timer.foundRank ∧
    (State.finish s0 s).timer.imageWait = s.timer.imageWait ∧ (State.finish s0 s).port.mask = s.port.mask ∧
    (State.finish s0 s).port.response = s.port.response ∧
    (State.finish s0 s).port.resetArmed = s.port.resetArmed ∧ (State.finish s0 s).port.serial = s.port.serial ∧
    (∀ (i : Nat) (hi : i < 8), (State.finish s0 s).gate[i].ginLow = s.gate[i].ginLow) ∧
    (State.finish s0 s).pending = s.pending := by
  unfold State.finish; split <;> simp

/-- Where the gates stand as their conditions say, the end of an application leaves them and the reports alone. -/
theorem State.finish_of_lawful (s0 s : State) (h : ∀ n : Fin 8, s.gate[n].opened = s.gateCondition n) :
    (State.finish s0 s).gate = s.gate ∧ (State.finish s0 s).port = s.port := by
  unfold State.finish; split
  · rw [State.evalGates_of_lawful]
    · simp
    · intro n
      rw [State.gateCondition_congr (t := s) (by simp) (by simp) (by simp) (by simp)]
      simpa using h n
  · simp

/-- The end of an application adds to the reports at their end. -/
theorem State.reports_prefix_finish (s0 s : State) : s.port.reports <+: (State.finish s0 s).port.reports := by
  unfold State.finish; split
  · refine List.IsPrefix.trans ?_ (State.reports_prefix_evalGates _ _)
    simp
  · exact List.prefix_rfl

end Sys2Proof.Machine
end

