-- ==== Sys2Proof/Laws/Line.lean ====
section
/-! SUPPORT. What happens to this station's frame on the line: it is found, removed, returned, or dropped (R130, R131,
R135, R137). -/

namespace Sys2Proof.Machine

open Sys2Proof.Safety

theorem find_of_filter {l : List QFrame} {f : QFrame} (h : l.filter (fun f => !f.isQueued) = [f]) :
    l.find? (fun f => !f.isQueued) = some f := by
  have e : (l.filter fun f => !f.isQueued).head? = l.find? fun f => !f.isQueued := by simp
  rw [← e, h]; rfl

/-- The one frame on the line is found, removed, and returned to its place (R128, R130). -/
theorem onLine_spec {s : State} {before after : List QFrame} {f : QFrame} {c : Payload}
    (h : OnLine s before f c after) :
    s.onLineFrame = some f ∧ s.sendq.removeOnLine = { s.sendq with frames := before ++ after } ∧
      ∀ n, s.sendq.returnOnLine n =
        { s.sendq with frames := before ++ { f with phase := .queued, retries := n } :: after } := by
  obtain ⟨h1, h2, h3⟩ := h
  have hf : f.isQueued = false := by simp [QFrame.isQueued, h2]
  have hx : ∀ x ∈ before ++ after, x.isQueued = true := fun x hx => by simp [QFrame.isQueued, h3 x hx]
  have hb : ∀ x ∈ before, x.isQueued = true := fun x h => hx x (by simp [h])
  have ha : ∀ x ∈ after, x.isQueued = true := fun x h => hx x (by simp [h])
  refine ⟨?_, ?_, ?_⟩
  · unfold State.onLineFrame
    apply find_of_filter
    rw [h1, List.filter_append, List.filter_cons_of_pos (by simp [hf]),
      List.filter_eq_nil_iff.2 (fun x h => by simp [hb x h]), List.filter_eq_nil_iff.2 (fun x h => by simp [ha x h])]
    rfl
  · unfold SendQueue.removeOnLine
    rw [h1, List.filter_append, List.filter_cons_of_neg (by simp [hf]), List.filter_eq_self.2 hb,
      List.filter_eq_self.2 ha]
  · intro n
    unfold SendQueue.returnOnLine
    rw [h1, List.map_append, List.map_cons]
    have m : ∀ l : List QFrame, (∀ x ∈ l, x.isQueued = true) →
        l.map (fun f => if f.isQueued = true then f else { f with phase := .queued, retries := n }) = l := by
      intro l hl
      conv_rhs => rw [← List.map_id l]
      exact List.map_congr_left fun x hx => by simp [hl x hx]
    rw [m _ hb, m _ ha]; simp [hf]

theorem isWithdrawnClaim_iff (s : State) (b : QBody) : s.isWithdrawnClaim b = true ↔ WithdrawnClaim s b := by
  unfold State.isWithdrawnClaim WithdrawnClaim
  cases b <;> simp
  next r m p => cases s.recordOf r <;> simp

theorem isWithdrawnClaim_false {s : State} {b : QBody} (h : ¬WithdrawnClaim s b) : s.isWithdrawnClaim b = false := by
  rw [← Bool.not_eq_true, isWithdrawnClaim_iff]; exact h

theorem stale_iff (s : State) (b : QBody) : (s.tableStale b || s.stateStale b) = true ↔ Stale s b := by simp [Stale]

/-- A frame that comes back within the retry limit goes with its withdrawn claim, goes stale, or is queued again in its
place (R130, R131, R135, R137). -/
theorem comeBack_spec {s : State} {before after : List QFrame} {f : QFrame} {c : Payload}
    (h : OnLine s before f c after) (counts : Bool) (l : LineUnit)
    (hl : counts = true → f.retries + 1 ≤ s.ctl.retryLimit.toNat) :
    (WithdrawnClaim s f.body → (s.withLine l).comeBack counts = ({ s with
        line := l, sendq := { s.sendq with frames := before ++ after },
        stack := s.stack.filter fun k => decide (k.resource ≠ f.body.resource) }).raise
          { kind := .withdrawn, subject := f.body.resource, grant := 0, detail := 0 }) ∧
    (¬WithdrawnClaim s f.body → Stale s f.body → (s.withLine l).comeBack counts =
      { s with line := l, sendq := { s.sendq with frames := before ++ after } }) ∧
    (¬WithdrawnClaim s f.body → ¬Stale s f.body → (s.withLine l).comeBack counts = { s with
      line := l,
      sendq := { s.sendq with frames := before ++
        { f with phase := .queued, retries := if counts then f.retries + 1 else f.retries } :: after } }) := by
  obtain ⟨o1, o2, o3⟩ := onLine_spec h
  have o1' : (s.withLine l).onLineFrame = some f := o1
  have w : (s.withLine l).isWithdrawnClaim f.body = true ↔ WithdrawnClaim s f.body := isWithdrawnClaim_iff s f.body
  have w0 : ¬WithdrawnClaim s f.body → (s.withLine l).isWithdrawnClaim f.body = false := fun h => by
    rw [← Bool.not_eq_true, w]; exact h
  have st : ((s.withLine l).tableStale f.body || (s.withLine l).stateStale f.body) = true ↔ Stale s f.body :=
    stale_iff s f.body
  have hd : ¬(counts = true ∧ s.ctl.retryLimit.toNat < f.retries + 1) := fun ⟨x, y⟩ => by have := hl x; omega
  unfold State.comeBack
  rw [o1']
  refine ⟨fun hw => ?_, fun hw hs => ?_, fun hw hs => ?_⟩
  · simp only [w.2 hw, if_true]
    simp [State.report, o2, State.popRecord]
    rfl
  · simp only [w0 hw, State.withLine_ctl, if_neg hd, st.2 hs, if_true, State.withLine_sendq, o2]
    rfl
  · have st' : ((s.withLine l).tableStale f.body || (s.withLine l).stateStale f.body) = false := by
      rw [← Bool.not_eq_true, st]; exact hs
    simp only [w0 hw, State.withLine_ctl, if_neg hd, st', State.withLine_sendq, o3]
    rfl

/-- A frame whose retry count has reached the limit is dropped when it comes back once more (R131). -/
theorem comeBack_drops {s : State} {before after : List QFrame} {f : QFrame} {c : Payload}
    (h : OnLine s before f c after) (l : LineUnit) (hw : ¬WithdrawnClaim s f.body)
    (hl : s.ctl.retryLimit.toNat ≤ f.retries) :
    (s.withLine l).comeBack true =
      State.dropFrame { s with line := l, sendq := { s.sendq with frames := before ++ after } } f := by
  obtain ⟨o1, o2, -⟩ := onLine_spec h
  have o1' : (s.withLine l).onLineFrame = some f := o1
  have w : (s.withLine l).isWithdrawnClaim f.body = false := isWithdrawnClaim_false (s := s) hw
  unfold State.comeBack
  rw [o1']
  have : s.ctl.retryLimit.toNat < f.retries + 1 := by omega
  simp [w, this, o2]
  rfl

theorem listenedAtEdge_iff (s : State) (f : RxFrame) : s.listenedAtEdge f = true ↔ ListenedAtEdge s f := by
  unfold State.listenedAtEdge ListenedAtEdge; cases f.joinedSince <;> simp

/-- A frame that comes without a receive error, and with room at the veto cell's edge, is not vetoed here (R151, R155). -/
theorem drivesVeto_of_room {s : State} {f : RxFrame} (h : s.receiveError f = false) (hr : RoomAtEdge s f) :
    s.drivesVeto f = false := by
  unfold State.drivesVeto
  by_cases hl : ListenedAtEdge s f
  · have := hr hl
    have hf : (s.fullAtEdge f && decide (s.line.vetoStreak < Config.vetoStreakLimit)) = false := by
      rw [Bool.and_eq_false_iff]
      exact this.imp (fun h => decide_eq_false (Nat.not_le.2 h)) (fun h => decide_eq_false (Nat.not_lt.2 h))
    rw [h, hf]; simp
  · rw [← listenedAtEdge_iff, Bool.not_eq_true] at hl; simp [hl]

end Sys2Proof.Machine
end

