-- ==== Sys2Proof/Laws/Table.lean ====
section
/-! SUPPORT. What the table unit does with a claim: which entry a resource byte names, when a claim is decided, and what
granting and queueing write (R5, R7 to R9, R13 to R15). -/

namespace Sys2Proof.Machine

open Sys2Proof.Safety

theorem number16_of {b : Byte} {r : Fin 16} (h : b.toNat = r.val) : number16 b = some r := by
  unfold number16
  have : b.toNat < 16 := by omega
  simp [h]

/-- In the bank a resource byte below the count names its entry (R5). -/
theorem State.targetOf_inBank {s : State} {b : Byte} {r : Resource} (h : b.toNat = r.val)
    (hb : s.ctl.station.inBank = true) : s.targetOf b = if r.val < s.count then some r else none := by
  unfold State.targetOf; rw [number16_of h]
  have : s.current r = true := by
    unfold State.current; cases hs : s.ctl.station <;> simp_all [StationState.inBank]
  simp [State.takesEffects, this]

theorem Entry.grantable_iff (e : Entry) (m : Mode) :
    e.grantable m = true ↔ e.state = .free ∨ (e.state = .shared ∧ m = .shared ∧ e.waiters = []) := by
  unfold Entry.grantable; cases e.state <;> simp

theorem State.holdGranted_timer (s : State) (c : Bool) (r : Resource) (h : Hold) :
    (s.holdGranted c r h).timer = (s.loadCountdown r h.station h.grant).timer := by
  unfold State.holdGranted; split
  · simp
  · rfl

/-- Grantable, queued, refused: the entries and the timers after a claim that is not stale (R9, R14, R15). -/
theorem State.claimDecided_spec {s : State} (u : Station) (r : Resource) (m : Mode) (p : Policy) :
    ((s.entry r).grantable m = true →
      (s.claimDecided u r m p).table.entries = (s.setEntry r ((s.entry r).grant u m)).table.entries ∧
        (s.claimDecided u r m p).timer = (s.loadCountdown r u (s.entry r).nextGrant).timer) ∧
    ((s.entry r).grantable m = false → p = .wait →
      (s.claimDecided u r m p).table.entries = (s.setEntry r { s.entry r with
        waiters := (s.entry r).waiters ++ [{ station := u, mode := m }] }).table.entries ∧
        (s.claimDecided u r m p).timer = s.timer) ∧
    ((s.entry r).grantable m = false → p = .tryOnce →
      (s.claimDecided u r m p).table = s.table ∧ (s.claimDecided u r m p).timer = s.timer) := by
  unfold State.claimDecided
  refine ⟨fun h => ?_, fun h hp => ?_, fun h hp => ?_⟩
  · simp [h, State.holdGranted_timer]; rfl
  · subst hp; simp [h]; split <;> simp
  · subst hp; simp [h]; split <;> simp

/-- A claim of another station changes its entry and its countdown only. -/
theorem State.claimDecided_other {s : State} {u : Station} (r : Resource) (m : Mode) (p : Policy) (hu : u ≠ s.self) :
    s.claimDecided u r m p =
      if (s.entry r).grantable m then
        (s.setEntry r ((s.entry r).grant u m)).loadCountdown r u (s.entry r).nextGrant
      else match p with
        | .wait => s.setEntry r { s.entry r with waiters := (s.entry r).waiters ++ [{ station := u, mode := m }] }
        | .tryOnce => s := by
  unfold State.claimDecided State.holdGranted
  have : u ≠ (s.setEntry r ((s.entry r).grant u m)).self := hu
  simp [this, hu]
  try rfl

/-- When a claim is stale and when it is decided (R13). -/
theorem State.claimEffects_cases {s : State} (u : Station) (r : Resource) (rb : Byte) (mb pb : BitVec 4)
    (hb : s.ctl.station.inBank = true) (h : rb.toNat = r.val) :
    let e := s.entry r
    let m : Mode := if mb = 1 then .shared else .exclusive
    let p : Policy := if pb = 1 then .wait else .tryOnce
    let fits : Prop := r.val < s.count ∧ (mb = 1 ∨ mb = 2) ∧ (pb = 1 ∨ pb = 2) ∧ s.table.members[u].isMember = true ∧
      (∀ h ∈ e.holders, h.station ≠ u) ∧ ∀ r', ∀ w ∈ (s.entry r').waiters, w.station ≠ u
    (fits → s.claimEffects u rb mb pb = s.claimDecided u r m p) ∧
      (¬fits → s.claimEffects u rb mb pb = s.claimStale u rb) := by
  intro e m p fits
  have hm : Mode.ofNibble mb = if mb = 1 ∨ mb = 2 then some m else none := by
    unfold Mode.ofNibble; simp only [m]
    by_cases h1 : mb = 1
    · simp [h1]
    · by_cases h2 : mb = 2
      · simp [h2]
      · simp only [h1, h2, or_self, if_false]
  have hp : Policy.ofNibble pb = if pb = 1 ∨ pb = 2 then some p else none := by
    unfold Policy.ofNibble; simp only [p]
    by_cases h1 : pb = 1
    · simp [h1]
    · by_cases h2 : pb = 2
      · simp [h2]
      · simp only [h1, h2, or_self, if_false]
  have h1 : (s.entry r).hasHolder u = false ↔ ∀ h ∈ e.holders, h.station ≠ u := by simp [Entry.hasHolder, e]
  have h2 : s.waitsAnywhere u = false ↔ ∀ r', ∀ w ∈ (s.entry r').waiters, w.station ≠ u := by
    simp [State.waitsAnywhere, Entry.hasWaiter]
    exact ⟨fun h r' => h r' (mem_all16 r'), fun h r' _ => h r'⟩
  have h3 : (∀ r', ∀ w ∈ (s.entry r').waiters, w.station ≠ u) → (s.entry r).hasWaiter u = false := by
    intro h; simp [Entry.hasWaiter]; exact h r
  constructor
  · rintro ⟨f1, f2, f3, f4, f5, f6⟩
    unfold State.claimEffects
    rw [State.targetOf_inBank h hb, if_pos f1, hm, if_pos f2, hp, if_pos f3]
    have f4' : (s.recordOfStation u).isMember = true := f4
    simp [f4', h1.2 f5, h2.2 f6, h3 f6]
  · intro hf
    unfold State.claimEffects
    rw [State.targetOf_inBank h hb, hm, hp]
    by_cases f1 : r.val < s.count
    · by_cases f2 : mb = 1 ∨ mb = 2
      · by_cases f3 : pb = 1 ∨ pb = 2
        · rw [if_pos f1, if_pos f2, if_pos f3]
          have f : ¬((((s.recordOfStation u).isMember = true ∧ (s.entry r).hasHolder u = false) ∧
              (s.entry r).hasWaiter u = false) ∧ s.waitsAnywhere u = false) := fun ⟨⟨⟨f4, f5⟩, _⟩, f7⟩ =>
            hf ⟨f1, f2, f3, f4, h1.1 f5, h2.1 f7⟩
          simp [f]
        · rw [if_pos f1, if_pos f2, if_neg f3]
      · rw [if_pos f1, if_neg f2]
    · rw [if_neg f1]

end Sys2Proof.Machine
end

