-- ==== Sys2Proof/Tests/Slice0.lean ====
section
/-! SUPPORT. Tests of single commands on small states: the well-formedness smoke tests, the spec's worked examples, and
at most two tests for each command. Expected values are taken from the rules each test names. -/

namespace Sys2Proof.Tests

open Sys2Proof Sys2Proof.Machine Sys2Proof.Safety

-- One theorem after the other: each kernel evaluation in a thread of its own takes much address space.
set_option Elab.async false

/-! ## Small states -/

/-- Station 6 (the station of the wire examples of spec 09, section 9.10) in this station state, all else as at reset.
-/
def station (st : StationState) : State :=
  { State.reset with ctl := { State.reset.ctl with station := st, number := 6 } }

/-- Stations 2 and 9 are MEMBER, 11 is JOINING at attempt 0 without a source, station 6 has this record. -/
def peers (own : MemberRecord) : Vector MemberRecord 16 :=
  (((TableUnit.clear.members.set 2 (.member none)).set 6 own).set 9 (.member none)).set 11
    (.joining (some { attempt := 0, source := none }))

/-- Station 6 in a bank of the default parameters, in this station state, with the line IDLE. -/
def inBank (st : StationState) : State :=
  { station st with
    table := { TableUnit.clear with members := peers (.member none), bank := some Params.defaults },
    line := { LineUnit.afterReset with state := some .idle } }

/-- Station 6 JOINING, its own record at this attempt with this source, in an image-pending state. -/
def joining (a : Fin 4) (source : Option Station) (installed : Bool) : State :=
  { station .joining with
    table := { TableUnit.clear with
      members := peers (.joining (some { attempt := a, source := source })),
      bank := if installed then some Params.defaults else none,
      imagePending := some { attempt := a, membershipInstalled := installed,
                             installed := Vector.replicate 16 false, spoiled := false } },
    line := { LineUnit.afterReset with state := some .idle } }

/-- The record of a lease on resource 2 with grant number 14 (spec 09, section 9.10). -/
def record2 : Record := { resource := 2, mode := .exclusive, policy := .wait, state := .held 14 false }

/-- The countdown of that lease at station 6. -/
def countdown2 (t : Timer) : Countdown := { resource := 2, holder := 6, grant := 14, timer := t }

/-- The entry of that lease. -/
def entry2 : Entry :=
  { state := .exclusive, counter := 14, holders := [{ station := 6, mode := .exclusive, grant := 14 }], waiters := [] }

/-- Station 6 holds resource 2, EXCLUSIVE with grant number 14, in this station state; GIN2 is high. -/
def holding (st : StationState) : State :=
  { inBank st with
    table := { (inBank st).table with entries := TableUnit.clear.entries.set 2 entry2 },
    timer := { TimerUnit.clear with countdowns := [countdown2 (.running 500)] },
    stack := [record2],
    gate := State.reset.gate.set 2 { opened := decide (st = .member), armed := false, ginLow := false } }

/-- The same with GIN2 low and GOUT2 low. -/
def gated : State :=
  { holding .member with gate := State.reset.gate.set 2 { opened := true, armed := true, ginLow := true } }

/-- The state with these frames in the send queue. -/
def sends (s : State) (frames : List QFrame) : State := { s with sendq := { frames := frames, awaiting := none } }

/-- The state with this stack. -/
def stacked (s : State) (stack : List Record) : State := { s with stack := stack }

/-- The state with this entry for a resource. -/
def entryAt (s : State) (r : Resource) (e : Entry) : State := s.setEntry r e

/-- The state with this notice alone in the inbound queue. -/
def heard (s : State) (u : Station) (b : Payload) : State :=
  { s with line := { s.line with inbound := [{ sender := u, body := b }] } }

/-- The state with this line state. -/
def lineAt (s : State) (l : LineState) : State := { s with line := { s.line with state := some l } }

/-- The state with this frame in reception. -/
def receiving (s : State) : State := { s with line := { s.line with state := some .receiving, frameInHand := true } }

/-- The state while this frame of the station is on the line. -/
def sending (s : State) (f : QFrame) (content : Payload) : State :=
  { s with sendq := { frames := [{ f with phase := .onLine content }], awaiting := none },
           line := { s.line with state := some .sending, frameInHand := true } }

/-- The state with this timer unit. -/
def timed (s : State) (t : TimerUnit) : State := { s with timer := t }

/-- A frame as a receiver samples it, each cell's edge one cell after the last (R141, R142). -/
def sampled (n : Notice) : RxFrame :=
  { bits := encodeFrame n, edges := (encodeFrame n).map fun _ => 2000, stuckLow := false }

/-- What the next state holds, where there is one. -/
def after {α : Type} (c : Instr) (s : State) (f : State → α) : Option α :=
  match exec c s with
  | .next t => some (f t)
  | .fault _ => none
  | .refused _ => none

/-! ## Well-formedness -/

/-- 10h is CONFIGURE's code, so no unknown one (R164). -/
theorem test_wf_unknownCode_assigned : (Instr.unknownCommandCode 0x10).wf = false := by decide
/-- 00h is assigned to no command (R164). -/
theorem test_wf_unknownCode : (Instr.unknownCommandCode 0x00).wf = true := by decide
/-- A sampled frame has one edge for each cell (R142). -/
theorem test_wf_frame_edges :
    (Instr.frameDelivered { bits := [true, false], edges := [2000], stuckLow := false }).wf = false := by decide
theorem test_wf_veto_edges :
    (Instr.frameVetoed { bits := [], edges := [2000], stuckLow := false }).wf = false := by decide

/-! ## The spec's worked examples -/

/-- Counter 65534 and holders with 65535 and 1: the grant has number 2 (R8, example). -/
theorem test_grant_example :
    (Entry.nextGrant
      { state := .shared, counter := 65534, waiters := [],
        holders := [{ station := 0, mode := .shared, grant := 65535 }, { station := 1, mode := .shared, grant := 1 }] })
      = 2 := by decide

/-- Members 1, 4 and 9. -/
def table149 : Vector MemberRecord 16 :=
  ((TableUnit.clear.members.set 1 (.member none)).set 4 (.member none)).set 9 (.member none)

/-- The table of R34. -/
theorem test_source_table :
    [chooseSource table149 6 0, chooseSource table149 6 1, chooseSource table149 6 2,
     chooseSource table149 4 0, chooseSource table149 4 1, chooseSource table149 4 2]
      = [some 1, some 4, some 9, some 1, some 9, some 1] := by decide +kernel

/-- Arbitration fields 82h, 36h and 3Bh: CLAIM of station 2, LAPSE of stations 6 and 11 (spec 08, section 8.3). -/
theorem test_arbitration_fields :
    [(encodeFrame { sender := 2, body := .claim 9 2 1 }).take 8, (encodeFrame { sender := 6, body := .lapse 2 0 14 }).take 8,
     (encodeFrame { sender := 11, body := .lapse 2 0 14 }).take 8]
      = [fieldBits (0x82 : Byte), fieldBits (0x36 : Byte), fieldBits (0x3B : Byte)] := by decide +kernel

/-- The length of a LAPSE is 4 (spec 08, section 8.3), in the six cells after the arbitration field (R144). -/
theorem test_length_field :
    ((encodeFrame { sender := 6, body := .lapse 2 0 14 }).drop 8).take 6 = [false, false, false, true, false, false] := by
  decide +kernel

/-- 20h 09h 21h is the claim of resource 9, EXCLUSIVE, WAIT (spec 09, section 9.10), whatever follows. -/
theorem test_claim_bytes : commandTaken [0x20, 0x09, 0x21, 0xFF, 0x00] = some (.claim 0x09 0x21) := by decide

/-- The same bit by bit: after the 24th rising edge the record is SENDING, and SDO carries OK, 01h, from the 24th
falling edge on; with SEL high it is at high impedance (R163 to R165). -/
theorem test_claim_clocked :
    (let s := { holding .member with port := { (holding .member).port with serial :=
        { selLow := true, waitsForRise := false, sampled := (byteBits [0x20, 0x09, 0x21]).take 23, falls := 23 } } };
      match s.sckRises true with
      | .next t => (s.stack.length, t.stack.length, t.sdo, ([0, 7].map fun n : Nat => ({ t with port := { t.port with
          serial := { t.port.serial with falls := 24 + n } } } : State).sdo), (holding .member).sdo)
      | _ => (0, 0, none, [], none)) = (1, 2, some false, [some false, some true], none) := by decide +kernel

/-- A membership part whose JOINING station 11 has no item, and one whose item has attempt 3, are receive errors (R29,
R147): content 0000h 0800h, the five default parameters, then no item, or B0h with attempt 3. -/
theorem test_membership_part_unlawful :
    (readMembershipBytes [0, 0, 0x08, 0, 50, 10, 5, 4, 16, 0],
      readMembershipBytes [0, 0, 0x08, 0, 50, 10, 5, 4, 16, 1, 0xBC, 0],
      (readMembershipBytes [0, 0, 0x08, 0, 50, 10, 5, 4, 16, 1, 0xB8, 0]).isSome) = (none, none, true) := by
  decide +kernel

/-- A command whose last operand has not arrived is not taken (R164). -/
theorem test_partial_command : commandTaken [0x20, 0x09] = none := by decide

/-- That claim is answered OK, with a SENDING record and a CLAIM in the host slot. -/
theorem test_claim_example :
    after (.claim 0x09 0x21) (holding .member) (fun t => (t.port.response, t.stack.map (·.resource),
      t.sendq.frames.map (·.body))) = some ([0x01], [2, 9], [.claim 9 .exclusive .wait]) := by decide +kernel

/-- The state after that claim. -/
def claimed : State :=
  stacked (sends (holding .member) [hostFrame (.claim 9 .exclusive .wait)])
    [record2, { resource := 9, mode := .exclusive, policy := .wait, state := .sending }]

/-- READ STACK then returns depth 2, 28h 04h 00h 0Eh, 98h 01h 00h 00h and eight bytes of 00h. -/
theorem test_readStack_example :
    after .readStack claimed (fun t => t.port.response) = some [0x01, 0x02, 0x28, 0x04, 0x00, 0x0E, 0x98, 0x01, 0x00,
      0x00, 0x00, 0x00, 0x00, 0x00, 0x00, 0x00, 0x00, 0x00] := by decide +kernel

/-- A second CLAIM, of resource 12, is then answered PENDING, and a RENEW BUSY. -/
theorem test_claim_pending : after (.claim 12 0x21) claimed (fun t => t.port.response) = some [0x08] := by decide +kernel
theorem test_renew_busy : after .renew claimed (fun t => t.port.response) = some [0x02] := by decide +kernel

/-- TAKE REPORT of GRANTED for resource 9, EXCLUSIVE, grant number 51: 01h 01h 91h 00h 33h; the next is EMPTY. -/
theorem test_takeReport_example :
    after .takeReport ((holding .member).raise { kind := .granted, subject := 9, grant := 51, detail := 1 })
      (fun t => (t.port.response, t.port.reports)) = some ([0x01, 0x01, 0x91, 0x00, 0x33], []) := by decide +kernel
theorem test_takeReport_empty :
    after .takeReport (holding .member) (fun t => t.port.response) = some [0x07] := by decide +kernel

/-! ## Host port commands -/

/-- 00h takes the default; the highest values are in range (R168). -/
theorem test_configure : after (.configure 0 255 64 15 16 0) (station .offline)
    (fun t => (t.ctl.station, t.ctl.proposed.leaseTerm, t.ctl.proposed.silence, t.ctl.retryLimit, t.port.response))
      = some (.ready, 50, 15, 8, [0x01]) := by decide +kernel
/-- A silence multiple of 2 is out of range (R168). -/
theorem test_configure_range : after (.configure 0 0 0 2 0 0) (station .offline)
    (fun t => (t.ctl.station, t.port.response)) = some (.offline, [0x06]) := by decide +kernel

/-- JOIN: a JOIN at attempt 0 in the host slot (R199). -/
theorem test_join : after .join (station .ready) (fun t => (t.ctl.station, t.sendq.frames.map (·.body)))
    = some (.joining, [.join 0 Params.defaults]) := by decide +kernel

/-- LEAVE with GOUT2 low: a CUT with detail 3 (R114, R170). -/
theorem test_leave : after .leave gated (fun t => (t.ctl.station, t.port.reports, t.sendq.frames.map (·.body)))
    = some (.leaving, [{ kind := .cut, subject := 2, grant := 14, detail := 3 }], [.leave]) := by decide +kernel

/-- RELEASE of the HELD top: RELEASING, a CUT with detail 1, a RELEASE naming the number (R99). -/
theorem test_release : after .release gated
    (fun t => (t.stack.map (·.state), t.port.reports, t.sendq.frames.map (·.body)))
      = some ([.releasing 14 false], [{ kind := .cut, subject := 2, grant := 14, detail := 1 }], [.release 2 14]) := by
  decide +kernel

/-- RENEW with nothing HELD is NONE (R173). -/
theorem test_renew_none : after .renew (inBank .member) (fun t => t.port.response) = some [0x09] := by decide +kernel

/-- WITHDRAW of a queued CLAIM takes it back (R94). -/
theorem test_withdraw : after .withdraw claimed (fun t => (t.stack, t.sendq.frames, t.port.reports))
    = some ([record2], [], [{ kind := .withdrawn, subject := 9, grant := 0, detail := 0 }]) := by decide +kernel

/-- READ STATUS of station 6, MEMBER of a bank of three with one record (R175). -/
theorem test_readStatus : after .readStatus (holding .member) (fun t => t.port.response)
    = some [0x01, 0x03, 0x06, 0x01, 0x00, 0x00, 0x02, 0x03] := by decide +kernel

/-- READ ENTRY of resource 2 (R147, R177): state code 2 and one holder, counter, station 6 EXCLUSIVE with number 14. -/
theorem test_readEntry : after (.readEntry 2) (holding .member) (fun t => t.port.response)
    = some [0x01, 0x81, 0x00, 0x0E, 0x61, 0x00, 0x0E, 0x00] := by decide +kernel
theorem test_readEntry_range : after (.readEntry 16) (holding .member) (fun t => t.port.response) = some [0x06] := by
  decide +kernel

/-- READ MEMBERS (R178): members 9, 6 and 2, joining 11, both parameter sets, retry limit, one item for station 11 at
attempt 0 without a source. -/
theorem test_readMembers : after .readMembers (inBank .member) (fun t => t.port.response)
    = some [0x01, 0x02, 0x44, 0x08, 0x00, 0x01, 50, 10, 5, 4, 16, 50, 10, 5, 4, 16, 8, 0x01, 0xB0, 0x00] := by
  decide +kernel

/-- The highest mask is taken, the next value is out of range (R181). -/
theorem test_setMask : after (.setMask 0x07FFFF) (inBank .member) (fun t => (t.port.mask, t.port.response))
    = some (0x7FFFF, [0x01]) := by decide +kernel
theorem test_setMask_range : after (.setMask 0x080000) (inBank .member) (fun t => t.port.response) = some [0x06] := by
  decide +kernel

/-- RESET is answered OK and leaves the station as it was until SEL rises (R182). -/
theorem test_reset : after .reset (holding .member) (fun t => (t.ctl.station, t.port.response, t.port.resetArmed))
    = some (.member, [0x01], true) := by decide +kernel

/-- An unknown code is RANGE (R164). -/
theorem test_unknownCode : after (.unknownCommandCode 0x00) (inBank .member) (fun t => t.port.response) = some [0x06] := by
  decide +kernel

/-! ## Resets and gate pins -/

/-- The soft reset keeps the mask and the configuration (R193, R197). -/
theorem test_softReset :
    after .softReset { gated with port := { gated.port with resetArmed := true, mask := 1 } }
      (fun t => (t.ctl.station, t.stack, t.port.mask, t.gate[2])) =
        some (.ready, [], 1, { opened := false, armed := false, ginLow := true }) := by decide +kernel

/-- In reset ATTN is released and every GOUT high (R196). -/
theorem test_rstnAsserted :
    after .rstnAsserted gated (fun t => (t.ctl.inReset, t.attn, t.goutLow 2)) = some (true, false, false) := by
  decide +kernel

/-- The straps give the station number; no LAPSED record survives (R196). -/
theorem test_resetRelease : after (.resetRelease 0xB) gated (fun t => (t.ctl.station, t.ctl.number, t.stack))
    = some (.offline, 11, []) := by decide +kernel

/-- GIN2 falls on an open channel: GOUT2 follows (R115). -/
theorem test_ginAsserted : after (.ginAsserted 2) (holding .member) (fun t => (t.goutLow 2, t.port.reports))
    = some (true, []) := by decide +kernel
/-- GIN7 falls with no record for resource 7: DENIED with detail 1 (R117). -/
theorem test_ginAsserted_denied : after (.ginAsserted 7) (holding .member) (fun t => (t.goutLow 7, t.port.reports))
    = some (false, [{ kind := .denied, subject := 7, grant := 0, detail := 1 }]) := by decide +kernel
/-- GIN2 rises: GOUT2 is high and the channel stays open (R115). -/
theorem test_ginReleased : after (.ginReleased 2) gated (fun t => (t.goutLow 2, t.gate[2].opened))
    = some (false, true) := by decide +kernel

/-! ## The line -/

/-- A RELEASE (kind 4) goes before a CLAIM (kind 8) queued earlier (R127). -/
theorem test_offer : after .offer (sends (holding .member)
      [hostFrame (.claim 9 .exclusive .wait), generalFrame (.release 2 14)])
    (fun t => (t.line.state, t.sendq.frames.map (·.phase)))
      = some (some .sending, [.queued, .onLine (.release 2 14)]) := by decide +kernel

/-- A RENEW on the line, with a RENEW content for the lease on resource 2. -/
def sendingRenew (retries : Nat) : State :=
  sending (holding .member) { hostFrame .renew with retries := retries } (.renew [(2, 14)])

/-- Lost arbitration leaves the retry count (R130, R149). -/
theorem test_arbitrationLost : after .arbitrationLost (sendingRenew 3)
    (fun t => (t.line.state, t.sendq.frames.map (·.retries))) = some (some .receiving, [3]) := by decide +kernel

/-- A conflict is settled at the end of the frame (R158). -/
theorem test_conflict : after .conflict (sendingRenew 3)
    (fun t => (t.line.state, t.line.conflictCount, t.sendq.frames.map (·.isQueued)))
      = some (some .receiving, 0, [false]) := by decide +kernel

/-- A veto adds one to the retry count; at the limit of 8 the frame is dropped with SEND_FAILED, detail 7 (R131, R132).
-/
theorem test_frameVetoed : after (.frameVetoed (sampled { sender := 6, body := .renew [(2, 14)] })) (sendingRenew 7)
    (fun t => t.sendq.frames.map (·.retries)) = some [8] := by decide +kernel
theorem test_frameVetoed_drop : after (.frameVetoed (sampled { sender := 6, body := .renew [(2, 14)] })) (sendingRenew 8)
    (fun t => (t.sendq.frames, t.port.reports))
      = some ([], [{ kind := .sendFailed, subject := 0, grant := 0, detail := 7 }]) := by decide +kernel

/-- A delivered frame of this station leaves the queue and joins its inbound queue (R130, R153). -/
theorem test_frameDelivered_own :
    after (.frameDelivered (sampled { sender := 6, body := .renew [(2, 14)] })) (sendingRenew 3)
      (fun t => (t.sendq.frames, t.line.inbound)) = some ([], [{ sender := 6, body := .renew [(2, 14)] }]) := by
  decide +kernel
/-- A receiver reads the notice from its frame (R144 to R146, R153). -/
theorem test_frameDelivered :
    after (.frameDelivered (sampled { sender := 9, body := .claim 2 1 2 })) (receiving (holding .member))
      (fun t => t.line.inbound) = some [{ sender := 9, body := .claim 2 1 2 }] := by decide +kernel

/-- JOIN taken within the veto cell: the frame with this station's number met no veto, and is delivered (R151 to R153). -/
theorem test_frameDelivered_joined :
    after (.frameDelivered { sampled { sender := 6, body := .leave } with joinedSince := true })
      (receiving (station .joining)) (fun t => t.line.inbound) = some [{ sender := 6, body := .leave }] := by decide +kernel
/-- Full at the veto cell's edge, one notice applied since: this station has vetoed the frame (R155). -/
theorem test_frameVetoed_applied :
    after (.frameVetoed { sampled { sender := 9, body := .leave } with appliedSince := 1 })
      { receiving (inBank .member) with line := { (receiving (inBank .member)).line with
          inbound := List.replicate 3 { sender := 9, body := .leave } } }
      (fun t => (t.line.vetoStreak, t.line.inbound.length)) = some (1, 3) := by decide +kernel

/-- A frame that ends with an edge missing is lost, and clears the streak (R151, R155). -/
theorem test_frameTruncated :
    after .frameTruncated { receiving (inBank .member) with line := { (receiving (inBank .member)).line with vetoStreak := 5 } }
      (fun t => (t.line.frameInHand, t.line.vetoStreak)) = some (false, 0) := by decide +kernel

/-- Twelve idle cells (R143). -/
theorem test_lineIdle : after .lineIdle (lineAt (inBank .member) .receiving) (fun t => t.line.state)
    = some (some .idle) := by decide +kernel

/-- A start cell of another station (R143). -/
theorem test_startCellSeen : after .startCellSeen (inBank .member) (fun t => (t.line.state, t.line.frameInHand))
    = some (some .receiving, true) := by decide +kernel

/-- LINE_BLOCKED is reported by a listening station, and not in READY (R160). -/
theorem test_lineBlocked : after .lineBlocked (inBank .member) (fun t => (t.line.state, t.port.reports))
    = some (some .blocked, [{ kind := .lineBlocked, subject := 0, grant := 0, detail := 0 }]) := by decide +kernel
theorem test_lineBlocked_ready : after .lineBlocked (lineAt (station .ready) .idle) (fun t => t.port.reports)
    = some [] := by decide +kernel

/-- At the restoration the presence timer is loaded in full, 50 ms, and a hold countdown is left (R67). -/
theorem test_lineRestored :
    after .lineRestored (timed (lineAt (holding .member) .blocked)
      { TimerUnit.clear with countdowns := [countdown2 (.running 3)], presence := .running 3 })
      (fun t => (t.timer.presence, t.timer.countdowns.map (·.timer))) = some (.running 50, [.running 3]) := by
  decide +kernel

/-! ## Applications -/

/-- The host's claim of resource 9, in the inbound queue. -/
def claimHeard (policy : BitVec 4) : State :=
  heard (stacked (holding .member)
    [record2, { resource := 9, mode := .exclusive, policy := .wait, state := .sending }]) 6 (.claim 9 2 policy)

/-- Granted with number 1, the record HELD, GRANTED with detail 1 (R8, R14, R93). -/
theorem test_applyClaim : after .applyClaim (claimHeard 1) (fun t => (t.entry 9, t.stack.map (·.state), t.port.reports))
    = some ({ state := .exclusive, counter := 1, holders := [{ station := 6, mode := .exclusive, grant := 1 }],
              waiters := [] }, [.held 14 false, .held 1 false],
            [{ kind := .granted, subject := 9, grant := 1, detail := 1 }]) := by decide +kernel
/-- A TRY of a resource that station 9 holds is refused (R15, R93). -/
theorem test_applyClaim_try :
    after .applyClaim (entryAt (claimHeard 2) 9
      { state := .exclusive, counter := 3, holders := [{ station := 9, mode := .exclusive, grant := 3 }], waiters := [] })
      (fun t => (t.stack, t.port.reports))
      = some ([record2], [{ kind := .refused, subject := 9, grant := 0, detail := 0 }]) := by decide +kernel

/-- A RELEASE with another grant number removes nothing; with its own it frees the entry (R10, R17). -/
theorem test_applyRelease_other : after .applyRelease (heard (holding .member) 6 (.release 2 13))
    (fun t => t.entry 2) = some entry2 := by decide +kernel
theorem test_applyRelease : after .applyRelease (heard (holding .leaving) 6 (.release 2 14))
    (fun t => (t.entry 2, t.timer.countdowns)) = some ({ Entry.clear with counter := 14 }, []) := by decide +kernel

/-- A waiter goes (R11, R18). -/
theorem test_applyWithdraw :
    after .applyWithdraw (heard (entryAt (holding .member) 2 { (holding .member).entry 2 with
      waiters := [{ station := 9, mode := .shared }] }) 9 (.withdraw 2)) (fun t => (t.entry 2).waiters) = some [] := by
  decide +kernel

/-- Another station lapses this station's lease: LAPSED with detail 0, and the gate closes with a CUT (R19, R101, R114).
-/
theorem test_applyLapse : after .applyLapse (heard gated 9 (.lapse 2 6 14))
    (fun t => (t.stack.map (·.state), t.port.reports))
      = some ([.lapsed 14], [{ kind := .lapsed, subject := 2, grant := 14, detail := 0 },
                             { kind := .cut, subject := 2, grant := 14, detail := 2 }]) := by decide +kernel

/-- A RENEW loads the countdown with the lease term, 500 ms, at the holder (R20, R50, R51). -/
theorem test_applyRenew :
    after .applyRenew (timed (heard (holding .member) 6 (.renew [(2, 14)]))
      { TimerUnit.clear with countdowns := [countdown2 (.running 3)] })
      (fun t => t.timer.countdowns.map (·.timer)) = some [.running 500] := by decide +kernel

/-- The source of a joiner is the member at the index of the attempt, of 2, 6 and 9 (R34, R35). -/
theorem test_applyJoin : after .applyJoin (heard (inBank .member) 11 (.join 1 Params.defaults))
    (fun t => (t.table.members[11], t.table.transfers))
      = some (.joining (some { attempt := 1, source := some 6 }),
              [{ target := 11, attempt := 1, next := .membership }]) := by decide +kernel
/-- Attempt 3 is stale (R35). -/
theorem test_applyJoin_stale : after .applyJoin (heard (inBank .member) 11 (.join 3 Params.defaults))
    (fun t => t.table.members[11]) = some (.joining (some { attempt := 0, source := none })) := by decide +kernel

/-- A SYNC leaves its sender MEMBER with the transfer (R37). -/
theorem test_applySync : after .applySync (heard (inBank .member) 9 (.sync 2))
    (fun t => t.table.members[9]) = some (.member (some { attempt := 2, source := some 2 })) := by decide +kernel

/-- A FOUND in a bank with members is stale (R38). -/
theorem test_applyFound_stale : after .applyFound (heard (holding .member) 11 (.found Params.defaults))
    (fun t => (t.entry 2).counter) = some 14 := by decide +kernel

/-- A LEAVE of station 9 (R44, R47). -/
theorem test_applyLeave : after .applyLeave (heard (inBank .member) 9 .leave)
    (fun t => (t.table.members[9], t.port.reports))
      = some (.absent, [{ kind := .peerGone, subject := 9, grant := 0, detail := 0 }]) := by decide +kernel

/-- This station's own LEAVE, applied in MEMBER with GOUT low: the CUT follows RELEASED and precedes LEFT (R109, R114). -/
theorem test_applyLeave_cut : after .applyLeave (heard gated 6 .leave) (fun t => t.port.reports.map (·.kind))
    = some [.released, .cut, .left] := by decide +kernel

/-- The EVICT of this station: READY, the lease LAPSED with detail 3, then EVICTED (R109, R202). -/
theorem test_applyEvict : after .applyEvict (heard (holding .resync) 9 (.evict 6))
    (fun t => (t.ctl.station, t.stack.map (·.state), t.port.reports))
      = some (.ready, [.lapsed 14], [{ kind := .lapsed, subject := 2, grant := 14, detail := 3 },
                                     { kind := .evicted, subject := 0, grant := 0, detail := 0 }]) := by decide +kernel

/-- The last part makes the joiner MEMBER (R43, R74, R200). -/
theorem test_applyImage :
    after .applyImage (heard (joining 1 (some 2) true) 2 (.image 6 1 true (.resource 15 Entry.clear)))
      (fun t => (t.ctl.station, t.table.members[6])) = some (.member, .member none) := by decide +kernel

/-- Station 6 in RESYNC before its last part; the countdown of station 9's hold on resource 4 has expired. -/
def lapseWaits : State :=
  { inBank .resync with
    table := { (joining 1 (some 2) true).table with members := peers (.member (some { attempt := 1, source := some 2 })) },
    timer := { TimerUnit.clear with countdowns := [{ resource := 4, holder := 9, grant := 3, timer := .expired }] } }

/-- Reconciliation makes it MEMBER and leaves that LAPSE to the next tick (R87). -/
theorem test_reconcile_asks_no_lapse :
    after .applyImage (heard lapseWaits 2 (.image 6 1 true (.resource 15 Entry.clear)))
      (fun t => (t.ctl.station, t.sendq.frames)) = some (.member, []) := by decide +kernel
theorem test_tick_asks_the_lapse : (match step { lapseWaits with ctl := { lapseWaits.ctl with station := .member } } with
    | .next t => t.pending
    | .fault _ => []
    | .refused _ => []) = [.lapseAskedAgain 4 9] := by decide +kernel

/-- A PRESENCE whose digest is not valid is compared with nothing (R77). -/
theorem test_applyPresence :
    after .applyPresence (heard (inBank .member) 2 (.presence false 0)) (fun t => (t.ctl.station, t.line.inbound))
      = some (.member, []) := by decide +kernel

/-! ## Timers and requests -/

/-- The station's own countdown runs out: EXPIRED, a CUT with detail 0, a LAPSE (R53, R114). -/
theorem test_holdCountdownExpiry : after (.holdCountdownExpiry 2 6)
    (timed gated { TimerUnit.clear with countdowns := [countdown2 (.running 0)] })
    (fun t => (t.stack.map (·.state), t.port.reports, t.sendq.frames.map (·.body)))
      = some ([.expired 14], [{ kind := .cut, subject := 2, grant := 14, detail := 0 }], [.lapse 2 6 14]) := by
  decide +kernel
/-- With time left it does not expire (R48; log entry 6). -/
theorem test_holdCountdownExpiry_early : after (.holdCountdownExpiry 2 6) gated (fun t => decide (t = gated)) = some true := by
  decide +kernel

/-- The timers of the next tests. -/
def timersAt (t : Timer) : TimerUnit :=
  { TimerUnit.clear with presence := t, silence := TimerUnit.clear.silence.set 9 t, joinWait := t, foundWait := t,
                         imageWait := t }

/-- What these timers ask for: PRESENCE, EVICT, the image wait or FOUND, the next attempt (R57, R60, R62, R63, R65). -/
theorem test_presenceTimerExpiry : after .presenceTimerExpiry (timed (inBank .member) (timersAt (.running 0)))
    (fun t => t.sendq.frames.map (·.body)) = some [.presence] := by decide +kernel
theorem test_silenceTimerExpiry : after (.silenceTimerExpiry 9) (timed (inBank .member) (timersAt (.running 0)))
    (fun t => t.sendq.frames.map (·.body)) = some [.evict 9] := by decide +kernel
theorem test_joinWaitExpiry : after .joinWaitExpiry (timed (joining 0 (some 2) false) (timersAt (.running 0)))
    (fun t => t.timer.imageWait) = some (.running 200) := by decide +kernel
theorem test_foundWaitExpiry :
    after .foundWaitExpiry { station .joining with timer := timersAt (.running 0) }
      (fun t => t.sendq.frames.map (·.body)) = some [.found Params.defaults] := by decide +kernel
theorem test_imageWaitExpiry : after .imageWaitExpiry (timed (joining 1 (some 2) false) (timersAt (.running 0)))
    (fun t => t.sendq.frames.map (·.body)) = some [.join 2 Params.defaults] := by decide +kernel
theorem test_imageWaitExpiry_last : after .imageWaitExpiry (timed (joining 2 (some 2) false) (timersAt (.running 0)))
    (fun t => (t.ctl.station, t.port.reports))
      = some (.ready, [{ kind := .joinFailed, subject := 0, grant := 0, detail := 0 }]) := by decide +kernel

/-- The requests made again (R55, R57, R60, R63, R65, R66, R85, R96, R97, R204). -/
theorem test_lapseAskedAgain :
    after (.lapseAskedAgain 2 6) (timed (holding .member) { TimerUnit.clear with countdowns := [countdown2 .expired] })
      (fun t => t.sendq.frames.map (·.body)) = some [.lapse 2 6 14] := by decide +kernel
theorem test_evictAskedAgain : after (.evictAskedAgain 9) (timed (inBank .member) (timersAt .expired))
    (fun t => t.sendq.frames.map (·.body)) = some [.evict 9] := by decide +kernel
theorem test_presenceAskedAgain : after .presenceAskedAgain (timed (inBank .member) (timersAt .expired))
    (fun t => t.sendq.frames.map (·.place)) = some [.presence] := by decide +kernel
theorem test_foundAskedAgain : after .foundAskedAgain { station .joining with timer := timersAt .expired }
    (fun t => t.sendq.frames.map (·.body)) = some [.found Params.defaults] := by decide +kernel
theorem test_joinAskedAgain : after .joinAskedAgain (timed (joining 0 (some 2) false) (timersAt .expired))
    (fun t => t.sendq.frames.map (·.body)) = some [.join 1 Params.defaults] := by decide +kernel
theorem test_syncAskedAgain : after .syncAskedAgain (inBank .resync) (fun t => t.sendq.frames.map (·.body))
    = some [.sync 0] := by decide +kernel
theorem test_reconciliationRenewAsked :
    after .reconciliationRenewAsked (stacked (holding .resync) [{ record2 with state := .held 14 true }])
      (fun t => t.sendq.frames.map (·.body)) = some [.renew] := by decide +kernel
theorem test_owedReleaseAsked :
    after .owedReleaseAsked (stacked (holding .member) [{ record2 with state := .releasing 14 true }])
      (fun t => t.sendq.frames.map (·.body)) = some [.release 2 14] := by decide +kernel
theorem test_exhaustedLeaveAsked :
    after .exhaustedLeaveAsked
      { inBank .resync with ctl := { (inBank .resync).ctl with exhausted := true } }
      (fun t => t.sendq.frames.map (·.body)) = some [.leave] := by decide +kernel
theorem test_owedWithdrawPlaced :
    after .owedWithdrawPlaced (stacked (inBank .member)
      [{ resource := 9, mode := .shared, policy := .wait, state := .withdrawing .withdrawOwed }])
      (fun t => t.sendq.frames) = some [hostFrame (.withdraw 9)] := by decide +kernel

/-! ## The step -/

/-- The command at the front of the queue runs first; on an empty queue a millisecond passes (log entry 5). -/
theorem test_step_order : (match step { station .offline with pending := [.configure 0 0 0 0 0 0, .join] } with
    | .next t => (t.ctl.station, t.pending)
    | .fault _ => (.offline, [])
    | .refused _ => (.offline, [])) = (.ready, [.join]) := by decide +kernel
theorem test_step_tick : (match step (holding .member) with
    | .next t => t.timer.countdowns.map (·.timer)
    | .fault _ => []
    | .refused _ => []) = [.running 499] := by decide +kernel

/-- A found wait and a join wait that run out at one tick both expire: the join wait's row, which loads the found wait,
is taken last (R48, R62, R63; log entry 5). -/
theorem test_step_tick_order : (match step { station .joining with
      timer := { TimerUnit.clear with joinWait := .running 1, foundWait := .running 1 } } with
    | .next t => t.pending
    | .fault _ => []
    | .refused _ => []) = [.foundWaitExpiry, .joinWaitExpiry] := by decide +kernel

end Sys2Proof.Tests
end

