-- ==== Sys2Proof/Tests/Witnesses.lean ====
section
/-! SUPPORT. For each statement that has hypotheses, a state and operands that meet them together, for each of its
clauses. Operands stand at the ends of the ranges the clauses name. -/

namespace Sys2Proof.Tests

open Sys2Proof Sys2Proof.Machine Sys2Proof.Safety

set_option Elab.async false

/-! ## Small lemmas about the hypotheses -/

theorem slotFree_of (s : State) (h : ∀ f ∈ s.sendq.frames, f.place ≠ .hostSlot) (a : s.sendq.awaiting = none) :
    SlotFree s := ⟨h, by simp [a]⟩

theorem generalRoom_of (s : State) (b : QBody) (h : ∀ f ∈ s.sendq.frames, f.body.target ≠ b.target)
    (a : s.sendq.awaiting = none) (n : s.sendq.inPlace .general < 5) : GeneralRoom s b := ⟨h, by simp [a], n⟩

theorem notSlotFree_of (s : State) (f : QFrame) (h : f ∈ s.sendq.frames) (p : f.place = .hostSlot) : ¬SlotFree s :=
  fun h' => h'.1 f h p

theorem not_withdrawnClaim_of (s : State) (b : QBody) (h : b.kind ≠ 8) : ¬WithdrawnClaim s b := by
  rintro ⟨r, m, p, k, rfl, -, -⟩
  exact h rfl

theorem awaiting_none (s : State) (P : QFrame → Prop) (a : s.sendq.awaiting = none) :
    ∀ f, s.sendq.awaiting = some f → P f := by simp [a]

/-! ## The machine -/

/-- In reset, out of it with the line in the two cases, and with waits that run out. -/
theorem witness_IdleStepIsTheTick :
    (∃ s : State, s.pending = [] ∧ s.ctl.inReset = true) ∧
    (let s := holding .member; s.pending = [] ∧ s.ctl.inReset = false ∧ s.line.state ≠ some .blocked) ∧
    (let s := lineAt (holding .member) .blocked; s.pending = [] ∧ s.ctl.inReset = false ∧ s.line.state = some .blocked) ∧
    (let s := timed (station .joining) (timersAt (.running 1)); s.pending = [] ∧ s.ctl.inReset = false ∧
      s.line.state ≠ some .blocked ∧ s.timer.joinWait.tick = .running 0 ∧ s.timer.foundWait.tick = .running 0) :=
  ⟨⟨State.reset.pinReset true 0 LineUnit.off, rfl, rfl⟩, by decide, by decide, by decide +kernel⟩

theorem witness_CommandsKeepTheQueue : ∃ t, exec .release { holding .member with pending := [.join] } = .next t :=
  ⟨_, rfl⟩

theorem witness_HeldInResetNothingActs :
    (let s := { State.reset with ctl := { State.reset.ctl with inReset := true } };
      s.ctl.inReset = true ∧ Instr.join.wf = true ∧ actsInReset .join = false) := by decide

/-! ## Invariants -/

/-- A MEMBER with a gated lease, about to release it. -/
def releasing : State := { gated with pending := [.release] }

theorem tableLaw_releasing : TableLaw releasing := by unfold TableLaw; decide +kernel
theorem stackLaw_releasing : StackLaw releasing := by unfold StackLaw; decide +kernel
theorem gateLaw_releasing : GateLaw releasing := by unfold GateLaw; decide +kernel

theorem countdownLaw_releasing : CountdownLaw releasing := by
  refine ⟨fun r h g => ?_, by decide +kernel⟩
  have hs : ∀ r : Resource, releasing.entry r = if r = 2 then entry2 else Entry.clear := by decide +kernel
  have ht : releasing.timer.countdowns = [countdown2 (.running 500)] := rfl
  rw [ht, hs]
  by_cases hr : r = 2
  · subst hr; simp [countdown2, Countdown.isOf, Entry.holds, entry2]
  · simp [countdown2, Countdown.isOf, Entry.holds, Entry.clear, hr, Ne.symm hr]

/-- The laws of every StepKeeps statement hold together of a state that steps on, with a lease, a record and an open
gate in it. -/
theorem witness_StepKeepsTheLaws : TableLaw releasing ∧ UnusedLaw releasing ∧ CountdownLaw releasing ∧
    StackLaw releasing ∧ GateLaw releasing ∧ QueueLaw releasing ∧ LineLaw releasing ∧ ReportLaw releasing ∧
    ConfigLaw releasing ∧ TransferLaw releasing ∧ QuietLaw releasing ∧ ∃ t, step releasing = .next t := by
  refine ⟨tableLaw_releasing, ?_, countdownLaw_releasing, stackLaw_releasing, gateLaw_releasing, ?_, ?_, ?_, ?_, ?_, ?_,
    ⟨_, rfl⟩⟩
  · unfold UnusedLaw; decide +kernel
  · unfold QueueLaw; decide +kernel
  · unfold LineLaw; decide +kernel
  · unfold ReportLaw; decide +kernel
  · unfold ConfigLaw; decide +kernel
  · unfold TransferLaw; decide +kernel
  · unfold QuietLaw; decide +kernel

theorem witness_LowOutputNeedsALiveLease : GateLaw releasing ∧ releasing.goutLow 2 = true :=
  ⟨gateLaw_releasing, by decide +kernel⟩

/-! ## Frames, transactions and the table's rules -/

/-- A RENEW of four items, an image part of an entry with a holder and a waiter, and one of membership records. -/
theorem witness_FrameRoundTrip :
    (∃ items : List (Byte × Grant), (∀ i, Payload.renew items = .renew i → 1 ≤ i.length ∧ i.length ≤ 4) ∧
      payloadLawful (.renew items) = true ∧ items.length = 4) ∧
    payloadLawful (.image 3 2 true (.resource 15 { entry2 with waiters := [{ station := 9, mode := .shared }] })) = true ∧
    payloadLawful (.image 6 1 false (.membership (peers (.member (some { attempt := 2, source := some 2 })))
      Params.defaults)) = true :=
  ⟨⟨[(0, 1), (5, 7), (255, 0), (15, 65535)], by simp, rfl, rfl⟩, by decide, by decide +kernel⟩

theorem witness_TransactionRoundTrip :
    (Instr.setMask 0x07FFFF).wf = true ∧ transactionBytes (.setMask 0x07FFFF) = some [0x40, 0x07, 0xFF, 0xFF] ∧ 3 < 4 ∧
      (Instr.unknownCommandCode 0x00).wf = true ∧ transactionBytes (.unknownCommandCode 0x00) = some [0x00] := by decide

/-- The first bit and the last of four bytes; SEL high; SEL low, at the last bit of the code and at the first and the
last of the byte after its operands. -/
theorem witness_TransactionRoundTrip_pins :
    ((byteBits ([0x40, 0x07, 0xFF, 0xFF] ++ [0x00]))[0]? = some false ∧ 0 + 1 ≠ 8 * 4 ∧
      (byteBits ([0x40, 0x07, 0xFF, 0xFF] ++ [0x00]))[31]? = some true ∧ 31 + 1 = 8 * 4) ∧
    (let s := holding .member; s.ctl.inReset = false ∧ s.port.serial.selLow = false ∧ s.port.resetArmed = false) ∧
    (∀ kj ∈ [(0, 7), (2, 0), (2, 7)],
      let s := { holding .member with port := { (holding .member).port with serial :=
        { selLow := true, waitsForRise := false, sampled := byteBits [0x32, 0x02], falls := 8 * kj.1 + kj.2 } } };
      s.ctl.inReset = false ∧ s.port.serial.selLow = true ∧ s.port.resetArmed = false ∧
        s.port.serial.waitsForRise = false ∧ bytesOfBits s.port.serial.sampled = 0x32 :: [0x02] ∧
        s.port.serial.falls = 8 * kj.1 + kj.2 ∧ kj.2 < 8 ∧
        (kj.1 ≤ operandCount 0x32 ∨ kj.1 = operandCount 0x32 + 1 + 0)) := by decide +kernel

/-- Fifteen holders whose numbers follow the counter across 65535. -/
def crowded : Entry :=
  { state := .shared, counter := 65534, waiters := [], holders := (all16.take 15).map fun u =>
      { station := u, mode := .shared, grant := if u = 0 then 65535 else BitVec.ofNat 16 u.val } }

theorem witness_GrantNumberIsTheFirstFree : crowded.holders.length ≤ 15 ∧ (∀ h ∈ crowded.holders, h.grant ≠ 0) ∧
    (crowded.holders.map (·.grant)).Nodup ∧ crowded.nextGrant = 15 := by decide +kernel

/-- No waiter; a first waiter who is grantable; one who is not; one left waiting behind a promoted one. -/
theorem witness_PromotionGrantsTheFrontOfTheQueue :
    (∃ e : Entry, e.waiters = []) ∧
    (∃ (e : Entry) (w : Waiter) (ws : List Waiter), e.waiters = w :: ws ∧ e.state = .shared ∧ w.mode = .shared) ∧
    (∃ (e : Entry) (w : Waiter) (ws : List Waiter), e.waiters = w :: ws ∧
      ¬(e.state = .free ∨ (e.state = .shared ∧ w.mode = .shared))) ∧
    (∃ (e : Entry) (w : Waiter) (ws : List Waiter), e.waiters.length = 2 ∧ e.promote.waiters = w :: ws) :=
  ⟨⟨entry2, rfl⟩,
   ⟨{ crowded with waiters := [{ station := 15, mode := .shared }] }, _, _, rfl, rfl, rfl⟩,
   ⟨{ crowded with waiters := [{ station := 15, mode := .exclusive }] }, _, _, rfl, by decide⟩,
   ⟨{ Entry.clear with waiters := [{ station := 1, mode := .shared }, { station := 2, mode := .exclusive }] },
    { station := 2, mode := .exclusive }, [], rfl, by decide +kernel⟩⟩

theorem witness_ImageSourceByIndex : chooseSource table149 4 2 = some 1 ∧
    (∀ p : Station, p ≠ 6 → (TableUnit.clear.members.set 6 (.member none))[p].isMember = false) := by decide +kernel

/-! ## The send queue and the reports -/

theorem witness_HeadOfTheQueue :
    (∃ f, SendQueue.head { frames := [hostFrame .renew, generalFrame (.evict 9), generalFrame (.evict 2)],
                           awaiting := none } = some f) ∧
      ∀ f ∈ SendQueue.clear.frames, f.isQueued = false :=
  ⟨⟨generalFrame (.evict 9), by decide⟩, by decide⟩

/-- Queued; delivered and not applied; no room (five general frames); room (four). -/
def five : List QFrame :=
  [generalFrame (.evict 0), generalFrame (.evict 1), generalFrame (.evict 2), generalFrame (.evict 3),
   generalFrame (.evict 4)]

theorem witness_RequestsEnterLast :
    (∃ f ∈ (sends State.reset five).sendq.frames, f.body.target = (QBody.evict 4).target) ∧
    (let s := { State.reset with sendq := { frames := [], awaiting := some (generalFrame (.evict 4)) } };
      ∃ f, s.sendq.awaiting = some f ∧ f.body.target = (QBody.evict 4).target) ∧
    (let s := sends State.reset five;
      ¬((∃ f ∈ s.sendq.frames, f.body.target = (QBody.evict 5).target) ∨
        (∃ f, s.sendq.awaiting = some f ∧ f.body.target = (QBody.evict 5).target)) ∧ s.sendq.hasRoom .general = false) ∧
    (let s := sends State.reset (five.take 4);
      ¬((∃ f ∈ s.sendq.frames, f.body.target = (QBody.evict 5).target) ∨
        (∃ f, s.sendq.awaiting = some f ∧ f.body.target = (QBody.evict 5).target)) ∧ s.sendq.hasRoom .general = true) := by
  refine ⟨by decide, ⟨_, rfl, rfl⟩, ⟨?_, by decide⟩, ⟨?_, by decide⟩⟩
  all_goals
    rintro (h | ⟨f, h, -⟩)
    · revert h; decide
    · cases h

/-- A full queue. -/
def sixteen : List Report := List.replicate 16 { kind := .released, subject := 2, grant := 14, detail := 0 }

theorem witness_FullQueueDiscards :
    ({ State.reset with port := { State.reset.port with reports := sixteen } } : State).port.reports.length ≤ 16 := by
  decide

/-! ## Host port commands -/

theorem witness_RefusedCommandsChangeNothing : TakesCommands (station .ready) ∧ isHostCommand .join = true ∧
    Instr.join.wf = true ∧ takenIn .join StationState.ready = true ∧ takenIn .leave StationState.ready = false :=
  ⟨⟨rfl, rfl⟩, rfl, rfl, rfl, rfl⟩

/-- The highest values in range with silence multiple 3 and 15, the first values out of range, another state. -/
theorem witness_ConfigureSetsTheProposals :
    TakesCommands (station .offline) ∧ (station .offline).ctl.station = .offline ∧
    (let ok (c d e f : Byte) : Prop := c.toNat ≤ 64 ∧ (d = 0 ∨ (3 ≤ d.toNat ∧ d.toNat ≤ 15)) ∧ e.toNat ≤ 16 ∧ f.toNat ≤ 15;
      ok 64 3 16 15 ∧ ok 0 15 0 0 ∧ ok 1 0 1 1 ∧ ¬ok 65 3 16 15 ∧ ¬ok 64 2 16 15 ∧ ¬ok 64 16 16 15 ∧ ¬ok 64 3 17 15 ∧
        ¬ok 64 3 16 16) ∧
    TakesCommands (station .ready) ∧ (station .ready).ctl.station ≠ .offline :=
  ⟨⟨rfl, rfl⟩, rfl, by decide, ⟨rfl, rfl⟩, by decide⟩

theorem witness_JoinStartsJoining :
    (let s := stacked (station .ready) [{ record2 with state := .lapsed 14 }];
      TakesCommands s ∧ ¬(s.ctl.station = .ready ∧ s.stack = [])) ∧
    (let s := lineAt (station .ready) .blocked;
      TakesCommands s ∧ s.ctl.station = .ready ∧ s.stack = [] ∧ s.sendq = SendQueue.clear ∧ s.line.state = some .blocked) ∧
    (let s := station .ready;
      TakesCommands s ∧ s.ctl.station = .ready ∧ s.stack = [] ∧ s.sendq = SendQueue.clear ∧
        s.line.state ≠ some .blocked) :=
  ⟨⟨⟨rfl, rfl⟩, by decide⟩, ⟨⟨rfl, rfl⟩, rfl, rfl, rfl, rfl⟩, ⟨⟨rfl, rfl⟩, rfl, rfl, rfl, by decide⟩⟩

/-- GOUT2 low and eight reports queued, so that eight more would fit. -/
def leaves : State := { gated with port := { gated.port with reports := sixteen.take 8 } }

theorem witness_LeaveStartsLeaving :
    (TakesCommands (station .ready) ∧ (station .ready).ctl.station ≠ .member) ∧
    (TakesCommands claimed ∧ claimed.ctl.station = .member ∧ ¬SlotFree claimed) ∧
    (TakesCommands leaves ∧ leaves.ctl.station = .member ∧ SlotFree leaves ∧ NoneQueued leaves 6 ∧ GateLaw leaves ∧
      leaves.port.reports.length ≤ 8 ∧ leaves.gate[(2 : Fin 8)].goutLow = true) := by
  refine ⟨⟨⟨rfl, rfl⟩, by decide⟩, ⟨⟨rfl, rfl⟩, rfl, ?_⟩,
    ⟨⟨rfl, rfl⟩, rfl, slotFree_of _ (by decide) rfl, ?_, ?_, by decide +kernel, by decide +kernel⟩⟩
  · exact notSlotFree_of _ (hostFrame (.claim 9 .exclusive .wait)) (by decide) rfl
  · unfold NoneQueued; decide
  · unfold GateLaw; decide +kernel

/-- Four records. -/
def fullStack : List Record :=
  [record2, { record2 with resource := 3, state := .held 1 false }, { record2 with resource := 4, state := .expired 1 },
   { record2 with resource := 5, state := .lapsed 1 }]

/-- The operands are in range. -/
def claimFits (s : State) (rb mp : Byte) : Prop :=
  rb.toNat < s.count ∧ (mp.toNat / 16 = 1 ∨ mp.toNat / 16 = 2) ∧ (mp.toNat % 16 = 1 ∨ mp.toNat % 16 = 2)

/-- The resource count of 16 and resource 15; a stack of four; the top record's own resource and the one above it; a
pending top; an occupied slot; a free one. -/
theorem witness_ClaimChecksThenPushes :
    (let s := holding .member;
      TakesCommands s ∧ s.count ≤ 16 ∧ s.ctl.station = .member ∧ ¬claimFits s 16 0x11 ∧ ¬claimFits s 15 0x31 ∧
        ¬claimFits s 15 0x10 ∧ claimFits s 15 0x22) ∧
    (let s := stacked (holding .member) fullStack;
      TakesCommands s ∧ s.count ≤ 16 ∧ s.ctl.station = .member ∧ claimFits s 15 0x11 ∧ 4 ≤ s.stack.length) ∧
    (let s := holding .member;
      claimFits s 2 0x11 ∧ s.stack.length < 4 ∧ ∃ k, s.stack.getLast? = some k ∧ (2 : Byte).toNat ≤ k.resource.val) ∧
    (claimFits claimed 10 0x11 ∧ TakesCommands claimed ∧ claimed.stack.length < 4 ∧
      (∀ k, claimed.stack.getLast? = some k → k.resource.val < (10 : Byte).toNat) ∧
      ∃ k, claimed.stack.getLast? = some k ∧ k.state.isPending = true) ∧
    (let s := sends (holding .member) [hostFrame .renew];
      TakesCommands s ∧ claimFits s 3 0x21 ∧ s.stack.length < 4 ∧
        (∀ k, s.stack.getLast? = some k → k.resource.val < (3 : Byte).toNat ∧ k.state.isPending = false) ∧ ¬SlotFree s) ∧
    (let s := holding .member;
      claimFits s 3 0x21 ∧ s.stack.length < 4 ∧ SlotFree s ∧ NoneQueued s 8 ∧
        (∀ k, s.stack.getLast? = some k → k.resource.val < (3 : Byte).toNat ∧ k.state.isPending = false) ∧
        ∃ r : Resource, r.val = (3 : Byte).toNat) ∧
    (TakesCommands (holding .resync) ∧ (holding .resync).count ≤ 16 ∧ (holding .resync).ctl.station ≠ .member) := by
  refine ⟨⟨⟨rfl, rfl⟩, ?_⟩, ⟨⟨rfl, rfl⟩, ?_⟩, ⟨?_, by decide, record2, rfl, by decide⟩,
    ⟨?_, ⟨rfl, rfl⟩, by decide, ?_, _, rfl, rfl⟩, ⟨⟨rfl, rfl⟩, ?_, by decide, ?_, ?_⟩,
    ⟨?_, by decide, slotFree_of _ (by decide) rfl, ?_, ?_, 3, rfl⟩, ⟨⟨rfl, rfl⟩, by decide, by decide⟩⟩
  · unfold claimFits; decide
  · unfold claimFits; decide
  · unfold claimFits; decide
  · unfold claimFits; decide
  · rintro k h; cases h; decide
  · unfold claimFits; decide
  · rintro k h; cases h; decide
  · exact notSlotFree_of _ (hostFrame .renew) (by decide) rfl
  · unfold claimFits; decide
  · unfold NoneQueued; decide
  · rintro k h; cases h; decide

/-- The top record in each of the four answers, an empty stack, and a state that does not take the command. -/
theorem witness_ReleaseActsOnTheTop :
    (TakesCommands (station .offline) ∧ (station .offline).ctl.station = .offline) ∧
    (TakesCommands (station .ready) ∧ (station .ready).ctl.station = .ready ∧ (station .ready).stack = []) ∧
    (let s := inBank .resync;
      TakesCommands s ∧ s.ctl.station = .resync ∧
        (∃ (below : List Record) (k : Record), (stacked s [record2, { record2 with resource := 9, state := .waiting }]).stack
          = below ++ [k] ∧ (∀ x ∈ below, x.resource ≠ k.resource) ∧ k.state.isPending = true) ∧
        (∃ (below : List Record) (k : Record), (stacked s fullStack).stack = below ++ [k] ∧
          (∀ x ∈ below, x.resource ≠ k.resource) ∧ k.state = .lapsed 1) ∧
        (∃ (below : List Record) (k : Record), (stacked s (fullStack.take 3)).stack = below ++ [k] ∧
          (∀ x ∈ below, x.resource ≠ k.resource) ∧ k.state = .expired 1) ∧
        (∃ (below : List Record) (k : Record), (sends (stacked s (fullStack.take 2)) [hostFrame .renew]).stack
          = below ++ [k] ∧ (∀ x ∈ below, x.resource ≠ k.resource) ∧ k.state = .held 1 false ∧
            ¬SlotFree (sends (stacked s (fullStack.take 2)) [hostFrame .renew]))) := by
  refine ⟨⟨⟨rfl, rfl⟩, rfl⟩, ⟨⟨rfl, rfl⟩, rfl, rfl⟩, ⟨rfl, rfl⟩, rfl,
    ⟨[record2], { record2 with resource := 9, state := .waiting }, rfl, by decide, rfl⟩,
    ⟨fullStack.take 3, { record2 with resource := 5, state := .lapsed 1 }, rfl, by decide, rfl⟩,
    ⟨fullStack.take 2, { record2 with resource := 4, state := .expired 1 }, rfl, by decide, rfl⟩,
    ⟨fullStack.take 1, { record2 with resource := 3, state := .held 1 false }, rfl, by decide, rfl, ?_⟩⟩
  exact notSlotFree_of _ (hostFrame .renew) (by decide) rfl

/-- A lease on resource 7, the last gated one, and on resource 8, the first that is not. -/
theorem witness_ReleaseActsOnTheTop_held :
    (let s := gated;
      TakesCommands s ∧ s.ctl.station = .member ∧ s.stack = [] ++ [record2] ∧ record2.state = .held 14 false ∧
        SlotFree s ∧ (∀ f ∈ s.sendq.frames, ∀ g', f.body ≠ .release record2.resource g') ∧
        s.gate[(2 : Fin 8)].goutLow = true ∧ channelResource 2 = record2.resource) ∧
    (let k := { record2 with resource := 8 };
      let s := stacked (inBank .resync) [k];
      TakesCommands s ∧ s.ctl.station = .resync ∧ s.stack = [] ++ [k] ∧ SlotFree s ∧
        (∀ f ∈ s.sendq.frames, ∀ g', f.body ≠ .release k.resource g') ∧ 8 ≤ k.resource.val) ∧
    (let k := { record2 with resource := 7 };
      let s := stacked (inBank .resync) [k];
      SlotFree s ∧ channelResource 7 = k.resource ∧ s.gate[(7 : Fin 8)].goutLow = false) := by
  refine ⟨⟨⟨rfl, rfl⟩, rfl, rfl, rfl, slotFree_of _ (by decide) rfl, by simp [gated, holding, inBank, station,
      State.reset, SendQueue.clear], by decide +kernel, by decide⟩,
    ⟨⟨rfl, rfl⟩, rfl, rfl, slotFree_of _ (by decide) rfl, by simp [stacked, inBank, station, State.reset,
      SendQueue.clear], by decide⟩,
    ⟨slotFree_of _ (by decide) rfl, by decide, by decide +kernel⟩⟩

/-- No HELD record, a queued RENEW, a free slot, an occupied one, another state. -/
theorem witness_RenewPlacesOrMerges :
    (let s := stacked (inBank .member) (fullStack.drop 2);
      TakesCommands s ∧ s.ctl.station = .member ∧ ∀ k ∈ s.stack, ∀ g p, k.state ≠ .held g p) ∧
    (let s := sends (holding .resync) [generalFrame .renew];
      TakesCommands s ∧ s.ctl.station = .resync ∧ (∃ k ∈ s.stack, ∃ g p, k.state = .held g p) ∧
        s.sendq.frames = [] ++ generalFrame .renew :: [] ∧ (generalFrame .renew).body = .renew) ∧
    (let s := holding .member;
      (∃ k ∈ s.stack, ∃ g p, k.state = .held g p) ∧ (∀ f ∈ s.sendq.frames, f.body ≠ .renew) ∧ SlotFree s) ∧
    ((∃ k ∈ claimed.stack, ∃ g p, k.state = .held g p) ∧ (∀ f ∈ claimed.sendq.frames, f.body ≠ .renew) ∧
      ¬SlotFree claimed) ∧
    (TakesCommands (station .ready) ∧ (station .ready).ctl.station ≠ .member ∧ (station .ready).ctl.station ≠ .resync) := by
  refine ⟨⟨⟨rfl, rfl⟩, rfl, by simp [stacked, fullStack]⟩,
    ⟨⟨rfl, rfl⟩, rfl, ⟨record2, by decide, 14, false, rfl⟩, rfl, rfl⟩,
    ⟨⟨record2, by decide, 14, false, rfl⟩, by decide, slotFree_of _ (by decide) rfl⟩,
    ⟨⟨record2, by decide, 14, false, rfl⟩, by decide, ?_⟩, ⟨⟨rfl, rfl⟩, by decide, by decide⟩⟩
  exact notSlotFree_of _ (hostFrame (.claim 9 .exclusive .wait)) (by decide) rfl

/-- A record for resource 9 in this state. -/
def record9 (k : RecordState) : Record := { resource := 9, mode := .exclusive, policy := .wait, state := k }

/-- The WAITING record of resource 9 on top. -/
def waits9 : List Record := [record2, record9 .waiting]

/-- An empty stack; a HELD top; a CLAIM queued; a CLAIM on the line; a WAITING top with the slot free and occupied. -/
theorem witness_WithdrawActsOnTheTop :
    (TakesCommands (inBank .resync) ∧ (inBank .resync).ctl.station = .resync ∧ (inBank .resync).stack = []) ∧
    (let s := holding .member;
      TakesCommands s ∧ s.stack = [] ++ [record2] ∧ record2.state ≠ .sending ∧ record2.state ≠ .waiting) ∧
    (TakesCommands claimed ∧ claimed.ctl.station = .member ∧
      ∃ k : Record, claimed.stack = [record2] ++ [k] ∧ (∀ x ∈ [record2], x.resource ≠ k.resource) ∧ k.state = .sending ∧
        claimed.sendq.frames = [] ++ hostFrame (.claim k.resource .exclusive .wait) :: [] ∧
        (hostFrame (.claim k.resource .exclusive .wait)).phase = .queued) ∧
    (let s := sending claimed (hostFrame (.claim 9 .exclusive .wait)) (.claim 9 2 1);
      TakesCommands s ∧ (∀ f ∈ s.sendq.frames, f.phase = .queued → f.body.kind ≠ 8) ∧
        ∃ k : Record, s.stack = [record2] ++ [k] ∧ k.state = .sending) ∧
    (let s := stacked (holding .member) waits9;
      TakesCommands s ∧ SlotFree s ∧ ∃ k : Record, s.stack = [record2] ++ [k] ∧ (∀ x ∈ [record2], x.resource ≠ k.resource) ∧
        k.state = .waiting ∧ ∀ f ∈ s.sendq.frames, f.body ≠ .withdraw k.resource) ∧
    (let s := sends (stacked (holding .member) waits9) [hostFrame .renew];
      TakesCommands s ∧ ¬SlotFree s ∧ ∃ k : Record, s.stack = [record2] ++ [k] ∧ k.state = .waiting) ∧
    (TakesCommands (station .ready) ∧ (station .ready).ctl.station ≠ .member ∧ (station .ready).ctl.station ≠ .resync) := by
  refine ⟨⟨⟨rfl, rfl⟩, rfl, rfl⟩, ⟨⟨rfl, rfl⟩, rfl, by decide, by decide⟩, ?_, ?_, ?_, ?_,
    ⟨⟨rfl, rfl⟩, by decide, by decide⟩⟩
  · exact ⟨⟨rfl, rfl⟩, rfl, record9 .sending, rfl, by decide, rfl, rfl, rfl⟩
  · exact ⟨⟨rfl, rfl⟩, by decide, record9 .sending, rfl, rfl⟩
  · exact ⟨⟨rfl, rfl⟩, slotFree_of _ (by decide) rfl, record9 .waiting, rfl, by decide, rfl, by decide⟩
  · exact ⟨⟨rfl, rfl⟩, notSlotFree_of _ (hostFrame .renew) (by decide) rfl, record9 .waiting, rfl, rfl⟩

/-- A stack of four, and one of none. -/
theorem witness_ReadStatusAndStackBytes :
    TakesCommands (stacked (inBank .member) fullStack) ∧ (stacked (inBank .member) fullStack).stack.length ≤ 4 ∧
      TakesCommands (station .fault) ∧ (station .fault).stack.length ≤ 0 :=
  ⟨⟨rfl, rfl⟩, by decide, ⟨rfl, rfl⟩, by decide⟩

/-- Resource 15 and operand 16 at a count of 16; a state that does not take the command. -/
theorem witness_ReadEntryAndMembersBytes_entry :
    TakesCommands (holding .member) ∧ (holding .member).count ≤ 16 ∧ (holding .member).ctl.station = .member ∧
      (holding .member).count ≤ (16 : Byte).toNat ∧
      (∃ r : Resource, (15 : Byte).toNat = r.val ∧ r.val < (holding .member).count ∧
        ((holding .member).entry r).lawful = true) ∧
      TakesCommands (station .ready) ∧ (station .ready).count ≤ 16 ∧ (station .ready).ctl.station = .ready :=
  ⟨⟨rfl, rfl⟩, by decide, rfl, by decide, ⟨15, rfl, by decide, by decide +kernel⟩, ⟨rfl, rfl⟩, by decide, rfl⟩

theorem witness_ReadEntryAndMembersBytes_members :
    TakesCommands (inBank .member) ∧ membersLawful (inBank .member).table.members = true ∧
      TakesCommands (station .fault) ∧ membersLawful (station .fault).table.members = true :=
  ⟨⟨rfl, rfl⟩, by decide +kernel, ⟨rfl, rfl⟩, by decide +kernel⟩

/-- No report, and sixteen with the lost flag set. -/
theorem witness_TakeReportReturnsTheOldest :
    TakesCommands (station .ready) ∧ (station .ready).port.reports = [] ∧
      (let s := { station .ready with port := { (station .ready).port with reports := sixteen, lost := true } };
        TakesCommands s ∧ ∃ r rest, s.port.reports = r :: rest) :=
  ⟨⟨rfl, rfl⟩, rfl, ⟨rfl, rfl⟩, _, _, rfl⟩

theorem witness_SetMaskSetsNineteenBits : TakesCommands (station .fault) ∧ 2 ^ 19 ≤ (0x080000 : BitVec 24).toNat ∧
    (0x07FFFF : BitVec 24).toNat < 2 ^ 19 := ⟨⟨rfl, rfl⟩, by decide, by decide⟩

theorem witness_UnknownCodesAreOutOfRange :
    (0x00 : Byte) ∉ assignedCodes ∧ TakesCommands (station .ready) ∧ (0x5A : Byte) ∈ assignedCodes :=
  ⟨by decide, ⟨rfl, rfl⟩, by decide⟩

theorem witness_ResetThenSelRising : TakesCommands (station .fault) ∧
    (let s := { station .fault with port := { (station .fault).port with resetArmed := true } };
      s.ctl.inReset = false ∧ s.port.resetArmed = true) := ⟨⟨rfl, rfl⟩, rfl, rfl⟩

/-! ## Gate pins -/

/-- Channel 2 open; closed in READY; closed in MEMBER with no record, with a WAITING one, with renewal pending, and with
a countdown that has run out. -/
theorem witness_GinTransitions :
    (let s := holding .member;
      s.ctl.inReset = false ∧ s.gate[(2 : Fin 8)].ginLow = false ∧ s.gate[(2 : Fin 8)].opened = true) ∧
    (let s := station .ready;
      s.ctl.inReset = false ∧ s.gate[(7 : Fin 8)].ginLow = false ∧ s.gate[(7 : Fin 8)].opened = false ∧
        s.ctl.station ≠ .member) ∧
    (let s := inBank .member;
      s.gate[(2 : Fin 8)].opened = false ∧ s.gate[(2 : Fin 8)].ginLow = false ∧ s.ctl.station = .member ∧
        ∀ k ∈ s.stack, k.resource ≠ channelResource 2) ∧
    (let k := { record2 with state := .waiting };
      let s := stacked (inBank .member) [k];
      s.gate[(2 : Fin 8)].opened = false ∧ s.recordOf (channelResource 2) = some k ∧ ∀ g p, k.state ≠ .held g p) ∧
    (let k := { record2 with state := .held 14 true };
      let s := stacked (inBank .member) [k];
      s.gate[(2 : Fin 8)].opened = false ∧ s.recordOf (channelResource 2) = some k ∧ k.state = .held 14 true) ∧
    (let s := stacked (inBank .member) [record2];
      s.gate[(2 : Fin 8)].opened = false ∧ s.recordOf (channelResource 2) = some record2 ∧
        record2.state = .held 14 false) := by
  refine ⟨by decide +kernel, by decide +kernel, by decide +kernel, ⟨by decide +kernel, rfl, by simp⟩,
    ⟨by decide +kernel, rfl, rfl⟩, ⟨by decide +kernel, rfl, rfl⟩⟩

/-! ## The line -/

/-- No place but IDLE; an empty queue; a RENEW with no HELD record; a RENEW with one; a head behind another frame. -/
theorem witness_OfferTakesTheHead :
    (let s := lineAt (sends (holding .member) [hostFrame .renew]) .blocked;
      s.ctl.inReset = false ∧ ¬(s.line.state = some .idle ∧ s.line.inbound = [] ∧
        (s.ctl.station = .joining ∨ s.ctl.station = .member ∨ s.ctl.station = .leaving ∨ s.ctl.station = .resync) ∧
        ∀ f ∈ s.sendq.frames, f.phase = .queued)) ∧
    (let s := inBank .member;
      s.ctl.inReset = false ∧ s.sendq.frames = []) ∧
    (let s := sends (inBank .member) [hostFrame .renew];
      s.line.state = some .idle ∧ s.line.inbound = [] ∧ s.listening = true ∧
        (s.sendq.frames.map fun f => f.body.target).Nodup ∧ (∀ f ∈ s.sendq.frames, f.phase = .queued) ∧
        s.sendq.frames = [] ++ hostFrame .renew :: [] ∧ ∀ k ∈ s.stack, ∀ g p, k.state ≠ .held g p) ∧
    (let s := sends (holding .member) [hostFrame .renew];
      s.line.state = some .idle ∧ s.line.inbound = [] ∧ s.listening = true ∧
        (s.sendq.frames.map fun f => f.body.target).Nodup ∧ (∀ f ∈ s.sendq.frames, f.phase = .queued) ∧
        s.sendq.frames = [] ++ hostFrame .renew :: [] ∧ ∃ k ∈ s.stack, ∃ g p, k.state = .held g p) ∧
    (let s := sends (holding .member) [generalFrame (.evict 9), hostFrame .renew, generalFrame (.evict 2)];
      s.line.state = some .idle ∧ s.line.inbound = [] ∧ s.listening = true ∧
        (s.sendq.frames.map fun f => f.body.target).Nodup ∧ (∀ f ∈ s.sendq.frames, f.phase = .queued) ∧
        s.sendq.frames = [] ++ generalFrame (.evict 9) :: [hostFrame .renew, generalFrame (.evict 2)] ∧
        (∀ x ∈ [hostFrame .renew, generalFrame (.evict 2)], (generalFrame (.evict 9)).body.kind ≤ x.body.kind) ∧
        (generalFrame (.evict 9)).body ≠ .renew) := by
  refine ⟨by decide, ⟨rfl, rfl⟩, ⟨rfl, rfl, rfl, by decide, by decide, rfl, nofun⟩,
    ⟨rfl, rfl, rfl, by decide, by decide, rfl, record2, by decide, 14, false, rfl⟩,
    ⟨rfl, rfl, rfl, by decide, by decide, rfl, by decide, by decide⟩⟩

/-- The frame on the line with this retry count. -/
def onLine (b : QBody) (p : Place) (mark : Bool) (retries : Nat) (content : Payload) : QFrame :=
  { body := b, place := p, retries := retries, hostMark := mark, phase := .onLine content }

/-- The station while this frame is on the line, an EVICT queued before it and a PRESENCE after it. -/
def sendsAmong (s : State) (f : QFrame) : State :=
  { sends s [generalFrame (.evict 9), f, { generalFrame .presence with place := .presence }] with
    line := { s.line with state := some .sending, frameInHand := true } }

/-- The same station stopped at a conflict. -/
def conflicted (s : State) (count : Nat) : State :=
  { s with line := { s.line with state := some .receiving, conflictPending := true, conflictCount := count } }

/-- A SYNC of station 9, and the same with a bit turned. -/
def syncFrame : RxFrame := sampled { sender := 9, body := .sync 0 }
def brokenFrame : RxFrame := { syncFrame with bits := syncFrame.bits.map (!·) }

/-- A CLAIM being withdrawn, a SYNC that is stale in MEMBER, a RENEW retried seven times under the limit of eight; for
each of the three causes the state stands before it, and a frame with an error and one without for the third. -/
theorem witness_OwnFrameComesBack :
    (let f := onLine (.claim 9 .exclusive .wait) .hostSlot true 7 (.claim 9 2 1);
     let s := sendsAmong (stacked (holding .member)
       [record2, { resource := 9, mode := .exclusive, policy := .wait, state := .withdrawing .claimOutstanding }]) f;
      s.ctl.inReset = false ∧ OnLine s [generalFrame (.evict 9)] f (.claim 9 2 1)
        [{ generalFrame .presence with place := .presence }] ∧ s.line.state = some .sending ∧ WithdrawnClaim s f.body) ∧
    (let f := onLine (.sync 1) .general false 7 (.sync 1);
     let s := sendsAmong (holding .member) f;
      OnLine s [generalFrame (.evict 9)] f (.sync 1) [{ generalFrame .presence with place := .presence }] ∧
        s.line.state = some .sending ∧ ¬WithdrawnClaim s f.body ∧ Stale s f.body) ∧
    (let f := onLine .renew .general false 7 (.renew [(2, 14)]);
     let s := sendsAmong (holding .member) f;
      OnLine s [generalFrame (.evict 9)] f (.renew [(2, 14)]) [{ generalFrame .presence with place := .presence }] ∧
        s.line.state = some .sending ∧ f.retries + 1 ≤ s.ctl.retryLimit.toNat ∧ ¬WithdrawnClaim s f.body ∧
        ¬Stale s f.body) ∧
    (let f := onLine .renew .general false 7 (.renew [(2, 14)]);
     let s := conflicted (sendsAmong (holding .member) f) 0;
      s.ctl.inReset = false ∧
      OnLine s [generalFrame (.evict 9)] f (.renew [(2, 14)]) [{ generalFrame .presence with place := .presence }] ∧
        s.line.state = some .receiving ∧ s.line.conflictPending = true ∧ s.line.conflictCount = 0 ∧
        f.retries + 1 ≤ s.ctl.retryLimit.toNat ∧ s.line.frameInHand = true ∧ s.listening = true ∧
        s.line.inbound.length < 4 ∧ RoomAtEdge s syncFrame ∧ ¬WithdrawnClaim s f.body ∧ ¬Stale s f.body) ∧
    receive syncFrame = some { sender := 9, body := .sync 0 } ∧ receive brokenFrame = none := by
  refine ⟨⟨rfl, ⟨rfl, rfl, by decide⟩, rfl, 9, .exclusive, .wait, _, rfl, rfl, rfl⟩,
    ⟨⟨rfl, rfl, by decide⟩, rfl, not_withdrawnClaim_of _ _ (by decide), .inr rfl⟩,
    ⟨⟨rfl, rfl, by decide⟩, rfl, by decide, not_withdrawnClaim_of _ _ (by decide), ?_⟩,
    ⟨rfl, ⟨rfl, rfl, by decide⟩, rfl, rfl, rfl, by decide, rfl, rfl, by decide, fun _ => .inl (by decide),
      not_withdrawnClaim_of _ _ (by decide), ?_⟩, by decide +kernel, by decide +kernel⟩
  · rintro (h | h) <;> cases h
  · rintro (h | h) <;> cases h

/-- A frame of each kind that is dropped, with eight retries at the limit of eight. -/
theorem witness_DropAtTheRetryLimit :
    (let f := onLine (.lapse 2 6 14) .general false 8 (.lapse 2 6 14);
     let s := sendsAmong (holding .member) f;
      s.ctl.inReset = false ∧ OnLine s [generalFrame (.evict 9)] f (.lapse 2 6 14)
        [{ generalFrame .presence with place := .presence }] ∧ s.line.state = some .sending ∧ ¬WithdrawnClaim s f.body ∧
        s.ctl.retryLimit.toNat ≤ f.retries ∧ f.hostMark = false ∧ f.body.isImage = false) ∧
    (let c := Payload.image 11 0 false (.membership (peers (.member none)) Params.defaults);
     let f := onLine (.image 11 0 .membership) .image false 8 c;
     let s := sendsAmong (inBank .member) f;
      OnLine s [generalFrame (.evict 9)] f c [{ generalFrame .presence with place := .presence }] ∧
        ¬WithdrawnClaim s f.body ∧ s.ctl.retryLimit.toNat ≤ f.retries ∧ f.hostMark = false) ∧
    (let f := onLine (.claim 9 .exclusive .wait) .hostSlot true 8 (.claim 9 2 1);
     let k : Record := { resource := 9, mode := .exclusive, policy := .wait, state := .sending };
     let s := sendsAmong (stacked (holding .member) [record2, k]) f;
      OnLine s [generalFrame (.evict 9)] f (.claim 9 2 1) [{ generalFrame .presence with place := .presence }] ∧
        ¬WithdrawnClaim s f.body ∧ s.ctl.retryLimit.toNat ≤ f.retries ∧ f.hostMark = true ∧ OnlyRecord s [record2] k []) ∧
    (let f := onLine (.release 2 14) .hostSlot true 8 (.release 2 14);
     let s := sendsAmong (stacked (holding .member) [{ record2 with state := .releasing 14 false }]) f;
      OnLine s [generalFrame (.evict 9)] f (.release 2 14) [{ generalFrame .presence with place := .presence }] ∧
        ¬WithdrawnClaim s f.body ∧ s.ctl.retryLimit.toNat ≤ f.retries ∧ f.hostMark = true) ∧
    (let f := onLine (.withdraw 9) .hostSlot true 8 (.withdraw 9);
     let k : Record := { resource := 9, mode := .exclusive, policy := .wait, state := .withdrawing .withdrawOwed };
     let s := sendsAmong (stacked (holding .member) [record2, k]) f;
      OnLine s [generalFrame (.evict 9)] f (.withdraw 9) [{ generalFrame .presence with place := .presence }] ∧
        ¬WithdrawnClaim s f.body ∧ s.ctl.retryLimit.toNat ≤ f.retries ∧ OnlyRecord s [record2] k []) ∧
    (let f := onLine .renew .hostSlot true 8 (.renew [(2, 14)]);
     let s := sendsAmong (holding .member) f;
      OnLine s [generalFrame (.evict 9)] f (.renew [(2, 14)]) [{ generalFrame .presence with place := .presence }] ∧
        ¬WithdrawnClaim s f.body ∧ s.ctl.retryLimit.toNat ≤ f.retries ∧ f.hostMark = true) ∧
    (let f := onLine (.join 0 Params.defaults) .hostSlot true 8 (.join 0 Params.defaults);
     let s := sendsAmong (lineAt (station .joining) .idle) f;
      OnLine s [generalFrame (.evict 9)] f (.join 0 Params.defaults)
          [{ generalFrame .presence with place := .presence }] ∧ ¬WithdrawnClaim s f.body ∧
        s.ctl.retryLimit.toNat ≤ f.retries ∧ s.ctl.station = .joining ∧ GateLaw s) ∧
    (let f := onLine .leave .hostSlot true 8 .leave;
     let s := sendsAmong (holding .leaving) f;
      OnLine s [generalFrame (.evict 9)] f .leave [{ generalFrame .presence with place := .presence }] ∧
        ¬WithdrawnClaim s f.body ∧ s.ctl.retryLimit.toNat ≤ f.retries ∧ s.ctl.station = .leaving ∧ GateLaw s) := by
  refine ⟨⟨rfl, ⟨rfl, rfl, by decide⟩, rfl, not_withdrawnClaim_of _ _ (by decide), by decide, rfl, rfl⟩,
    ⟨⟨rfl, rfl, by decide⟩, not_withdrawnClaim_of _ _ (by decide), by decide, rfl⟩,
    ⟨⟨rfl, rfl, by decide⟩, ?_, by decide, rfl, rfl, by decide⟩,
    ⟨⟨rfl, rfl, by decide⟩, not_withdrawnClaim_of _ _ (by decide), by decide, rfl⟩,
    ⟨⟨rfl, rfl, by decide⟩, not_withdrawnClaim_of _ _ (by decide), by decide, rfl, by decide⟩,
    ⟨⟨rfl, rfl, by decide⟩, not_withdrawnClaim_of _ _ (by decide), by decide, rfl⟩,
    ⟨⟨rfl, rfl, by decide⟩, not_withdrawnClaim_of _ _ (by decide), by decide, rfl, ?_⟩,
    ⟨⟨rfl, rfl, by decide⟩, not_withdrawnClaim_of _ _ (by decide), by decide, rfl, ?_⟩⟩
  · rintro ⟨r, m, p, k, h, hk, hs⟩
    cases h; cases hk; cases hs
  · unfold GateLaw; decide +kernel
  · unfold GateLaw; decide +kernel

/-- The inbound queue holds this many notices, and the veto streak stands at this. -/
def backlog (s : State) (n streak : Nat) : State :=
  { s with line := { s.line with inbound := List.replicate n { sender := 9, body := .leave }, vetoStreak := streak } }

/-- Sending; at the second conflict; a lost frame with an error, with the station's own number, with four notices and
the streak at 7, of a station that has taken JOIN since the veto cell's edge, and with the streak at 8. -/
theorem witness_ConflictsAndLostFrames :
    (let s := sendsAmong (holding .member) (onLine .renew .general false 0 (.renew [(2, 14)]));
      s.ctl.inReset = false ∧ s.line.state = some .sending) ∧
    (let s := conflicted (sendsAmong (holding .member) (onLine .renew .general false 0 (.renew [(2, 14)]))) 1;
      s.ctl.inReset = false ∧ s.line.state = some .receiving ∧ s.line.conflictPending = true ∧
        s.line.conflictCount = 1 ∧ s.line.inbound.length < 4 ∧ RoomAtEdge s syncFrame ∧
        ∃ d, receive syncFrame = some d) ∧
    (let s := receiving (inBank .member);
      s.ctl.inReset = false ∧ s.line.state = some .receiving ∧ s.line.conflictPending = false ∧
        s.line.frameInHand = true ∧ ListenedAtEdge s brokenFrame) ∧
    receive brokenFrame = none ∧
    (∃ n, receive (sampled { sender := 6, body := .leave }) = some n ∧ n.sender = (receiving (inBank .member)).self) ∧
    (let s := backlog (receiving (inBank .member)) 3 7;
      4 ≤ s.line.inbound.length + { syncFrame with appliedSince := 1 }.appliedSince ∧ s.line.vetoStreak < 8) ∧
    ¬ListenedAtEdge (receiving (station .joining)) { syncFrame with joinedSince := true } ∧
    (let s := backlog (receiving (inBank .member)) 4 8;
      ¬(receive syncFrame = none ∨ (∃ n, receive syncFrame = some n ∧ n.sender = s.self) ∨
        (4 ≤ s.line.inbound.length + syncFrame.appliedSince ∧ s.line.vetoStreak < 8))) := by
  have h : receive syncFrame = some { sender := 9, body := .sync 0 } := by decide +kernel
  refine ⟨by decide, ⟨rfl, rfl, rfl, rfl, by decide, fun _ => .inl (by decide), _, h⟩,
    by unfold ListenedAtEdge; decide +kernel, by decide +kernel,
    ⟨{ sender := 6, body := .leave }, by decide +kernel, rfl⟩, by decide, fun h => h.2 ⟨rfl, rfl⟩, ?_⟩
  simp only [h]
  rintro (h1 | ⟨n, h1, h2⟩ | h1)
  · cases h1
  · cases h1; revert h2; decide
  · revert h1; decide

/-- Sending; a station that does not listen, and one that has taken JOIN since the veto cell's edge; a delivery with
three notices queued, and with four and the streak at 8 in MEMBER, LEAVING, and JOINING with the membership part
installed or not. -/
theorem witness_DeliveryAppends :
    (let f := onLine .renew .general false 8 (.renew [(2, 14)]);
     let s := sendsAmong (holding .member) f;
      s.ctl.inReset = false ∧ s.line.state = some .sending ∧
        OnLine s [generalFrame (.evict 9)] f (.renew [(2, 14)]) [{ generalFrame .presence with place := .presence }]) ∧
    (let s := receiving (station .ready);
      s.ctl.inReset = false ∧ s.line.state = some .receiving ∧ s.line.conflictPending = false ∧ s.listening = false) ∧
    (let s := receiving (station .joining); let late (f : RxFrame) : RxFrame := { f with joinedSince := true };
      s.line.state = some .receiving ∧ s.line.conflictPending = false ∧ s.listening = true ∧ s.line.frameInHand = true ∧
        ¬ListenedAtEdge s (late brokenFrame) ∧ receive (late brokenFrame) = none ∧
        receive (late (sampled { sender := 6, body := .leave })) = some { sender := 6, body := .leave } ∧
        RoomAtEdge s (late (sampled { sender := 6, body := .leave }))) ∧
    receive syncFrame = some { sender := 9, body := .sync 0 } ∧
    (let s := timed (backlog (receiving (inBank .member)) 3 8) (timersAt .expired);
      s.line.state = some .receiving ∧ s.line.conflictPending = false ∧ s.listening = true ∧ s.line.frameInHand = true ∧
        (9 : Station) ≠ s.self ∧ RoomAtEdge s syncFrame ∧ s.line.inbound.length < 4 ∧ s.timer.silence[(9 : Station)] ≠ .stopped ∧
        s.timer.silence[(2 : Station)] = .stopped ∧ s.ctl.station.inBank = true) ∧
    (let s := backlog (receiving (inBank .member)) 4 8;
      s.listening = true ∧ s.line.frameInHand = true ∧ 4 ≤ s.line.inbound.length ∧ RoomAtEdge s syncFrame ∧
        s.ctl.station = .member ∧ GeneralRoom s (.sync 0)) ∧
    (let s := backlog (receiving (inBank .leaving)) 4 8;
      s.listening = true ∧ 4 ≤ s.line.inbound.length ∧ RoomAtEdge s syncFrame ∧ s.ctl.station = .leaving ∧ s.stack = [] ∧
        GateLaw s) ∧
    (∀ installed, let s := backlog (receiving (joining 1 (some 2) installed)) 4 8;
      s.listening = true ∧ 4 ≤ s.line.inbound.length ∧ RoomAtEdge s syncFrame ∧ s.ctl.station = .joining ∧
        ∃ ip, s.table.imagePending = some ip ∧ ip.membershipInstalled = installed) := by
  refine ⟨⟨rfl, rfl, rfl, rfl, by decide⟩, by decide,
    ⟨rfl, rfl, rfl, rfl, fun h => h.2 ⟨rfl, rfl⟩, by decide +kernel, by decide +kernel, fun h => absurd ⟨rfl, rfl⟩ h.2⟩,
    by decide +kernel, by unfold RoomAtEdge ListenedAtEdge; decide +kernel,
    ⟨rfl, rfl, by decide, fun _ => .inr (by decide), rfl, generalRoom_of _ _ (by decide) rfl (by decide)⟩,
    ⟨rfl, by decide, fun _ => .inr (by decide), rfl, rfl, ?_⟩,
    fun installed => ⟨rfl, by simp [backlog], fun _ => .inr (by simp [backlog]), rfl, _, rfl, rfl⟩⟩
  unfold GateLaw; decide +kernel

/-- Each line state from which the events act. -/
theorem witness_LineStates :
    (let s := lineAt (inBank .member) .receiving;
      s.ctl.inReset = false ∧ s.line.state = some .receiving ∧ s.line.frameInHand = false ∧
        s.line.conflictPending = false) ∧
    (inBank .member).line.state = some .idle ∧
    (let s := sends (receiving (holding .member)) [hostFrame .renew];
      s.line.state = some .receiving ∧ ∀ f ∈ s.sendq.frames, f.phase = .queued) ∧
    (let f := onLine .renew .general false 8 (.renew [(2, 14)]);
     let s := sendsAmong (holding .member) f;
      s.line.state = some .sending ∧ ¬WithdrawnClaim s f.body ∧ ¬Stale s f.body ∧
        OnLine s [generalFrame (.evict 9)] f (.renew [(2, 14)]) [{ generalFrame .presence with place := .presence }]) ∧
    (let f := onLine (.sync 1) .general false 7 (.sync 1);
     let s := conflicted (sendsAmong (holding .member) f) 1;
      OnLine s [generalFrame (.evict 9)] f (.sync 1) [{ generalFrame .presence with place := .presence }] ∧
        s.line.state = some .receiving ∧ s.line.conflictPending = true ∧ ¬WithdrawnClaim s f.body ∧ Stale s f.body) ∧
    (let f := onLine (.claim 9 .exclusive .wait) .hostSlot true 7 (.claim 9 2 1);
     let s := sendsAmong (stacked (holding .member)
       [record2, { resource := 9, mode := .exclusive, policy := .wait, state := .withdrawing .claimOutstanding }]) f;
      OnLine s [generalFrame (.evict 9)] f (.claim 9 2 1) [{ generalFrame .presence with place := .presence }] ∧
        s.line.state = some .sending ∧ WithdrawnClaim s f.body) ∧
    (let s := timed (lineAt (holding .member) .blocked) (timersAt (.running 0));
      s.ctl.inReset = false ∧ s.line.state = some .blocked ∧ s.timer.presence ≠ .stopped) := by
  refine ⟨by decide, rfl, by decide, ⟨rfl, not_withdrawnClaim_of _ _ (by decide), ?_, rfl, rfl, by decide⟩,
    ⟨⟨rfl, rfl, by decide⟩, rfl, rfl, not_withdrawnClaim_of _ _ (by decide), .inr rfl⟩,
    ⟨⟨rfl, rfl, by decide⟩, rfl, 9, .exclusive, .wait, _, rfl, rfl, rfl⟩, by decide⟩
  rintro (h | h) <;> cases h

/-! ## Applications -/

/-- The claim is not stale (R13). -/
def ClaimFits (s : State) (u : Station) (r : Resource) (mb pb : BitVec 4) : Prop :=
  r.val < s.count ∧ (mb = 1 ∨ mb = 2) ∧ (pb = 1 ∨ pb = 2) ∧ s.table.members[u].isMember = true ∧
    (∀ h ∈ (s.entry r).holders, h.station ≠ u) ∧ ∀ r', ∀ w ∈ (s.entry r').waiters, w.station ≠ u

/-- A record for resource 9 on top of the lease on resource 2, and a CLAIM of station 6 for it to apply. -/
def claims (k : RecordState) (mb pb : BitVec 4) : State :=
  heard (stacked (holding .member) [record2, { resource := 9, mode := .exclusive, policy := .wait, state := k }]) 6
    (.claim 9 mb pb)

/-- The same where station 9 holds the resource. -/
def contested (k : RecordState) (pb : BitVec 4) : State :=
  entryAt (claims k 2 pb) 9
    { state := .exclusive, counter := 3, holders := [{ station := 9, mode := .exclusive, grant := 3 }], waiters := [] }

/-- Of this station, SENDING or being withdrawn: grantable, queued, refused, stale by a policy of 3. Of station 9 for
resource 15, and of station 11, which is not MEMBER. -/
theorem witness_ClaimApplied :
    (∀ k ∈ [RecordState.sending, .withdrawing .claimOutstanding],
      Applies (claims k 2 1) { sender := 6, body := .claim 9 2 1 } [] ∧ (6 : Station) = (claims k 2 1).self ∧
        ClaimFits (claims k 2 1) 6 9 2 1 ∧ ((claims k 2 1).entry 9).state = .free ∧ GateLaw (claims k 2 1) ∧
        (claims k 2 1).stack = [record2] ++ [{ resource := 9, mode := .exclusive, policy := .wait, state := k }]) ∧
    (∀ k ∈ [RecordState.sending, .withdrawing .claimOutstanding], ∀ pb ∈ [(1 : BitVec 4), 2],
      Applies (contested k pb) { sender := 6, body := .claim 9 2 pb } [] ∧ ClaimFits (contested k pb) 6 9 2 pb ∧
        GateLaw (contested k pb) ∧ ((contested k pb).entry 9).state ≠ .free ∧
        ((contested k pb).entry 9).state ≠ .shared ∧
        (contested k pb).stack = [record2] ++ [{ resource := 9, mode := .exclusive, policy := .wait, state := k }]) ∧
    (∀ k ∈ [RecordState.sending, .withdrawing .claimOutstanding],
      Applies (claims k 2 3) { sender := 6, body := .claim 9 2 3 } [] ∧ ¬ClaimFits (claims k 2 3) 6 9 2 3 ∧
        GateLaw (claims k 2 3)) ∧
    (let s := heard (holding .member) 9 (.claim 15 1 2);
      Applies s { sender := 9, body := .claim 15 1 2 } [] ∧ (15 : Byte).toNat = (15 : Resource).val ∧
        ClaimFits s 9 15 1 2 ∧ (9 : Station) ≠ s.self ∧ GateLaw s) ∧
    (let s := heard (holding .member) 11 (.claim 15 1 2);
      Applies s { sender := 11, body := .claim 15 1 2 } [] ∧ ¬ClaimFits s 11 15 1 2) := by
  unfold Applies ClaimFits GateLaw
  refine ⟨by decide +kernel, fun k hk pb hpb => ?_, by decide +kernel, by decide +kernel, by decide +kernel⟩
  simp only [List.mem_cons, List.not_mem_nil, or_false] at hk hpb
  rcases hk with rfl | rfl <;> rcases hpb with rfl | rfl <;> decide +kernel

/-- The entry of resource 2 with a waiter. -/
def awaited (w : Waiter) : Entry := { entry2 with waiters := [w] }

/-- Station 9 gives back resource 2, for which this station waits while it withdraws. -/
def owedAt : State :=
  entryAt (heard (stacked (inBank .member) [{ record2 with state := .withdrawing .withdrawOwed }]) 9 (.release 2 1)) 2
    { state := .shared, counter := 65535, holders := [{ station := 9, mode := .shared, grant := 1 }],
      waiters := [{ station := 6, mode := .exclusive }] }

/-- This station's RELEASING, HELD and EXPIRED record; a hold of station 9 with this station first in the queue,
released or lapsed; a number that no hold has; a hold lapsed under GOUT low; the withdraw-owed record. -/
theorem witness_HoldRemovalApplied :
    (∀ k ∈ [RecordState.releasing 14 true, .held 14 false, .expired 14], ∀ n ∈
        [({ sender := 6, body := .release 2 14 } : Notice), { sender := 9, body := .lapse 2 6 14 }],
      let s := heard (stacked (inBank .member) [{ record2 with state := k }]) n.sender n.body;
      let s := entryAt s 2 entry2;
      Applies s n [] ∧ (6 : Station) = s.self ∧ 2 < s.count ∧ (∃ x ∈ (s.entry 2).holders, x.station = 6 ∧ x.grant = 14) ∧
        (∀ w ∈ (s.entry 2).waiters, w.station ≠ 6) ∧ OnlyRecord s [] { record2 with state := k } [] ∧ GateLaw s) ∧
    (let s := entryAt (heard (stacked (inBank .member) [{ record2 with state := .waiting }]) 9 (.release 2 1)) 2
        { state := .shared, counter := 65535, holders := [{ station := 9, mode := .shared, grant := 1 }],
          waiters := [{ station := 6, mode := .exclusive }] };
      Applies s { sender := 9, body := .release 2 1 } [] ∧ (9 : Station) ≠ s.self ∧
        (∃ x ∈ (s.entry 2).holders, x.station = 9 ∧ x.grant = 1) ∧
        ((s.entry 2).holders.filter fun x => !(decide (x.station = 9) && decide (x.grant = 1))) = [] ∧
        (s.entry 2).waiters = { station := s.self, mode := .exclusive } :: [] ∧
        s.stack = [] ++ [{ record2 with state := .waiting }] ∧ s.ctl.station = .member ∧ GateLaw s) ∧
    (let s := heard (holding .member) 6 (.release 2 13);
      Applies s { sender := 6, body := .release 2 13 } [] ∧
        ¬((2 : Resource).val < s.count ∧ ∃ x ∈ (s.entry 2).holders, x.station = 6 ∧ x.grant = 13)) ∧
    (let s := heard gated 9 (.lapse 2 6 14);
      Applies s { sender := 9, body := .lapse 2 6 14 } [] ∧ OnlyRecord s [] record2 [] ∧ GateLaw s ∧
        s.gate[(2 : Fin 8)].goutLow = true ∧ channelResource 2 = 2 ∧ ∀ w ∈ (s.entry 2).waiters, w.station ≠ 6) ∧
    (let s := owedAt;
      Applies s { sender := 9, body := .release 2 1 } [] ∧ (9 : Station) ≠ s.self ∧ 2 < s.count ∧
        (∃ x ∈ (s.entry 2).holders, x.station = 9 ∧ x.grant = 1) ∧
        ((s.entry 2).holders.filter fun x => !(decide (x.station = 9) && decide (x.grant = 1))) = [] ∧
        (s.entry 2).waiters = { station := s.self, mode := .exclusive } :: [] ∧
        s.stack = [] ++ [{ record2 with state := .withdrawing .withdrawOwed }] ∧ GateLaw s ∧ NothingExpired s) := by
  unfold Applies OnlyRecord GateLaw NothingExpired
  refine ⟨?_, ?_, ?_, ?_, ?_⟩ <;> decide +kernel

/-- Nothing is queued there for the RELEASE that follows. -/
theorem witness_HoldRemovalApplied_room : GeneralRoom owedAt (.release 2 1) :=
  generalRoom_of _ _ (by decide) rfl (by decide)

/-- A waiter of station 9; this station's withdraw-owed record; no waiter; a RENEW of this station with a record whose
renewal is pending, with a number that no hold has beside it. -/
theorem witness_WithdrawAndRenewApplied :
    (let s := entryAt (heard (holding .member) 9 (.withdraw 2)) 2 (awaited { station := 9, mode := .shared });
      Applies s { sender := 9, body := .withdraw 2 } [] ∧ 2 < s.count ∧ ∃ w ∈ (s.entry 2).waiters, w.station = 9) ∧
    (let k := { record2 with state := .withdrawing .withdrawOwed };
     let s := entryAt (heard (stacked (inBank .member) [k]) 6 (.withdraw 2)) 2
        { state := .exclusive, counter := 3, holders := [{ station := 9, mode := .exclusive, grant := 3 }],
          waiters := [{ station := 6, mode := .exclusive }] };
      Applies s { sender := 6, body := .withdraw 2 } [] ∧ (∃ w ∈ (s.entry 2).waiters, w.station = s.self) ∧
        s.stack = [] ++ [k] ∧ k.resource = 2 ∧ GateLaw s) ∧
    (let s := heard (holding .member) 9 (.withdraw 2);
      Applies s { sender := 9, body := .withdraw 2 } [] ∧ ¬∃ w ∈ (s.entry 2).waiters, w.station = 9) ∧
    (let k := { record2 with state := .held 14 true };
     let items : List (Byte × Grant) := [(1, 0), (2, 14), (2, 15), (16, 14)];
     let s := heard (stacked (holding .resync) [k]) 6 (.renew items);
      Applies s { sender := 6, body := .renew items } [] ∧ (6 : Station) = s.self ∧ OnlyRecord s [] k [] ∧
        ((∃ i ∈ items, i.2 = 14 ∧ i.1.toNat = (2 : Resource).val) ∧ (2 : Resource).val < s.count ∧
          ∃ x ∈ (s.entry 2).holders, x.station = 6 ∧ x.grant = 14) ∧
        (¬∃ x ∈ (s.entry 2).holders, x.station = 6 ∧ x.grant = 15) ∧ s.port.reports = [] ∧ items.length ≤ 4) := by
  unfold Applies OnlyRecord GateLaw
  decide +kernel

/-- Attempts 2 and 3; a parameter out of range; a JOINING sender and a MEMBER one; this station's own JOIN with and
without a source; a SYNC of a MEMBER and of another; this station's own with and without a source. -/
theorem witness_JoinAndSyncApplied :
    (∀ a ∈ [(2 : Byte), 3], let s := heard (inBank .member) 11 (.join a Params.defaults);
      Applies s { sender := 11, body := .join a Params.defaults } [] ∧ (11 : Station) ≠ s.self) ∧
    (Params.defaults.inRange = true ∧ ({ Params.defaults with silence := 16 } : Params).inRange = false) ∧
    (let s := heard (inBank .member) 11 (.join 1 Params.defaults);
      chooseSource s.table.members 11 1 = some s.self ∧ s.ctl.station = .member ∧
        s.table.members[(11 : Station)].isMember = false) ∧
    (let s := entryAt (heard (inBank .member) 9 (.join 2 Params.defaults)) 2
        { state := .exclusive, counter := 3, holders := [{ station := 9, mode := .exclusive, grant := 3 }], waiters := [] };
      Applies s { sender := 9, body := .join 2 Params.defaults } [] ∧ s.table.members[(9 : Station)].isMember = true ∧
        TableLaw s ∧ s.table.members[s.self].isMember = true) ∧
    (let s := heard (joining 0 none false) 6 (.join 2 Params.defaults);
      s.ctl.inReset = false ∧ s.ctl.station = .joining ∧
        s.line.inbound = { sender := s.self, body := .join 2 Params.defaults } :: [] ∧
        (2 : Fin 4).val = (2 : Byte).toNat ∧ s.table.members[s.self].isMember = false ∧
        chooseSource s.table.members s.self 2 ≠ none) ∧
    (let s := heard (station .joining) 6 (.join 0 Params.defaults);
      s.ctl.station = .joining ∧ s.line.inbound = { sender := s.self, body := .join 0 Params.defaults } :: [] ∧
        chooseSource s.table.members s.self 0 = none) ∧
    (∀ a ∈ [(2 : Byte), 3], ∀ u ∈ [(9 : Station), 11], let s := heard (inBank .member) u (.sync a);
      Applies s { sender := u, body := .sync a } [] ∧ u ≠ s.self) ∧
    (let s := heard (inBank .member) 9 (.sync 1);
      s.table.members[(9 : Station)].isMember = true ∧ chooseSource s.table.members 9 1 = some s.self) ∧
    (let s := heard { inBank .member with table := { (inBank .member).table with
          members := TableUnit.clear.members.set 9 (.member none) } } 9 (.sync 1);
      Applies s { sender := 9, body := .sync 1 } [] ∧ s.table.members[(9 : Station)].isMember = true ∧
        chooseSource s.table.members 9 1 = none) ∧
    (let s := heard (inBank .resync) 6 (.sync 2);
      s.ctl.inReset = false ∧ s.ctl.station = .resync ∧ s.line.inbound = { sender := s.self, body := .sync 2 } :: [] ∧
        s.table.members[s.self].isMember = true ∧ chooseSource s.table.members s.self 2 = some 2) ∧
    (let s := heard { inBank .resync with table := { (inBank .resync).table with
          members := TableUnit.clear.members.set 6 (.member none) } } 6 (.sync 0);
      s.ctl.station = .resync ∧ s.line.inbound = { sender := s.self, body := .sync 0 } :: [] ∧
        s.table.members[s.self].isMember = true ∧ chooseSource s.table.members s.self 0 = none ∧ s.stack = [] ∧
        ∀ r, (∀ h ∈ (s.entry r).holders, h.station ≠ s.self) ∧ ∀ w ∈ (s.entry r).waiters, w.station ≠ s.self) := by
  unfold Applies TableLaw
  refine ⟨?_, ?_, ?_, ?_, ?_, ?_, ?_, ?_, ?_, ?_, ?_⟩ <;> decide +kernel

/-- A founding sender that is JOINING, and one first seen by its FOUND; a FOUND in a bank with members. -/
theorem witness_FoundApplied :
    (∀ m ∈ [MemberRecord.joining (some { attempt := 2, source := none }), .absent],
      let s := heard { station .joining with table := { TableUnit.clear with
          members := (TableUnit.clear.members.set 6 (.joining (some { attempt := 0, source := none }))).set 11 m } } 11
          (.found { Params.defaults with grace := 11 });
      s.ctl.inReset = false ∧ s.ctl.station = .joining ∧
        s.line.inbound = { sender := 11, body := .found { Params.defaults with grace := 11 } } :: [] ∧
        ({ Params.defaults with grace := 11 } : Params).inRange = true ∧
        (∀ q : Station, s.table.members[q].isMember = false) ∧ s.table.members[s.self].isJoining = true ∧
        (s.table.members[(11 : Station)].isJoining = true ∨
          (s.table.bank = none ∧ s.table.members[(11 : Station)] = .absent)) ∧ s.stack = [] ∧
        (∀ n : Fin 8, s.gate[n].opened = false) ∧ s.port.reports = []) ∧
    (let s := heard (holding .member) 11 (.found Params.defaults);
      Applies s { sender := 11, body := .found Params.defaults } [] ∧ ∃ q : Station, s.table.members[q].isMember = true) := by
  unfold Applies
  decide +kernel

/-- The LEAVE of a peer, the EVICT of one that is JOINING; this station's own, in LEAVING with a stack of four,
and its own EVICT and LEAVE in MEMBER with GOUT low. -/
theorem witness_LeaveAndEvictApplied :
    (let s := heard (holding .member) 9 .leave;
      Applies s { sender := 9, body := .leave } [] ∧ s.table.members[(9 : Station)].isMember = true ∧
        (9 : Station) ≠ s.self ∧ TableLaw s ∧ s.table.members[s.self].isMember = true) ∧
    (let s := heard (holding .member) 6 (.evict 11);
      Applies s { sender := 6, body := .evict 11 } [] ∧ (11 : Byte).toNat = (11 : Station).val ∧
        s.table.members[(6 : Station)].isMember = true ∧ s.table.members[(11 : Station)] ≠ .absent ∧
        (11 : Station) ≠ s.self ∧ TableLaw s) ∧
    (let s := heard (stacked { holding .leaving with port := { (holding .leaving).port with reports := sixteen.take 11 } }
        fullStack) 6 .leave;
      Applies s { sender := 6, body := .leave } [] ∧ s.table.members[(6 : Station)].isMember = true ∧ StackLaw s ∧
        GateLaw s ∧ s.port.reports.length + 5 ≤ 16) ∧
    (let s := heard (stacked (holding .resync) fullStack) 2 (.evict 6);
      Applies s { sender := 2, body := .evict 6 } [] ∧ s.table.members[(2 : Station)].isMember = true ∧
        s.table.members[(6 : Station)] ≠ .absent ∧ (6 : Station) = s.self ∧ StackLaw s ∧ GateLaw s) ∧
    (let s := heard gated 6 .leave;
      Applies s { sender := 6, body := .leave } [] ∧ s.table.members[(6 : Station)].isMember = true ∧
        s.ctl.station = .member ∧ StackLaw s ∧ GateLaw s ∧ s.gate[(2 : Fin 8)].goutLow = true ∧
        channelResource 2 = record2.resource ∧ s.port.reports.length + 3 ≤ 16) ∧
    (let s := heard gated 2 (.evict 6);
      Applies s { sender := 2, body := .evict 6 } [] ∧ s.table.members[(2 : Station)].isMember = true ∧
        s.table.members[(6 : Station)] ≠ .absent ∧ (6 : Station) = s.self ∧ s.ctl.station = .member ∧ StackLaw s ∧
        GateLaw s ∧ s.gate[(2 : Fin 8)].goutLow = true ∧ channelResource 2 = record2.resource ∧
        s.port.reports.length + 3 ≤ 16) := by
  unfold Applies TableLaw StackLaw GateLaw
  refine ⟨?_, ?_, ?_, ?_, ?_, ?_⟩ <;> decide +kernel

/-- A RESYNC station at attempt 1 of its image, the membership part installed, its own lease on resource 2 known. -/
def resyncing : State :=
  { holding .resync with table := { (holding .resync).table with
      members := peers (.member (some { attempt := 1, source := some 2 })),
      imagePending := some { attempt := 1, membershipInstalled := true, installed := Vector.replicate 16 false,
                             spoiled := false } } }

/-- The membership part with a lower count; a resource part with an own hold known before and another's; the last part
at the joiner; parts for another station, at a bystander and at the source. -/
theorem witness_ImageApplied :
    (∀ s ∈ [joining 1 (some 2) false, resyncing], let ps := { Params.defaults with count := 8 };
      let t := heard s 2 (.image 6 1 false (.membership (peers (.member (some { attempt := 1, source := some 2 }))) ps));
      t.ctl.inReset = false ∧ (t.ctl.station = .joining ∨ t.ctl.station = .resync) ∧ (2 : Station) ≠ t.self ∧
        t.table.members[t.self].transfer = some { attempt := 1, source := some 2 } ∧
        (∃ ip, t.table.imagePending = some ip ∧ ip.spoiled = false)) ∧
    (∀ s ∈ [joining 1 (some 2) true, resyncing], ∀ last,
      let t := heard s 2 (.image 6 1 last (.resource 2 entry2));
      t.ctl.inReset = false ∧ (t.ctl.station = .joining ∨ t.ctl.station = .resync) ∧
        t.table.members[t.self].transfer = some { attempt := 1, source := some 2 } ∧
        (∃ ip, t.table.imagePending = some ip ∧ ip.spoiled = false ∧ ip.membershipInstalled = true) ∧
        (2 : Resource).val < t.count ∧ entry2.holds 6 14 = true) ∧
    ((resyncing.entry 2).holds 6 14 = true ∧ ∃ c ∈ resyncing.timer.countdowns, c.isOf 2 6 14 = true) ∧
    (joining 1 (some 2) true).table.members[(6 : Station)] = .joining (some { attempt := 1, source := some 2 }) ∧
    (let s := { inBank .member with table := { (inBank .member).table with
        members := (peers (.member none)).set 11 (.joining (some { attempt := 1, source := some 6 })),
        transfers := [{ target := 11, attempt := 1, next := .resource 15 }] } };
      (∀ last, let t := heard s 6 (.image 11 1 last (.resource 15 Entry.clear));
        Applies t { sender := 6, body := .image 11 1 last (.resource 15 Entry.clear) } [] ∧ (11 : Station) ≠ t.self ∧
          t.table.members[(11 : Station)].transfer = some { attempt := 1, source := some 6 } ∧
          t.table.transfers = { target := 11, attempt := 1, next := PartContent.part (.resource 15 Entry.clear) } :: []) ∧
      s.table.members[(11 : Station)].isJoining = true ∧ s.table.members[s.self].isMember = true) := by
  have h : ∀ s ∈ [joining 1 (some 2) true, resyncing],
      ∃ ip, s.table.imagePending = some ip ∧ ip.spoiled = false ∧ ip.membershipInstalled = true := by
    intro s hs
    simp only [List.mem_cons, List.not_mem_nil, or_false] at hs
    rcases hs with rfl | rfl
    · exact ⟨_, rfl, rfl, rfl⟩
    · exact ⟨_, rfl, rfl, rfl⟩
  unfold Applies
  refine ⟨?_, ?_, by decide +kernel, by decide +kernel, by decide +kernel⟩
  · intro s hs
    simp only [List.mem_cons, List.not_mem_nil, or_false] at hs
    rcases hs with rfl | rfl
    · exact ⟨rfl, .inl rfl, by decide, by decide +kernel, _, rfl, rfl⟩
    · exact ⟨rfl, .inr rfl, by decide, by decide +kernel, _, rfl, rfl⟩
  · intro s hs last
    have h := h s hs
    simp only [List.mem_cons, List.not_mem_nil, or_false] at hs
    rcases hs with rfl | rfl
    · exact ⟨rfl, .inl rfl, by cases last <;> decide +kernel, h, by cases last <;> decide +kernel, by decide +kernel⟩
    · exact ⟨rfl, .inr rfl, by cases last <;> decide +kernel, h, by cases last <;> decide +kernel, by decide +kernel⟩

/-- The station with this image-pending state. -/
def pendingAt (s : State) (ip : ImagePending) : State := { s with table := { s.table with imagePending := some ip } }

/-- The station with this membership table. -/
def membersAt (s : State) (m : Vector MemberRecord 16) : State := { s with table := { s.table with members := m } }

/-- The station at attempt 1 of its image, the membership part installed or not, the attempt spoiled or not. -/
def imageAt (s : State) (installed spoiled : Bool) : State :=
  pendingAt s
    { attempt := 1, membershipInstalled := installed, installed := Vector.replicate 16 false, spoiled := spoiled }

/-- A resource part before the membership part; the last part of a spoiled attempt at a joiner with and without the
membership part, and in RESYNC at attempts 1 and 2. -/
theorem witness_ImageApplied_spoiled :
    (∀ s ∈ [imageAt (joining 1 (some 2) false) false false, imageAt resyncing false false],
      let t := heard s 2 (.image 6 1 false (.resource 2 entry2));
      t.ctl.inReset = false ∧ (t.ctl.station = .joining ∨ t.ctl.station = .resync) ∧ (2 : Station) ≠ t.self ∧
        t.table.members[(2 : Station)].isMember = true ∧
        t.table.members[t.self].transfer = some { attempt := 1, source := some 2 } ∧
        ∃ ip, t.table.imagePending = some ip ∧ ip.spoiled = false ∧ ip.membershipInstalled = false) ∧
    (∀ installed,
      let s := heard (imageAt (joining 1 (some 2) installed) installed true) 2 (.image 6 1 true (.resource 15 Entry.clear));
      s.ctl.inReset = false ∧ (2 : Station) ≠ s.self ∧ s.table.members[(2 : Station)].isMember = true ∧
        s.ctl.station = .joining ∧ s.table.members[s.self] = .joining (some { attempt := 1, source := some 2 }) ∧
        (∃ ip, s.table.imagePending = some ip ∧ ip.spoiled = true ∧ ip.membershipInstalled = installed) ∧ s.stack = [] ∧
        (∀ n : Fin 8, s.gate[n].opened = false) ∧ GeneralRoom s (.sync 0) ∧ NothingExpired s) ∧
    (∀ a ∈ [(1 : Fin 4), 2],
      let own := MemberRecord.member (some { attempt := a, source := some 2 });
      let s := heard (membersAt (imageAt resyncing true true) (peers own)) 2 (.image 6 a true (.resource 15 Entry.clear));
      s.ctl.inReset = false ∧ (2 : Station) ≠ s.self ∧ s.table.members[(2 : Station)].isMember = true ∧
        s.ctl.station = .resync ∧ s.table.members[s.self] = .member (some { attempt := a, source := some 2 }) ∧
        (∃ ip, s.table.imagePending = some ip ∧ ip.spoiled = true) ∧ s.ctl.exhausted = false ∧ GateLaw s ∧
        GeneralRoom s (.sync (a + 1)) ∧ GeneralRoom s .leave ∧ NothingExpired s) := by
  refine ⟨fun s hs => ?_, fun installed => ?_, fun a ha => ?_⟩
  · simp only [List.mem_cons, List.not_mem_nil, or_false] at hs
    rcases hs with rfl | rfl
    · exact ⟨rfl, .inl rfl, by decide, by decide +kernel, by decide +kernel, _, rfl, rfl, rfl⟩
    · exact ⟨rfl, .inr rfl, by decide, by decide +kernel, by decide +kernel, _, rfl, rfl, rfl⟩
  · cases installed
    all_goals
      exact ⟨rfl, by decide, by decide +kernel, rfl, by decide +kernel, ⟨_, rfl, rfl, rfl⟩, rfl, by decide +kernel,
        generalRoom_of _ _ (by decide) rfl (by decide +kernel), by decide, by decide⟩
  · simp only [List.mem_cons, List.not_mem_nil, or_false] at ha
    rcases ha with rfl | rfl
    all_goals
      refine ⟨rfl, by decide, by decide +kernel, rfl, by decide +kernel, ⟨_, rfl, rfl⟩, rfl, ?_,
        generalRoom_of _ _ (by decide) rfl (by decide), generalRoom_of _ _ (by decide) rfl (by decide),
        ⟨by decide, by decide⟩⟩
      unfold GateLaw; decide +kernel

/-- A stack in RESYNC whose records are kept and one of which takes renewal pending: resource 9 was granted unseen. -/
def reconciles (last : Payload) : State :=
  entryAt (heard (stacked resyncing waits9) 2 last) 9
    { state := .exclusive, counter := 3, holders := [{ station := 6, mode := .exclusive, grant := 3 }], waiters := [] }

/-- The last part, with a RENEW to ask for, and with a hold that no record matches; an own SYNC without a source. -/
theorem witness_ReconciliationSettles :
    (∀ r ∈ [(15 : Resource), 2], let s := reconciles (.image 6 1 true (.resource r entry2));
      s.ctl.inReset = false ∧ s.ctl.station = .resync ∧ s.ctl.exhausted = false ∧ StackLaw s ∧ GateLaw s ∧
        (2 : Station) ≠ s.self ∧ s.line.inbound.length = 1 ∧
        s.table.members[s.self] = .member (some { attempt := 1, source := some 2 }) ∧
        (∃ ip, s.table.imagePending = some ip ∧ ip.spoiled = false ∧ ip.membershipInstalled = true) ∧ r.val < s.count ∧
        s.port.reports.length + 4 < 16 ∧ NothingExpired s ∧ GeneralRoom s .renew ∧ GeneralRoom s .leave) ∧
    (let s := reconciles .leave;
      (∃ x ∈ (s.entry 9).holders, x.station = s.self ∧ x.grant = 3) ∧ record9 .waiting ∈ s.stack ∧
        ¬∃ w ∈ (s.entry 9).waiters, w.station = s.self) ∧
    (let alone := TableUnit.clear.members.set 6 (.member none);
     let s := heard (membersAt (stacked (holding .resync) waits9) alone) 6 (.sync 0);
      s.ctl.inReset = false ∧ s.ctl.station = .resync ∧ s.ctl.exhausted = false ∧ StackLaw s ∧ GateLaw s ∧
        s.line.inbound = { sender := s.self, body := .sync 0 } :: [] ∧ s.table.members[s.self].isMember = true ∧
        chooseSource s.table.members s.self 0 = none) := by
  refine ⟨fun r hr => ?_, by decide +kernel, by unfold StackLaw GateLaw; decide +kernel⟩
  simp only [List.mem_cons, List.not_mem_nil, or_false] at hr
  rcases hr with rfl | rfl
  all_goals
    refine ⟨rfl, rfl, rfl, by unfold StackLaw; decide +kernel, by unfold GateLaw; decide +kernel, by decide, rfl,
      by decide +kernel, ⟨_, rfl, rfl, rfl⟩, by decide +kernel, by decide, ⟨by decide, by decide⟩,
      generalRoom_of _ _ (by decide) rfl (by decide), generalRoom_of _ _ (by decide) rfl (by decide)⟩

/-- A joiner with a provisional view that knows no MEMBER, its found wait running and a FOUND queued. -/
def waitsToFound (n : Notice) : State :=
  { membersAt (station .joining) (TableUnit.clear.members.set 6 (.joining (some { attempt := 0, source := none }))) with
    timer := { TimerUnit.clear with foundWait := .running 400 },
    sendq := { frames := [generalFrame (.found Params.defaults)], awaiting := none },
    line := { LineUnit.afterReset with inbound := [n] } }

/-- A notice of each kind at a joiner in whose view its sender is ABSENT; one that follows entries installed and not;
its own EVICT; an invalid PRESENCE, also its own; a FOUND in a view with a MEMBER. -/
theorem witness_JoinerAppliesNotices :
    (∀ b ∈ [Payload.claim 2 2 1, .release 2 14, .withdraw 2, .lapse 2 9 14, .renew [(2, 14)], .sync 1, .leave, .evict 9,
        .presence true 0], let s := waitsToFound { sender := 9, body := b };
      s.ctl.inReset = false ∧ s.ctl.station = .joining ∧ s.line.inbound = { sender := 9, body := b } :: [] ∧
        s.stack = [] ∧ (∀ m : Fin 8, s.gate[m].opened = false) ∧ s.table.members[s.self].isMember = false ∧
        s.table.bank = none ∧ (9 : Station) ≠ s.self ∧ s.table.members[(9 : Station)].isMember = false ∧
        s.timer.foundWait ≠ .stopped ∧ s.table.members[s.self] = .joining (some { attempt := 0, source := none })) ∧
    (let n : Notice := { sender := 9, body := .claim 2 2 1 };
     let ip : ImagePending := { attempt := 1, membershipInstalled := true,
                                installed := (Vector.replicate 16 false).set 2 true, spoiled := false };
     let s := heard (pendingAt (joining 1 (some 2) true) ip) 9 n.body;
      s.ctl.station = .joining ∧ s.stack = [] ∧ (∀ m : Fin 8, s.gate[m].opened = false) ∧
        s.table.members[s.self].isMember = false ∧ s.table.imagePending = some ip ∧ (2 : Resource).val < s.count ∧
        ip.installed[(2 : Resource)] = true ∧ ip.installed[(3 : Resource)] = false) ∧
    (let s := waitsToFound { sender := 9, body := .evict 6 };
      (9 : Station) ≠ s.self ∧ (6 : Byte).toNat = s.self.val ∧ s.table.members[s.self] ≠ .absent ∧
        s.table.bank = none ∧ s.table.members[(9 : Station)].isMember = false) ∧
    (let s := waitsToFound { sender := 6, body := .presence false 0 };
      s.line.inbound = { sender := s.self, body := .presence false 0 } :: []) ∧
    (let s := heard (joining 1 (some 2) false) 11 (.found Params.defaults);
      s.ctl.station = .joining ∧ s.table.bank = none ∧ ∃ q : Station, s.table.members[q].isMember = true) := by
  refine ⟨fun b _ => ⟨rfl, rfl, rfl, rfl, ?_, ?_, rfl, (by decide : (9 : Station) ≠ 6), ?_, nofun, ?_⟩, by decide +kernel,
    by decide +kernel, rfl, by decide +kernel⟩
  · simp [waitsToFound, membersAt, station, State.reset]
  · simp [waitsToFound, membersAt, station, State.reset, State.self, MemberRecord.isMember]
  · simp [waitsToFound, membersAt, station, State.reset, TableUnit.clear, MemberRecord.isMember]
  · simp [waitsToFound, membersAt, station, State.reset, State.self]

/-- Where only a MEMBER sends the kind, the sender is shown to be MEMBER; by an invalid PRESENCE it is not. -/
theorem witness_JoinerAppliesNotices_shows :
    ShowsMember (waitsToFound { sender := 9, body := .claim 2 2 1 }) { sender := 9, body := .claim 2 2 1 } ∧
      ¬ShowsMember (waitsToFound { sender := 9, body := .presence false 0 }) { sender := 9, body := .presence false 0 } :=
  ⟨⟨rfl, by decide, by decide +kernel, nofun, nofun, nofun⟩,
    fun h => h.2.2.2.2.2 0 rfl⟩

/-- A digest that differs, from a lower number; an invalid one; in LEAVING. -/
theorem witness_PresenceApplied :
    (let s := heard (inBank .member) 2 (.presence true ((inBank .member).digest + 1));
      Applies s { sender := 2, body := .presence true ((inBank .member).digest + 1) } [] ∧ s.ctl.station = .member ∧
        s.table.members[(2 : Station)].isMember = true ∧ (inBank .member).digest + 1 ≠ s.digest ∧ (2 : Station) < s.self ∧
        s.table.imagePending = none ∧ s.sendq = SendQueue.clear ∧ s.stack = [] ∧
        ∀ c ∈ s.timer.countdowns, c.timer ≠ .expired) ∧
    (∀ st ∈ [StationState.member, .leaving], let s := heard (holding st) 2 (.presence false 0);
      Applies s { sender := 2, body := .presence false 0 } [] ∧ GateLaw s) := by
  refine ⟨⟨⟨rfl, rfl, rfl⟩, rfl, by decide +kernel, ?_, by decide, rfl, rfl, rfl, by decide⟩, ?_⟩
  · have h : (heard (inBank .member) 2 (.presence true ((inBank .member).digest + 1))).digest = (inBank .member).digest :=
      rfl
    rw [h]
    intro h'
    have := congrArg (· - (inBank .member).digest) h'
    simp at this
  · unfold Applies GateLaw; decide +kernel

/-! ## Timers and requests -/

theorem sends_nothing (s : State) (h : s.sendq = SendQueue.clear) (b : QBody) : GeneralRoom s b :=
  generalRoom_of s b (by simp [h, SendQueue.clear]) (by simp [h, SendQueue.clear])
    (by simp [h, SendQueue.clear, SendQueue.inPlace])

/-- A countdown with time left; the own countdown at 0, with room for the LAPSE; another station's in MEMBER and in
RESYNC. -/
theorem witness_HoldCountdownExpires :
    (let s := gated;
      s.ctl.inReset = false ∧ ∀ c ∈ s.timer.countdowns, c.resource = 2 → c.holder = 6 → c.timer ≠ .running 0) ∧
    (let s := timed gated { TimerUnit.clear with countdowns := [countdown2 (.running 0)] };
      s.ctl.inReset = false ∧
        s.timer.countdowns = [] ++ { resource := 2, holder := 6, grant := 14, timer := .running 0 } :: [] ∧
        (6 : Station) = s.self ∧ s.ctl.station.inBank = true ∧ GeneralRoom s (.lapse 2 6 14) ∧
        OnlyRecord s [] record2 [] ∧ record2.state = .held 14 false ∧ s.gate[(2 : Fin 8)].goutLow = true) ∧
    (∀ st ∈ [StationState.member, .resync],
      let s := timed (inBank st) { TimerUnit.clear with countdowns :=
        [{ resource := 15, holder := 9, grant := 1, timer := .running 0 }, countdown2 .expired] };
      s.ctl.inReset = false ∧ (∀ x ∈ [countdown2 .expired], ¬(x.resource = 15 ∧ x.holder = 9)) ∧ (9 : Station) ≠ s.self ∧
        s.timer.countdowns = [] ++ { resource := 15, holder := 9, grant := 1, timer := .running 0 } ::
          [countdown2 .expired] ∧ GeneralRoom s (.lapse 15 9 1)) := by
  refine ⟨by decide, ⟨rfl, rfl, rfl, rfl, generalRoom_of _ _ (by decide) rfl (by decide), ⟨rfl, by decide⟩, rfl,
      by decide +kernel⟩,
    fun st hst => ⟨rfl, by decide, (by decide : (9 : Station) ≠ 6), rfl, sends_nothing _ rfl _⟩⟩

/-- BLOCKED; each timer that runs out; the join wait with and without a source; the found wait with and without a
MEMBER; the image wait at attempts 1 and 2, in JOINING and in RESYNC. -/
theorem witness_OtherTimersExpire :
    (let s := timed (lineAt (inBank .member) .blocked) (timersAt (.running 0));
      s.ctl.inReset = false ∧ s.line.state = some .blocked) ∧
    (let s := timed (inBank .member) (timersAt (.running 1));
      s.ctl.inReset = false ∧ s.timer.presence ≠ .running 0 ∧ s.timer.silence[(9 : Station)] ≠ .running 0 ∧
        s.timer.joinWait ≠ .running 0 ∧ s.timer.foundWait ≠ .running 0 ∧ s.timer.imageWait ≠ .running 0) ∧
    (let s := timed (inBank .member) (timersAt (.running 0));
      s.ctl.inReset = false ∧ s.line.state ≠ some .blocked ∧ s.timer.presence = .running 0 ∧ s.listening = true ∧
        (∀ f ∈ s.sendq.frames, f.place ≠ .presence) ∧ NoneQueued s 11 ∧
        (∀ f, s.sendq.awaiting = some f → f.body ≠ .presence) ∧ s.timer.silence[(9 : Station)] = .running 0 ∧
        s.ctl.station = .member ∧ s.table.members[(9 : Station)] ≠ .absent ∧ GeneralRoom s (.evict 9)) ∧
    (∀ source ∈ [none, some (2 : Station)], let s := timed (joining 0 source false) (timersAt (.running 0));
      s.line.state ≠ some .blocked ∧ s.timer.joinWait = .running 0 ∧ s.ctl.station = .joining ∧
        s.table.members[s.self].transfer = some { attempt := 0, source := source } ∧
        s.timer.foundWait = .running 0 ∧ ∃ q : Station, s.table.members[q].isMember = true) ∧
    (let s := timed (station .joining) (timersAt (.running 0));
      s.line.state ≠ some .blocked ∧ s.timer.foundWait = .running 0 ∧ s.ctl.station = .joining ∧
        (∀ q : Station, s.table.members[q].isMember = false) ∧ GeneralRoom s (.found s.ctl.proposed)) ∧
    (let s := timed (joining 1 (some 2) true) (timersAt (.running 0));
      s.timer.imageWait = .running 0 ∧ s.table.members[s.self].transfer = some { attempt := 1, source := some 2 } ∧
        s.ctl.station = .joining ∧ GeneralRoom s (.join (1 + 1) s.ctl.proposed)) ∧
    (let s := timed (joining 2 (some 2) true) (timersAt (.running 0));
      s.timer.imageWait = .running 0 ∧ s.table.members[s.self].transfer = some { attempt := 2, source := some 2 } ∧
        s.ctl.station = .joining ∧ GateLaw s) ∧
    (let s := timed resyncing (timersAt (.running 0));
      s.line.state ≠ some .blocked ∧ s.timer.imageWait = .running 0 ∧
        s.table.members[s.self].transfer = some { attempt := 1, source := some 2 } ∧ s.ctl.station = .resync ∧
        (∃ ip, s.table.imagePending = some ip) ∧ GeneralRoom s (.sync (1 + 1))) ∧
    (let s := timed { resyncing with table := { resyncing.table with
          members := peers (.member (some { attempt := 2, source := some 2 })) } } (timersAt (.running 0));
      s.table.members[s.self].transfer = some { attempt := 2, source := some 2 } ∧ s.ctl.station = .resync ∧
        (∃ ip, s.table.imagePending = some ip) ∧ s.ctl.exhausted = false ∧ GeneralRoom s .leave) := by
  refine ⟨by decide, by decide, ⟨rfl, by decide, rfl, rfl, by decide, by unfold NoneQueued; decide, awaiting_none _ _ rfl,
      by decide +kernel, rfl,
      by decide +kernel, sends_nothing _ rfl _⟩, by decide +kernel, ⟨by decide, rfl, rfl, by decide +kernel,
      sends_nothing _ rfl _⟩, ⟨rfl, by decide +kernel, rfl, sends_nothing _ rfl _⟩, ⟨rfl, by decide +kernel, rfl, ?_⟩,
    ⟨by decide, rfl, by decide +kernel, rfl, ⟨_, rfl⟩, sends_nothing _ rfl _⟩,
    ⟨by decide +kernel, rfl, ⟨_, rfl⟩, rfl, sends_nothing _ rfl _⟩⟩
  unfold GateLaw; decide +kernel

/-- The condition of each row, with an empty send queue. -/
theorem witness_RequestsAreMadeAgain :
    (let s := timed (holding .member) { TimerUnit.clear with countdowns :=
        [{ resource := 15, holder := 9, grant := 1, timer := .expired }, countdown2 .expired] };
      s.ctl.inReset = false ∧ s.ctl.station = .member ∧ (9 : Station) ≠ s.self ∧
        s.timer.countdowns.filter (fun c => decide (c.resource = 15) && decide (c.holder = 9)) =
          [{ resource := 15, holder := 9, grant := 1, timer := .expired }] ∧
        s.timer.countdowns.filter (fun c => decide (c.resource = 2) && decide (c.holder = s.self)) =
          [{ resource := 2, holder := s.self, grant := 14, timer := .expired }] ∧ s.ctl.station.inBank = true ∧
        GeneralRoom s (.lapse 15 9 1) ∧ GeneralRoom s (.lapse 2 6 14)) ∧
    (let s := timed (inBank .member) (timersAt .expired);
      s.timer.silence[(9 : Station)] = .expired ∧ s.ctl.station = .member ∧ s.table.members[(9 : Station)] ≠ .absent ∧
        GeneralRoom s (.evict 9) ∧ s.timer.presence = .expired ∧ s.listening = true ∧
        (∀ f ∈ s.sendq.frames, f.place ≠ .presence) ∧ NoneQueued s 11 ∧
        ∀ f, s.sendq.awaiting = some f → f.body ≠ .presence) ∧
    (let s := timed (station .joining) (timersAt .expired);
      s.timer.foundWait = .expired ∧ s.ctl.station = .joining ∧ (∀ q : Station, s.table.members[q].isMember = false) ∧
        GeneralRoom s (.found s.ctl.proposed)) ∧
    (let s := timed (joining 1 (some 2) true) (timersAt .expired);
      s.timer.imageWait = .expired ∧ s.ctl.station = .joining ∧
        s.table.members[s.self].transfer = some { attempt := 1, source := some 2 } ∧
        GeneralRoom s (.join (1 + 1) s.ctl.proposed)) ∧
    (let s := inBank .resync;
      s.ctl.station = .resync ∧ s.ctl.exhausted = false ∧ s.table.imagePending = none ∧ GeneralRoom s (.sync 0)) ∧
    (let s := timed resyncing (timersAt .expired);
      s.timer.imageWait = .expired ∧ s.ctl.station = .resync ∧ (∃ ip, s.table.imagePending = some ip) ∧
        s.table.members[s.self].transfer = some { attempt := 1, source := some 2 } ∧ GeneralRoom s (.sync (1 + 1))) ∧
    (let k := { record2 with state := .held 14 true };
     let s := stacked (holding .resync) [k];
      k ∈ s.stack ∧ k.state = .held 14 true ∧ GeneralRoom s .renew) ∧
    (let k := { record2 with state := .releasing 14 true };
     let s := stacked (holding .resync) [k];
      s.stack = [] ++ [k] ∧ s.countdown 2 s.self 14 = .running 500 ∧ s.ctl.station = .resync ∧
        GeneralRoom s (.release 2 14)) ∧
    (let s := { inBank .resync with ctl := { (inBank .resync).ctl with exhausted := true } };
      s.ctl.station = .resync ∧ s.ctl.exhausted = true ∧ GeneralRoom s .leave) ∧
    (let k : Record := { resource := 9, mode := .shared, policy := .wait, state := .withdrawing .withdrawOwed };
     let s := stacked (holding .member) [record2, k];
      s.stack = [record2] ++ [k] ∧ (∀ x ∈ [record2], x.state.isPending = false) ∧ s.ctl.station = .member ∧ SlotFree s ∧
        (∀ f ∈ s.sendq.frames, f.body ≠ .withdraw k.resource) ∧
        ∀ f, s.sendq.awaiting = some f → f.body ≠ .withdraw k.resource) := by
  refine ⟨⟨rfl, rfl, by decide, by decide, by decide, rfl, sends_nothing _ rfl _, sends_nothing _ rfl _⟩,
    ⟨by decide +kernel, rfl, by decide +kernel, sends_nothing _ rfl _, rfl, rfl, by decide,
      by unfold NoneQueued; decide, awaiting_none _ _ rfl⟩,
    ⟨rfl, rfl, by decide +kernel, sends_nothing _ rfl _⟩, ⟨rfl, rfl, by decide +kernel, sends_nothing _ rfl _⟩,
    ⟨rfl, rfl, rfl, sends_nothing _ rfl _⟩, ⟨rfl, rfl, ⟨_, rfl⟩, by decide +kernel, sends_nothing _ rfl _⟩,
    ⟨by decide, rfl, sends_nothing _ rfl _⟩, ⟨rfl, by decide +kernel, rfl, sends_nothing _ rfl _⟩,
    ⟨rfl, rfl, sends_nothing _ rfl _⟩,
    ⟨rfl, by decide, rfl, slotFree_of _ (by decide) rfl, by decide, awaiting_none _ _ rfl⟩⟩

end Sys2Proof.Tests
end

/-! PROOFS. The lease table's rules: when a new claim is grantable, and which grant number a hold gets (R7, R8). -/

namespace Sys2Proof.Machine

/-! ## Counting on from a grant number (R8) -/

/-- From 0 and from 65535 the next candidate is 1, so candidates run around 1 to 65535. -/
theorem nextCandidate_toNat (g : Grant) : (nextCandidate g).toNat = g.toNat % 65535 + 1 := by
  unfold nextCandidate
  split
  next h => simp [h]
  next h => bv_omega

theorem nextCandidate_ne_zero (g : Grant) : nextCandidate g ≠ 0 := by
  have := nextCandidate_toNat g
  bv_omega

/-- The numbers of the list are the candidates that follow g, in order, none left out. -/
def CountsOnFrom (g : Grant) (l : List Grant) : Prop := (g :: l).IsChain fun a b => b = nextCandidate a

theorem countsOnFrom_cons {g x : Grant} {l : List Grant} :
    CountsOnFrom g (x :: l) ↔ x = nextCandidate g ∧ CountsOnFrom x l := List.isChain_cons_cons

@[simp] theorem countsOnFrom_singleton {g x : Grant} : CountsOnFrom g [x] ↔ x = nextCandidate g := List.isChain_pair

theorem CountsOnFrom.toNat_getElem {g : Grant} {l : List Grant} (h : CountsOnFrom g l) (i : Nat) (hi : i < l.length) :
    l[i].toNat = (g.toNat + i) % 65535 + 1 := by
  induction l generalizing g i with
  | nil => simp at hi
  | cons x l ih =>
    obtain ⟨rfl, htail⟩ := countsOnFrom_cons.mp h
    cases i with
    | zero => simpa using nextCandidate_toNat g
    | succ i =>
      have := ih htail i (by simpa using hi)
      rw [nextCandidate_toNat] at this
      simp only [List.getElem_cons_succ]
      omega

/-- No candidate comes twice before the count has gone all the way around. -/
theorem CountsOnFrom.nodup {g : Grant} {l : List Grant} (h : CountsOnFrom g l) (hl : l.length ≤ 65535) : l.Nodup := by
  refine List.pairwise_iff_getElem.mpr fun i j hi hj hij heq => ?_
  have hnat := congrArg BitVec.toNat heq
  rw [h.toNat_getElem i hi, h.toNat_getElem j hj] at hnat
  omega

/-! ## The first free number (R8) -/

/-- What the bounded count does: it passes over numbers in use only, and answers a number in use only where it has
passed over all it may. -/
theorem freshGrant_cases (used : List Grant) (n : Nat) (g : Grant) :
    ∃ passed : List Grant, passed.length ≤ n ∧ (∀ x ∈ passed, x ∈ used) ∧
      CountsOnFrom g (passed ++ [freshGrant used n g]) ∧ (freshGrant used n g ∈ used → passed.length = n) := by
  induction n generalizing g with
  | zero => exact ⟨[], by simp [freshGrant]⟩
  | succ n ih =>
    unfold freshGrant
    split
    next hused =>
      obtain ⟨passed, hlen, hmem, hcount, hfull⟩ := ih (nextCandidate g)
      exact ⟨nextCandidate g :: passed, by simpa using hlen, by simpa [hused] using hmem,
        countsOnFrom_cons.mpr ⟨rfl, hcount⟩, by simpa using hfull⟩
    next hfree => exact ⟨[], by simp [hfree]⟩

theorem freshGrant_ne_zero (used : List Grant) (n : Nat) (g : Grant) : freshGrant used n g ≠ 0 := by
  induction n generalizing g with
  | zero => exact nextCandidate_ne_zero g
  | succ n ih =>
    unfold freshGrant
    split
    · exact ih _
    · exact nextCandidate_ne_zero g

/-- With as many passes allowed as numbers in use the count ends at a free number: one more candidate than numbers in
use, all different, cannot all be in use. -/
theorem freshGrant_firstFree (used : List Grant) (g : Grant) (hused : used.length < 65535) :
    ∃ passed : List Grant, passed.length ≤ used.length ∧ (∀ x ∈ passed, x ∈ used) ∧
      CountsOnFrom g (passed ++ [freshGrant used used.length g]) ∧ freshGrant used used.length g ∉ used := by
  obtain ⟨passed, hlen, hmem, hcount, hfull⟩ := freshGrant_cases used used.length g
  refine ⟨passed, hlen, hmem, hcount, fun hin => ?_⟩
  have hnodup : (passed ++ [freshGrant used used.length g]).Nodup := hcount.nodup (by simp; omega)
  have hsub : passed ++ [freshGrant used used.length g] ⊆ used := by
    intro x hx
    rcases List.mem_append.mp hx with hx | hx
    · exact hmem x hx
    · rwa [List.mem_singleton.mp hx]
  have htoo := (List.subperm_of_subset hnodup hsub).length_le
  rw [List.length_append, hfull hin, List.length_singleton] at htoo
  omega

/-! ## The grant number of an entry (R8) -/

theorem Entry.nextGrant_ne_zero (e : Entry) : e.nextGrant ≠ 0 := freshGrant_ne_zero _ _ _

theorem Entry.nextGrant_firstFree (e : Entry) (hlen : e.holders.length < 65535) :
    ∃ passed : List Grant, passed.length ≤ e.holders.length ∧ (∀ x ∈ passed, x ∈ e.holders.map (·.grant)) ∧
      CountsOnFrom e.counter (passed ++ [e.nextGrant]) ∧ e.nextGrant ∉ e.holders.map (·.grant) := by
  simpa only [Entry.nextGrant, List.length_map] using
    freshGrant_firstFree (e.holders.map (·.grant)) e.counter (by simpa using hlen)

theorem Entry.nextGrant_not_mem (e : Entry) (hlen : e.holders.length < 65535) :
    e.nextGrant ∉ e.holders.map (·.grant) := by
  obtain ⟨_, _, _, _, hfree⟩ := e.nextGrant_firstFree hlen
  exact hfree

theorem Entry.grant_holders (e : Entry) (u : Station) (m : Mode) :
    (e.grant u m).holders = e.holders ++ [{ station := u, mode := m, grant := e.nextGrant }] := rfl

theorem Entry.grant_keeps_numbers_ne_zero (e : Entry) (u : Station) (m : Mode) (h : ∀ x ∈ e.holders, x.grant ≠ 0) :
    ∀ x ∈ (e.grant u m).holders, x.grant ≠ 0 := by
  intro x hx
  rcases List.mem_append.mp (e.grant_holders u m ▸ hx) with hold | hnew
  · exact h x hold
  · rw [List.mem_singleton.mp hnew]
    exact e.nextGrant_ne_zero

theorem Entry.grant_keeps_numbers_nodup (e : Entry) (u : Station) (m : Mode) (hlen : e.holders.length < 65535)
    (h : (e.holders.map (·.grant)).Nodup) : ((e.grant u m).holders.map (·.grant)).Nodup := by
  rw [e.grant_holders u m, List.map_append]
  exact h.append (List.nodup_singleton _) (List.disjoint_singleton.mpr (e.nextGrant_not_mem hlen))

/-! ## The statements -/

/-- Settles O18: the count of at most as many passes as there are holds ends at a free number, by counting. -/
theorem grantNumberIsTheFirstFree : Obligations.GrantNumberIsTheFirstFree := by
  intro e u m hlen
  have hshort : e.holders.length < 65535 := by omega
  obtain ⟨passed, hpassed, hmem, hcount, hfree⟩ := e.nextGrant_firstFree hshort
  exact ⟨passed, hpassed.trans hlen, hmem, hcount, e.nextGrant_ne_zero, hfree, rfl, e.grant_holders u m,
    fun hne hnd => ⟨e.grant_keeps_numbers_ne_zero u m hne, e.grant_keeps_numbers_nodup u m hshort hnd⟩⟩

/-- Settles O17, by the table unit's law of grantable claims. -/
theorem grantableClaims : Obligations.GrantableClaims := Entry.grantable_iff

end Sys2Proof.Machine

/-! PROOFS. CLAIM and WITHDRAW at the host port: what the port takes, the host slot, the operands and checks of a CLAIM,
and the top record a WITHDRAW finds (R91, R94, R95, R125, R126, R137). -/

namespace Sys2Proof.Machine

open Sys2Proof.Safety

/-! ## The port (R164, R165, R196) -/

theorem State.atPort_of {s : State} (h : TakesCommands s) (f : State → State) : s.atPort f = f s := by
  obtain ⟨hreset, harmed⟩ := h
  simp [State.atPort, hreset, harmed]

theorem State.answer_eq_answered (s : State) (c : ResultCode) : s.answer c = answered s [c.value] := rfl

theorem exec_claim {s : State} (h : TakesCommands s) (rb mp : Byte) :
    exec (.claim rb mp) s = .next (s.commandClaim rb mp) :=
  congrArg Host.Outcome.next (State.atPort_of h fun s => s.commandClaim rb mp)

theorem exec_withdraw {s : State} (h : TakesCommands s) : exec .withdraw s = .next s.commandWithdraw :=
  congrArg Host.Outcome.next (State.atPort_of h State.commandWithdraw)

/-! ## Kind and target of a frame, and the host slot (R125, R126) -/

theorem QBody.target_claim_iff (b : QBody) (r : Resource) (m : Mode) (p : Policy) :
    b.target = (QBody.claim r m p).target ↔ b.kind = 8 := by
  cases b <;> simp [QBody.target, QBody.kind]

theorem QBody.target_withdraw_iff (b : QBody) (r : Resource) : b.target = (QBody.withdraw r).target ↔ b = .withdraw r := by
  cases b <;> simp [QBody.target, QBody.kind, Fin.val_inj]

/-- A host command's frame finds the slot free and no frame of its kind and target, and becomes the latest frame. -/
theorem State.placeHost_enters {s : State} {b : QBody} (hslot : SlotFree s)
    (hnone : ∀ f ∈ s.sendq.frames, f.body.target ≠ b.target) : s.placeHost b = queuedLast s (hostFrame b) := by
  have hq : s.sendq.queued b = false := by
    rw [← Bool.not_eq_true, SendQueue.queued_iff]; simpa using hnone
  have hroom : s.sendq.hasRoom .hostSlot = true := (SendQueue.hasRoom_hostSlot s).mpr hslot
  simp only [State.placeHost, SendQueue.placeHost, hq, hroom, Bool.false_eq_true, if_false, if_true]
  rfl

theorem State.placeHost_withStack {s : State} {b : QBody} (l : List Record) (hslot : SlotFree s)
    (hnone : ∀ f ∈ s.sendq.frames, f.body.target ≠ b.target) :
    (s.withStack l).placeHost b = queuedLast { s with stack := l } (hostFrame b) :=
  State.placeHost_enters (s := s.withStack l) hslot hnone

theorem State.slotFree_iff (s : State) : s.slotFree = true ↔ SlotFree s := SendQueue.hasRoom_hostSlot s

/-! ## The operands of CLAIM (R91, R171) -/

/-- The operands are in range: a resource below the resource count, a mode nibble and a policy nibble. -/
def State.ClaimInRange (s : State) (rb mp : Byte) : Prop :=
  rb.toNat < s.count ∧ (mp.toNat / 16 = 1 ∨ mp.toNat / 16 = 2) ∧ (mp.toNat % 16 = 1 ∨ mp.toNat % 16 = 2)

/-- The mode that the high nibble names where it names one. -/
def claimMode (mp : Byte) : Mode := if mp.toNat / 16 = 1 then .shared else .exclusive

/-- The policy that the low nibble names where it names one. -/
def claimPolicy (mp : Byte) : Policy := if mp.toNat % 16 = 1 then .wait else .tryOnce

theorem highNibble_eq_iff (mp : Byte) (n : BitVec 4) : mp.extractLsb' 4 4 = n ↔ mp.toNat / 16 = n.toNat := by
  rw [← BitVec.toNat_inj, BitVec.extractLsb'_toNat, Nat.shiftRight_eq_div_pow]
  omega

theorem lowNibble_eq_iff (mp : Byte) (n : BitVec 4) : mp.extractLsb' 0 4 = n ↔ mp.toNat % 16 = n.toNat := by
  rw [← BitVec.toNat_inj, BitVec.extractLsb'_toNat, Nat.shiftRight_zero]

theorem Mode.ofNibble_high (mp : Byte) : Mode.ofNibble (mp.extractLsb' 4 4) =
    if mp.toNat / 16 = 1 ∨ mp.toNat / 16 = 2 then some (claimMode mp) else none := by
  simp only [Mode.ofNibble, claimMode, highNibble_eq_iff]
  by_cases hshared : mp.toNat / 16 = 1 <;> simp [hshared]

theorem Policy.ofNibble_low (mp : Byte) : Policy.ofNibble (mp.extractLsb' 0 4) =
    if mp.toNat % 16 = 1 ∨ mp.toNat % 16 = 2 then some (claimPolicy mp) else none := by
  simp only [Policy.ofNibble, claimPolicy, lowNibble_eq_iff]
  by_cases hwait : mp.toNat % 16 = 1 <;> simp [hwait]

theorem State.claimOperands_inRange {s : State} {rb mp : Byte} {r : Resource} (hr : rb.toNat = r.val)
    (h : s.ClaimInRange rb mp) : s.claimOperands rb mp = some (r, claimMode mp, claimPolicy mp) := by
  obtain ⟨hcount, hmode, hpolicy⟩ := h
  rw [hr] at hcount
  simp only [State.claimOperands, number16_of hr, Mode.ofNibble_high, Policy.ofNibble_low, hmode, hpolicy, hcount, if_true]

/-- Operands that name a resource, a mode and a policy name them with a byte and nibbles in range. -/
theorem State.claimOperands_outOfRange {s : State} {rb mp : Byte} (h : ¬s.ClaimInRange rb mp) :
    s.claimOperands rb mp = none := by
  unfold State.claimOperands
  split
  next r m p hr hm hp =>
    rw [if_neg]
    intro hcount
    refine h ⟨?_, ?_, ?_⟩
    · unfold number16 at hr
      split at hr
      · cases hr; exact hcount
      · cases hr
    · by_contra hmode; simp [Mode.ofNibble_high, hmode] at hm
    · by_contra hpolicy; simp [Policy.ofNibble_low, hpolicy] at hp
  next => rfl

/-! ## The checks of CLAIM after RANGE (R91) -/

theorem State.aboveTop_iff (s : State) (r : Resource) :
    s.aboveTop r = true ↔ ∀ k, s.stack.getLast? = some k → k.resource.val < r.val := by
  unfold State.aboveTop State.top
  cases s.stack.getLast? <;> simp

theorem State.topPending_iff (s : State) : s.top.any (fun k => k.state.isPending) = true ↔
    ∃ k, s.stack.getLast? = some k ∧ k.state.isPending = true := by
  unfold State.top
  cases s.stack.getLast? <;> simp

theorem State.claimCheck_full {s : State} (r : Resource) (h : 4 ≤ s.stack.length) : s.claimCheck r = .full := if_pos h

section
variable {s : State} {r : Resource}

theorem State.stack_not_full (hlen : s.stack.length < 4) : ¬Config.stackDepth ≤ s.stack.length := not_le.mpr hlen

theorem State.claimCheck_order (hlen : s.stack.length < 4)
    (h : ∃ k, s.stack.getLast? = some k ∧ r.val ≤ k.resource.val) : s.claimCheck r = .order := by
  have habove : s.aboveTop r = false := by
    rw [← Bool.not_eq_true, State.aboveTop_iff]
    obtain ⟨k, htop, hle⟩ := h
    exact fun hall => absurd (hall k htop) (by omega)
  rw [State.claimCheck, if_neg (State.stack_not_full hlen), habove]
  rfl

/-- Once FULL and ORDER pass, the top record's state and the host slot decide. -/
theorem State.claimCheck_above (hlen : s.stack.length < 4)
    (habove : ∀ k, s.stack.getLast? = some k → k.resource.val < r.val) : s.claimCheck r =
      if s.top.any (fun k => k.state.isPending) then .pending else if s.slotFree then .ok else .busy := by
  rw [State.claimCheck, if_neg (State.stack_not_full hlen), (s.aboveTop_iff r).mpr habove]
  cases s.slotFree <;> rfl

variable (hlen : s.stack.length < 4) (habove : ∀ k, s.stack.getLast? = some k → k.resource.val < r.val)
include hlen habove

theorem State.claimCheck_pending (h : ∃ k, s.stack.getLast? = some k ∧ k.state.isPending = true) :
    s.claimCheck r = .pending := by
  rw [State.claimCheck_above hlen habove, if_pos (s.topPending_iff.mpr h)]

theorem State.claimCheck_settled (h : ∀ k, s.stack.getLast? = some k → k.state.isPending = false) :
    s.claimCheck r = if s.slotFree then .ok else .busy := by
  have hpending : ¬s.top.any (fun k => k.state.isPending) = true := by
    rw [State.topPending_iff]
    rintro ⟨k, htop, hk⟩
    exact absurd hk (by simp [h k htop])
  rw [State.claimCheck_above hlen habove, if_neg hpending]

end

/-! ## CLAIM as the port takes it (R91, R171) -/

theorem exec_claim_elsewhere {s : State} (hport : TakesCommands s) (rb mp : Byte) (h : s.ctl.station ≠ .member) :
    exec (.claim rb mp) s = .next (answered s [0x03]) := by
  rw [exec_claim hport, State.commandClaim, if_neg h]
  rfl

section
variable {s : State} {rb mp : Byte} (hport : TakesCommands s) (hmember : s.ctl.station = .member)
include hport hmember

theorem exec_claim_outOfRange (h : ¬s.ClaimInRange rb mp) : exec (.claim rb mp) s = .next (answered s [0x06]) := by
  rw [exec_claim hport, State.commandClaim, if_pos hmember, State.claimOperands_outOfRange h]
  rfl

variable {r : Resource} (hr : rb.toNat = r.val) (hin : s.ClaimInRange rb mp)
include hr hin

theorem exec_claim_refused {c : ResultCode} (hcheck : s.claimCheck r = c) (hc : c ≠ .ok) :
    exec (.claim rb mp) s = .next (answered s [c.value]) := by
  rw [exec_claim hport, State.commandClaim, if_pos hmember, State.claimOperands_inRange hr hin]
  dsimp only
  split
  next hok => exact absurd (hcheck.symm.trans hok) hc
  next => rw [hcheck, State.answer_eq_answered]

theorem exec_claim_accepted (hcheck : s.claimCheck r = .ok) :
    exec (.claim rb mp) s = .next (answered (s.pushClaim r (claimMode mp) (claimPolicy mp)) [0x01]) := by
  rw [exec_claim hport, State.commandClaim, if_pos hmember, State.claimOperands_inRange hr hin]
  simp only [hcheck, State.answer_eq_answered, ResultCode.value]

end

theorem State.pushClaim_eq {s : State} (r : Resource) (m : Mode) (p : Policy) (hslot : SlotFree s)
    (hnone : NoneQueued s 8) : s.pushClaim r m p =
      queuedLast { s with stack := s.stack ++ [{ resource := r, mode := m, policy := p, state := .sending }] }
        (hostFrame (.claim r m p)) :=
  State.placeHost_withStack _ hslot fun f hf => mt (f.body.target_claim_iff r m p).mp (hnone f hf)

/-- Settles O30: the checks in their order, each reached only where those before it pass. -/
theorem claimChecksThenPushes : Obligations.ClaimChecksThenPushes := by
  intro s rb mp hport hcount
  refine ⟨exec_claim_elsewhere hport rb mp, fun hmember => ⟨exec_claim_outOfRange hport hmember, fun hin => ?_⟩⟩
  obtain ⟨r, hr⟩ : ∃ r : Resource, rb.toNat = r.val := ⟨⟨rb.toNat, by omega⟩, rfl⟩
  have refused {c : ResultCode} := exec_claim_refused (c := c) hport hmember hr hin
  refine ⟨fun hfull => refused (State.claimCheck_full r hfull) nofun, fun hlen => ⟨fun horder => ?_, fun habove => ?_⟩⟩
  · exact refused (State.claimCheck_order hlen (hr ▸ horder)) nofun
  · rw [hr] at habove
    refine ⟨fun hpending => refused (State.claimCheck_pending hlen habove hpending) nofun, fun hsettled => ?_⟩
    have hcheck := State.claimCheck_settled hlen habove hsettled
    refine ⟨fun hbusy => ?_, fun hslot hnone r' hr' => ?_⟩
    · exact refused (hcheck.trans (if_neg (mt s.slotFree_iff.mp hbusy))) nofun
    · obtain rfl : r' = r := Fin.ext (hr'.trans hr)
      rw [exec_claim_accepted hport hmember hr hin (hcheck.trans (if_pos (s.slotFree_iff.mpr hslot))),
        State.pushClaim_eq _ _ _ hslot hnone]
      rfl

/-! ## The CLAIM that a WITHDRAW finds queued (R92, R137) -/

theorem QBody.isClaimOf_iff (r : Resource) (b : QBody) : b.isClaimOf r = true ↔ ∃ m p, b = .claim r m p := by
  cases b <;> simp [QBody.isClaimOf]

theorem QBody.isClaimOf_of_kind {b : QBody} (r : Resource) (h : b.kind ≠ 8) : b.isClaimOf r = false := by
  rw [← Bool.not_eq_true, QBody.isClaimOf_iff]
  rintro ⟨m, p, rfl⟩
  exact h rfl

theorem QFrame.isQueued_iff (f : QFrame) : f.isQueued = true ↔ f.phase = .queued := by
  unfold QFrame.isQueued
  cases f.phase <;> simp

theorem State.claimQueued_false {s : State} (r : Resource)
    (h : ∀ f ∈ s.sendq.frames, f.phase = .queued → f.body.kind ≠ 8) : s.claimQueued r = false := by
  simp only [State.claimQueued, List.any_eq_false, Bool.and_eq_true, not_and, QFrame.isQueued_iff, Bool.not_eq_true]
  exact fun f hf hqueued => QBody.isClaimOf_of_kind r (h f hf hqueued)

section
variable {s : State} {before after : List QFrame} {f : QFrame} {r : Resource} {m : Mode} {p : Policy}
  (hframes : s.sendq.frames = before ++ f :: after) (hqueued : f.phase = .queued) (hbody : f.body = .claim r m p)
include hframes hqueued hbody

theorem State.claimQueued_true : s.claimQueued r = true := by
  simp [State.claimQueued, hframes, f.isQueued_iff.mpr hqueued, hbody, QBody.isClaimOf]

/-- The only CLAIM is removed, and the frames around it keep their order. -/
theorem SendQueue.removeQueued_claim (hother : ∀ x ∈ before ++ after, x.body.kind ≠ 8) :
    s.sendq.removeQueued (QBody.isClaimOf r) = { s.sendq with frames := before ++ after } := by
  have hclaim : f.body.isClaimOf r = true := (QBody.isClaimOf_iff r f.body).mpr ⟨m, p, hbody⟩
  have hkeep : (before ++ after).filter (fun x => !(x.isQueued && x.body.isClaimOf r)) = before ++ after :=
    List.filter_eq_self.mpr fun x hx => by simp [QBody.isClaimOf_of_kind r (hother x hx)]
  rw [List.filter_append] at hkeep
  rw [SendQueue.removeQueued, hframes, List.filter_append,
    List.filter_cons_of_neg (by simp [f.isQueued_iff.mpr hqueued, hclaim]), hkeep]

end

/-! ## WITHDRAW at the top record (R94, R95, R137) -/

theorem State.commandWithdraw_elsewhere {s : State} (hmember : s.ctl.station ≠ .member) (hresync : s.ctl.station ≠ .resync) :
    s.commandWithdraw = answered s [0x03] := by
  unfold State.commandWithdraw
  split
  next h => exact absurd h hmember
  next h => exact absurd h hresync
  all_goals rfl

theorem State.commandWithdraw_taken {s : State} (h : s.ctl.station = .member ∨ s.ctl.station = .resync) :
    s.commandWithdraw = s.withdrawTop := by
  unfold State.commandWithdraw
  rcases h with h | h <;> rw [h]

theorem State.withdrawTop_empty {s : State} (h : s.stack = []) : s.withdrawTop = answered s [0x09] := by
  rw [State.withdrawTop, State.top, h]
  rfl

section
variable {s : State} {below : List Record} {k : Record} (hstack : OnlyRecord s below k [])
include hstack

theorem State.top_of_only : s.top = some k := by
  obtain ⟨h, -⟩ := hstack
  rw [State.top, h, List.getLast?_concat]

theorem State.withdrawTop_nothing (hsending : k.state ≠ .sending) (hwaiting : k.state ≠ .waiting) :
    s.withdrawTop = answered s [0x09] := by
  rw [State.withdrawTop, State.top_of_only hstack]
  dsimp only
  split
  next h => exact absurd h hsending
  next h => exact absurd h hwaiting
  all_goals rfl

theorem State.withdrawTop_sending (h : k.state = .sending) : s.withdrawTop =
    if s.claimQueued k.resource then
      (((s.withSendq (s.sendq.removeQueued (QBody.isClaimOf k.resource))).withStack below).raise
        { kind := .withdrawn, subject := k.resource, grant := 0, detail := 0 }).answer .ok
    else (s.withStack (below ++ [{ k with state := .withdrawing .claimOutstanding }])).answer .ok := by
  have hpop (q : SendQueue) : (s.withSendq q).popRecord k.resource = (s.withSendq q).withStack below := by
    simpa using State.popRecord_only (s := s.withSendq q) hstack
  rw [State.withdrawTop, State.top_of_only hstack]
  simp only [h, hpop, State.setRecord_only hstack]
  rfl

theorem State.withdrawTop_waiting (h : k.state = .waiting) : s.withdrawTop =
    if s.slotFree then
      ((s.withStack (below ++ [{ k with state := .withdrawing .withdrawOwed }])).placeHost
        (.withdraw k.resource)).answer .ok
    else s.answer .busy := by
  rw [State.withdrawTop, State.top_of_only hstack]
  simp only [h, State.setRecord_only hstack]

end

/-- Settles O34, by the state of the top record and, for a SENDING one, where its CLAIM is. -/
theorem withdrawActsOnTheTop : Obligations.WithdrawActsOnTheTop := by
  intro s hport
  rw [exec_withdraw hport]
  refine ⟨fun hm hr => congrArg _ (State.commandWithdraw_elsewhere hm hr), fun htaken => ?_⟩
  rw [State.commandWithdraw_taken htaken]
  refine ⟨fun hempty => congrArg _ (State.withdrawTop_empty hempty), fun below k hstack hother => ?_⟩
  have honly : OnlyRecord s below k [] := ⟨hstack, by simpa using hother⟩
  refine ⟨fun hs hw => congrArg _ (State.withdrawTop_nothing honly hs hw), fun hsending => ?queued,
    fun hsending hnone => ?outstanding, fun hwaiting hbusy => ?busy, fun hwaiting hslot hnone => ?owed⟩
  case queued =>
    intro before f after m p hframes hqueued hbody hkinds
    rw [State.withdrawTop_sending honly hsending, if_pos (State.claimQueued_true hframes hqueued hbody),
      SendQueue.removeQueued_claim hframes hqueued hbody hkinds]
    rfl
  case outstanding =>
    rw [State.withdrawTop_sending honly hsending, State.claimQueued_false _ hnone]
    rfl
  case busy =>
    rw [State.withdrawTop_waiting honly hwaiting, if_neg (mt s.slotFree_iff.mp hbusy)]
    rfl
  case owed =>
    rw [State.withdrawTop_waiting honly hwaiting, if_pos (s.slotFree_iff.mpr hslot),
      State.placeHost_withStack _ hslot fun f hf => mt (f.body.target_withdraw_iff _).mp (hnone f hf)]
    rfl

end Sys2Proof.Machine

/-! PROOFS. The head of the send queue: what one more frame at the back does to the choice (R127). -/

namespace Sys2Proof.Machine

/-! ## The better of two frames (R127) -/

theorem SendQueue.better_of_not_queued (best : Option QFrame) {f : QFrame} (h : f.isQueued = false) :
    SendQueue.better best f = best := by
  simp [SendQueue.better, h]

theorem SendQueue.better_none {f : QFrame} (h : f.isQueued = true) : SendQueue.better none f = some f := by
  simp [SendQueue.better, h]

theorem SendQueue.better_some (b : QFrame) {f : QFrame} (h : f.isQueued = true) :
    SendQueue.better (some b) f = if f.body.kind < b.body.kind then some f else some b := by
  simp [SendQueue.better, h]

/-! ## The frame that leads a list (R127) -/

/-- A queued frame of the list, below every queued frame before it and not above any after it in kind code. -/
def Leads (f : QFrame) (l : List QFrame) : Prop :=
  ∃ before after, l = before ++ f :: after ∧ f.isQueued = true ∧
    (∀ x ∈ before, x.isQueued = true → f.body.kind < x.body.kind) ∧
    (∀ x ∈ after, x.isQueued = true → f.body.kind ≤ x.body.kind)

/-- The right choice from a list: a frame that leads it, and none where no frame is queued. -/
def IsChoice (l : List QFrame) : Option QFrame → Prop
  | none => ∀ x ∈ l, x.isQueued = false
  | some f => Leads f l

section
variable {l : List QFrame} {b f : QFrame}

theorem Leads.mem (h : Leads f l) : f ∈ l := by
  obtain ⟨before, after, rfl, -⟩ := h
  simp

theorem Leads.isQueued (h : Leads f l) : f.isQueued = true := by
  obtain ⟨_, _, _, hqueued, _⟩ := h
  exact hqueued

theorem Leads.kind_le (h : Leads f l) : ∀ x ∈ l, x.isQueued = true → f.body.kind ≤ x.body.kind := by
  obtain ⟨before, after, rfl, -, hbefore, hafter⟩ := h
  intro x hx hqueued
  rcases List.mem_append.mp hx with hx | hx
  · exact (hbefore x hx hqueued).le
  · rcases List.mem_cons.mp hx with rfl | hx
    · exact le_rfl
    · exact hafter x hx hqueued

/-- The leader stays when the frame behind the list is not queued or not lower in kind code. -/
theorem Leads.concat (h : Leads b l) (hf : f.isQueued = true → b.body.kind ≤ f.body.kind) : Leads b (l ++ [f]) := by
  obtain ⟨before, after, rfl, hqueued, hbefore, hafter⟩ := h
  refine ⟨before, after ++ [f], by simp, hqueued, hbefore, fun x hx => ?_⟩
  rcases List.mem_append.mp hx with hx | hx
  · exact hafter x hx
  · rwa [List.mem_singleton.mp hx]

/-- A queued frame behind the list leads it when it is below every queued frame of the list. -/
theorem leads_concat_self (hf : f.isQueued = true) (h : ∀ x ∈ l, x.isQueued = true → f.body.kind < x.body.kind) :
    Leads f (l ++ [f]) :=
  ⟨l, [], rfl, hf, h, List.forall_mem_nil _⟩

end

/-! ## The choice is right for every list (R127) -/

theorem IsChoice.concat {l : List QFrame} {o : Option QFrame} (h : IsChoice l o) (f : QFrame) :
    IsChoice (l ++ [f]) (SendQueue.better o f) := by
  cases hf : f.isQueued with
  | false =>
    rw [SendQueue.better_of_not_queued o hf]
    cases o with
    | none =>
      intro x hx
      rcases List.mem_append.mp hx with hx | hx
      · exact h x hx
      · rwa [List.mem_singleton.mp hx]
    | some b => exact Leads.concat h fun hqueued => absurd hqueued (by simp [hf])
  | true =>
    cases o with
    | none =>
      rw [SendQueue.better_none hf]
      exact leads_concat_self hf fun x hx hqueued => absurd hqueued (by simp [h x hx])
    | some b =>
      rw [SendQueue.better_some b hf]
      split
      next hlt => exact leads_concat_self hf fun x hx hqueued => hlt.trans_le (Leads.kind_le h x hx hqueued)
      next hge => exact Leads.concat h fun _ => not_lt.mp hge

theorem isChoice_foldl_better (l : List QFrame) : IsChoice l (l.foldl SendQueue.better none) := by
  induction l using List.reverseRecOn with
  | nil => exact List.forall_mem_nil fun x : QFrame => x.isQueued = false
  | append_singleton l f ih =>
    rw [List.foldl_concat]
    exact ih.concat f

theorem SendQueue.head_isChoice (q : SendQueue) : IsChoice q.frames q.head := isChoice_foldl_better q.frames

theorem SendQueue.head_leads {q : SendQueue} {f : QFrame} (h : q.head = some f) : Leads f q.frames := by
  have hchoice := q.head_isChoice
  rwa [h] at hchoice

theorem SendQueue.head_eq_none_iff (q : SendQueue) : q.head = none ↔ ∀ f ∈ q.frames, f.isQueued = false := by
  constructor
  · intro hnone
    have hchoice := q.head_isChoice
    rwa [hnone] at hchoice
  · intro hall
    rw [Option.eq_none_iff_forall_ne_some]
    intro f hf
    have hleads := SendQueue.head_leads hf
    exact absurd hleads.isQueued (by simp [hall f hleads.mem])

/-- Settles O22, by induction on the queue from its back: each frame taken up leaves the choice right. -/
theorem headOfTheQueue : Obligations.HeadOfTheQueue :=
  fun q => ⟨q.head_eq_none_iff, fun _ => SendQueue.head_leads⟩

end Sys2Proof.Machine

/-! PROOFS. The answers of the host port: which code a command is given and what goes with it, and the bytes of
the reads of the status, the stack and the oldest report (R164 to R166, R175, R176, R179, R180, R189). -/

namespace Sys2Proof.Machine

open Sys2Proof.Safety

/-! ## A command as the port takes it (R164) -/

/-- A command whose row acts at the port acts wherever the port takes commands. -/
theorem exec_taken {c : Instr} {s : State} (hport : TakesCommands s) (f : State → State)
    (h : exec c s = .next (s.atPort f)) : exec c s = .next (f s) :=
  h.trans (congrArg Host.Outcome.next (State.atPort_of hport f))

/-! ## The answers (R165, R166) -/

theorem State.answerData_eq_answered (s : State) (data : List Byte) :
    s.answerData data = answered s (0x01 :: data) := rfl

/-- How a command that is taken in `s` can end: with a result code alone, or with OK and data after its effects. -/
inductive Answers (s : State) : State → Prop
  | code (c : ResultCode) : Answers s (s.answer c)
  | ok (u : State) (data : List Byte) : Answers s (u.answerData data)

/-- OK without data, after a command's effects. -/
theorem Answers.done {s : State} (u : State) : Answers s (u.answer .ok) := .ok u []

theorem ResultCode.value_mem (c : ResultCode) :
    c.value ∈ ([0x01, 0x02, 0x03, 0x04, 0x05, 0x06, 0x07, 0x08, 0x09] : List Byte) := by
  cases c <;> decide

section
variable (s : State)

theorem State.configure_answers (a b c d e f : Byte) : Answers s (s.configure a b c d e f) := by
  unfold State.configure
  split
  · split
    · exact .done _
    · exact .code .range
  · exact .code .state

theorem State.commandJoin_answers : Answers s s.commandJoin := by
  unfold State.commandJoin
  split
  · exact .done _
  · exact .code .state

theorem State.commandLeave_answers : Answers s s.commandLeave := by
  unfold State.commandLeave
  split
  · split
    · exact .done _
    · exact .code .busy
  · exact .code .state

theorem State.commandClaim_answers (rb mp : Byte) : Answers s (s.commandClaim rb mp) := by
  unfold State.commandClaim
  split
  · split
    · exact .code .range
    · split
      · exact .done _
      · exact .code _
  · exact .code .state

theorem State.releaseTop_answers : Answers s s.releaseTop := by
  unfold State.releaseTop
  split
  case h_1 => exact .code .empty
  case h_2 =>
    split
    case h_1 =>
      split
      · exact .done _
      · exact .code .busy
    case h_2 | h_3 => exact .done _
    all_goals exact .code .pending

theorem State.commandRelease_answers : Answers s s.commandRelease := by
  unfold State.commandRelease
  split
  case h_1 | h_2 | h_3 => exact s.releaseTop_answers
  all_goals exact .code .state

theorem State.renewHeld_answers : Answers s s.renewHeld := by
  unfold State.renewHeld
  split
  · exact .code .none
  · split
    · exact .done _
    · split
      · exact .done _
      · exact .code .busy

theorem State.commandRenew_answers : Answers s s.commandRenew := by
  unfold State.commandRenew
  split
  case h_1 | h_2 => exact s.renewHeld_answers
  all_goals exact .code .state

theorem State.withdrawTop_answers : Answers s s.withdrawTop := by
  unfold State.withdrawTop
  split
  case h_1 => exact .code .none
  case h_2 =>
    split
    case h_1 => split <;> exact .done _
    case h_2 =>
      split
      · exact .done _
      · exact .code .busy
    all_goals exact .code .none

theorem State.commandWithdraw_answers : Answers s s.commandWithdraw := by
  unfold State.commandWithdraw
  split
  case h_1 | h_2 => exact s.withdrawTop_answers
  all_goals exact .code .state

theorem State.commandReadEntry_answers (b : Byte) : Answers s (s.commandReadEntry b) := by
  unfold State.commandReadEntry
  split
  · split
    · split
      · exact .ok s _
      · exact .code .range
    · exact .code .range
  · exact .code .state

theorem State.commandTakeReport_answers : Answers s s.commandTakeReport := by
  unfold State.commandTakeReport
  split
  · exact .code .empty
  · exact .ok _ _

theorem State.commandSetMask_answers (v : BitVec 24) : Answers s (s.commandSetMask v) := by
  unfold State.commandSetMask
  split
  · exact .done _
  · exact .code .range

end

/-- Every host port command that is taken ends in one of these ways. -/
theorem hostCommand_answers {c : Instr} {s : State} (hport : TakesCommands s) (hhost : isHostCommand c = true)
    (hwf : c.wf = true) : ∃ t, exec c s = .next t ∧ Answers s t := by
  cases c with
  | configure a b c d e f => exact ⟨_, exec_taken hport _ rfl, s.configure_answers a b c d e f⟩
  | join => exact ⟨_, exec_taken hport _ rfl, s.commandJoin_answers⟩
  | leave => exact ⟨_, exec_taken hport _ rfl, s.commandLeave_answers⟩
  | claim rb mp => exact ⟨_, exec_claim hport rb mp, s.commandClaim_answers rb mp⟩
  | release => exact ⟨_, exec_taken hport _ rfl, s.commandRelease_answers⟩
  | renew => exact ⟨_, exec_taken hport _ rfl, s.commandRenew_answers⟩
  | withdraw => exact ⟨_, exec_withdraw hport, s.commandWithdraw_answers⟩
  | readStatus => exact ⟨_, exec_taken hport _ rfl, .ok s _⟩
  | readStack => exact ⟨_, exec_taken hport _ rfl, .ok s _⟩
  | readEntry b => exact ⟨_, exec_taken hport _ rfl, s.commandReadEntry_answers b⟩
  | readMembers => exact ⟨_, exec_taken hport _ rfl, .ok s _⟩
  | takeReport => exact ⟨_, exec_taken hport _ rfl, s.commandTakeReport_answers⟩
  | setMask v => exact ⟨_, exec_taken hport _ rfl, s.commandSetMask_answers v⟩
  | reset => exact ⟨_, exec_taken hport State.commandReset rfl, .done _⟩
  | unknownCommandCode code =>
    have hunassigned : ¬assignedCodes.contains code = true := by simpa [Instr.wf] using hwf
    exact ⟨_, exec_taken hport (fun s => s.answer .range) (if_neg hunassigned), .code .range⟩
  | _ => cases hhost

section
variable {s : State}

theorem State.configure_elsewhere (a b c d e f : Byte) (h : s.ctl.station ≠ .offline) :
    s.configure a b c d e f = s.answer .state := if_neg h

theorem State.commandJoin_elsewhere (h : s.ctl.station ≠ .ready) : s.commandJoin = s.answer .state :=
  if_neg fun hboth => h hboth.1

theorem State.commandLeave_elsewhere (h : s.ctl.station ≠ .member) : s.commandLeave = s.answer .state := if_neg h

theorem State.commandRelease_elsewhere (hready : s.ctl.station ≠ .ready) (hmember : s.ctl.station ≠ .member)
    (hresync : s.ctl.station ≠ .resync) : s.commandRelease = s.answer .state := by
  unfold State.commandRelease
  split
  next h => exact absurd h hmember
  next h => exact absurd h hresync
  next h => exact absurd h hready
  all_goals rfl

theorem State.commandRenew_elsewhere (hmember : s.ctl.station ≠ .member) (hresync : s.ctl.station ≠ .resync) :
    s.commandRenew = s.answer .state := by
  unfold State.commandRenew
  split
  next h => exact absurd h hmember
  next h => exact absurd h hresync
  all_goals rfl

theorem StationState.inBank_iff (st : StationState) :
    st.inBank = true ↔ st = .member ∨ st = .leaving ∨ st = .resync := by
  cases st <;> simp [StationState.inBank]

theorem State.commandReadEntry_elsewhere (b : Byte)
    (h : ¬(s.ctl.station = .member ∨ s.ctl.station = .leaving ∨ s.ctl.station = .resync)) :
    s.commandReadEntry b = s.answer .state := if_neg (mt s.ctl.station.inBank_iff.mp h)

end

/-- A host port command given in a station state that does not take it is answered STATE before its operands are looked
at (spec 09, section 9.2). -/
theorem hostCommand_elsewhere {c : Instr} {s : State} (hport : TakesCommands s) (hhost : isHostCommand c = true)
    (h : takenIn c s.ctl.station = false) : exec c s = .next (s.answer .state) := by
  have elsewhere {f : State → State} (hexec : exec c s = .next (s.atPort f)) (hf : f s = s.answer .state) :
      exec c s = .next (s.answer .state) := (exec_taken hport f hexec).trans (congrArg _ hf)
  cases c with
  | configure a b c d e f => exact elsewhere rfl (State.configure_elsewhere a b c d e f (of_decide_eq_false h))
  | join => exact elsewhere rfl (State.commandJoin_elsewhere (of_decide_eq_false h))
  | leave => exact elsewhere rfl (State.commandLeave_elsewhere (of_decide_eq_false h))
  | claim rb mp => exact exec_claim_elsewhere hport rb mp (of_decide_eq_false h)
  | release =>
    obtain ⟨hready, hrest⟩ := not_or.mp (of_decide_eq_false h)
    obtain ⟨hmember, hresync⟩ := not_or.mp hrest
    exact elsewhere rfl (State.commandRelease_elsewhere hready hmember hresync)
  | renew =>
    obtain ⟨hmember, hresync⟩ := not_or.mp (of_decide_eq_false h)
    exact elsewhere rfl (State.commandRenew_elsewhere hmember hresync)
  | withdraw =>
    obtain ⟨hmember, hresync⟩ := not_or.mp (of_decide_eq_false h)
    exact elsewhere rfl (State.commandWithdraw_elsewhere hmember hresync)
  | readEntry b => exact elsewhere rfl (State.commandReadEntry_elsewhere b (of_decide_eq_false h))
  | _ => exact absurd (h.symm.trans hhost) nofun

/-- Settles O26, by the two ways in which a command that is taken can end. -/
theorem refusedCommandsChangeNothing : Obligations.RefusedCommandsChangeNothing := by
  intro c s hport hhost hwf
  obtain ⟨t, ht, hans⟩ := hostCommand_answers hport hhost hwf
  have hresponse (h : takenIn c s.ctl.station = false) : t.port.response = [0x03] :=
    congrArg (·.port.response) (Host.Outcome.next.inj (ht.symm.trans (hostCommand_elsewhere hport hhost h)))
  cases hans with
  | code r =>
    exact ⟨_, r.value, [], ht, rfl, r.value_mem, fun _ => ⟨rfl, rfl⟩, fun h => (List.cons.inj (hresponse h)).1⟩
  | ok u data =>
    refine ⟨_, 0x01, data, ht, rfl, ResultCode.value_mem .ok, fun h => absurd rfl h, fun h => ?_⟩
    exact (List.cons.inj (hresponse h)).1

/-! ## Fields within a byte and over two bytes (R147, R176, R180) -/

theorem toNat_append_eq_add {n m : Nat} (x : BitVec n) (y : BitVec m) : (x ++ y).toNat = x.toNat * 2 ^ m + y.toNat := by
  rw [BitVec.toNat_append, ← Nat.shiftLeft_add_eq_or_of_lt y.isLt, Nat.shiftLeft_eq]

@[simp] theorem highNibble_toNat (n : Fin 16) : (highNibble n).toNat = n.val := by
  simp [highNibble]

theorem bytes_toNat (v : BitVec 16) : 256 * (hiByte v).toNat + (loByte v).toNat = v.toNat := by
  simp only [hiByte, loByte, BitVec.extractLsb'_toNat, Nat.shiftRight_eq_div_pow]
  omega

@[simp] theorem Mode.bit_toNat (m : Mode) : m.bit.toNat = if m = .exclusive then 1 else 0 := by
  cases m <;> rfl

@[simp] theorem Policy.bit_toNat (p : Policy) : p.bit.toNat = if p = .tryOnce then 1 else 0 := by
  cases p <;> rfl

/-! ## READ STATUS (R175) -/

theorem State.statusFlags_eq (s : State) : s.statusFlags =
    BitVec.ofNat 8 ((if s.port.lost then 1 else 0) + if s.table.bank.isSome then 2 else 0) := by
  unfold State.statusFlags
  cases s.port.lost <;> cases s.table.bank.isSome <;> rfl

theorem State.statusBytes_eq (s : State) {code : Byte} (hcode : s.ctl.station.code = code) : s.statusBytes =
    [code, BitVec.ofNat 8 s.ctl.number.val, BitVec.ofNat 8 s.stack.length, BitVec.ofNat 8 s.sendq.frames.length,
     BitVec.ofNat 8 s.port.reports.length,
     BitVec.ofNat 8 ((if s.port.lost then 1 else 0) + if s.table.bank.isSome then 2 else 0),
     BitVec.ofNat 8 ((List.finRange 16).filter fun p => s.table.members[p].isMember).length] := by
  rw [State.statusBytes, hcode, State.statusFlags_eq, State.memberCount, all16_eq_finRange]
  rfl

/-! ## READ STACK (R176) -/

theorem State.stackBytes_eq (s : State) :
    s.stackBytes = BitVec.ofNat 8 s.stack.length :: ((List.range 4).map s.slotBytes).flatten := by
  simp [State.stackBytes, List.range_succ]

theorem State.slot_getElem? (s : State) {j : Nat} (h : j < 4) :
    ((List.range 4).map s.slotBytes)[j]? = some (s.slotBytes j) := by
  rw [List.getElem?_map, List.getElem?_range h, Option.map_some]

theorem State.slotBytes_empty {s : State} {j : Nat} (h : s.stack.length ≤ j) : s.slotBytes j = [0, 0, 0, 0] := by
  rw [State.slotBytes, List.getElem?_eq_none h]

theorem State.slotBytes_record {s : State} {j : Nat} {k : Record} (h : s.stack[j]? = some k) :
    s.slotBytes j = k.slotBytes := by
  rw [State.slotBytes, h]

/-- The first byte of a record's slot: resource, mode, policy, renewal pending, withdraw owed. -/
def Record.fieldsByte (k : Record) : Byte :=
  highNibble k.resource ++ k.mode.bit ++ k.policy.bit ++ BitVec.ofBool k.renewalPending ++ BitVec.ofBool k.owesWithdraw

theorem Record.slotBytes_eq (k : Record) : k.slotBytes =
    [k.fieldsByte, k.state.code, hiByte (k.state.grant.getD 0), loByte (k.state.grant.getD 0)] := rfl

theorem Record.fieldsByte_toNat (k : Record) : k.fieldsByte.toNat =
    16 * k.resource.val + (if k.mode = .exclusive then 8 else 0) + (if k.policy = .tryOnce then 4 else 0) +
      (if k.renewalPending then 2 else 0) + (if k.state = .withdrawing .withdrawOwed then 1 else 0) := by
  simp only [Record.fieldsByte, Record.owesWithdraw, toNat_append_eq_add, highNibble_toNat, Mode.bit_toNat,
    Policy.bit_toNat, BitVec.toNat_ofBool, Bool.toNat, cond_eq_ite, decide_eq_true_eq]
  split_ifs <;> omega

/-- Settles O35: the flags and the member count of the status byte by byte, and each slot of the stack as its record's
four bytes. -/
theorem readStatusAndStackBytes : Obligations.ReadStatusAndStackBytes := by
  intro s hport
  refine ⟨?status, fun hdepth => ⟨(List.range 4).map s.slotBytes, ?stack, by simp, ?empty, ?record⟩⟩
  case status =>
    refine (exec_taken hport _ rfl).trans (congrArg (fun b => Host.Outcome.next (s.answerData b)) (s.statusBytes_eq ?_))
    cases s.ctl.station <;> rfl
  case stack =>
    refine (exec_taken hport (fun s => s.answerData s.stackBytes) rfl).trans ?_
    rw [State.stackBytes_eq, State.answerData_eq_answered]
  case empty =>
    intro j hempty hj
    rw [State.slot_getElem? s hj, State.slotBytes_empty hempty]
  case record =>
    intro j k hk
    have hj : j < 4 := by
      obtain ⟨hlt, -⟩ := List.getElem?_eq_some_iff.mp hk
      omega
    refine ⟨k.fieldsByte, k.state.code, _, _, ?_, k.fieldsByte_toNat, bytes_toNat _, ?_⟩
    · rw [State.slot_getElem? s hj, State.slotBytes_record hk, Record.slotBytes_eq]
    · cases k.state <;> rfl

/-! ## TAKE REPORT (R179, R180, R189) -/

theorem State.commandTakeReport_empty {s : State} (h : s.port.reports = []) :
    s.commandTakeReport = answered s [0x07] := by
  rw [State.commandTakeReport, h]
  rfl

theorem State.commandTakeReport_oldest {s : State} {r : Report} {rest : List Report} (h : s.port.reports = r :: rest) :
    s.commandTakeReport = { s with port := { s.port with
      reports := rest, lost := s.port.lost && !rest.isEmpty, response := 0x01 :: r.bytes } } := by
  rw [State.commandTakeReport, h]
  rfl

/-- Settles O38, by whether a report is queued. -/
theorem takeReportReturnsTheOldest : Obligations.TakeReportReturnsTheOldest := by
  intro s hport
  rw [exec_taken hport State.commandTakeReport rfl]
  refine ⟨fun hempty => congrArg _ (State.commandTakeReport_empty hempty), fun r rest hreports => ?_⟩
  refine ⟨highNibble r.subject ++ r.detail, hiByte r.grant, loByte r.grant, ?_, ?_, bytes_toNat r.grant⟩
  · rw [State.commandTakeReport_oldest hreports]
    rfl
  · rw [toNat_append_eq_add, highNibble_toNat]
    omega

end Sys2Proof.Machine

/-! PROOFS. The report queue under a run of raised reports, and when ATTN is asserted (R181, R186, R188, R192). -/

namespace Sys2Proof.Machine

/-! ## Raising one report after another (R186, R188) -/

/-- The port after these reports have been raised, in one step: the first sixteen places are kept, and what overflows
them sets the lost flag (`State.foldl_raise` ties it to the model). -/
def HostPort.queueAll (p : HostPort) (rs : List Report) : HostPort :=
  { p with reports := (p.reports ++ rs).take 16, lost := p.lost || decide (16 < (p.reports ++ rs).length) }

theorem HostPort.queueAll_length_le (p : HostPort) (rs : List Report) : (p.queueAll rs).reports.length ≤ 16 :=
  List.length_take_le ..

/-- Where all of them fit, they are appended and nothing is lost. -/
theorem HostPort.queueAll_of_fits {p : HostPort} {rs : List Report} (h : (p.reports ++ rs).length ≤ 16) :
    p.queueAll rs = { p with reports := p.reports ++ rs } := by
  have hnone : decide (16 < (p.reports ++ rs).length) = false := decide_eq_false (by omega)
  rw [HostPort.queueAll, List.take_of_length_le h, hnone, Bool.or_false]

/-- A further report against sixteen is discarded and sets the lost flag alone. -/
theorem HostPort.queueAll_of_full {p : HostPort} (h : p.reports.length = 16) (r : Report) :
    p.queueAll [r] = { p with lost := true } := by
  have hover : decide (16 < (p.reports ++ [r]).length) = true := decide_eq_true (by simp [h])
  rw [HostPort.queueAll, List.take_left' h, hover, Bool.or_true]

/-- Cutting the queue to sixteen between two batches loses nothing that the cut after both would keep, and forgets no
overflow. -/
theorem HostPort.queueAll_append (p : HostPort) (rs ts : List Report) :
    (p.queueAll rs).queueAll ts = p.queueAll (rs ++ ts) := by
  have hreports : ((p.reports ++ rs).take 16 ++ ts).take 16 = (p.reports ++ (rs ++ ts)).take 16 := by
    rw [← List.append_assoc, List.take_append, List.take_append (l₁ := p.reports ++ rs), List.take_take,
      List.length_take]
    congr 2
    omega
  have hlost : (16 < (p.reports ++ rs).length ∨ 16 < ((p.reports ++ rs).take 16 ++ ts).length) ↔
      16 < (p.reports ++ (rs ++ ts)).length := by
    simp only [List.length_append, List.length_take]
    omega
  rw [HostPort.queueAll, HostPort.queueAll, HostPort.queueAll, Bool.or_assoc, ← Bool.decide_or, hreports,
    decide_eq_decide.mpr hlost]

/-- One raise is a batch of one. -/
theorem State.raise_eq_queueAll {s : State} (h : s.port.reports.length ≤ 16) (r : Report) :
    s.raise r = s.withPort (s.port.queueAll [r]) := by
  rw [State.raise_eq, State.raise_port]
  split
  next hroom => rw [HostPort.queueAll_of_fits (by simpa using hroom)]
  next hfull => rw [HostPort.queueAll_of_full (by omega)]

theorem State.foldl_raise (rs : List Report) (s : State) (h : s.port.reports.length ≤ 16) :
    rs.foldl State.raise s = s.withPort (s.port.queueAll rs) := by
  induction rs generalizing s with
  | nil =>
    rw [HostPort.queueAll_of_fits (by simpa using h), List.append_nil]
    rfl
  | cons r rs ih =>
    calc (r :: rs).foldl State.raise s
      _ = rs.foldl State.raise (s.withPort (s.port.queueAll [r])) := by
        rw [List.foldl_cons, State.raise_eq_queueAll h]
      _ = s.withPort ((s.port.queueAll [r]).queueAll rs) := ih _ (HostPort.queueAll_length_le ..)
      _ = s.withPort (s.port.queueAll (r :: rs)) := by rw [HostPort.queueAll_append, List.singleton_append]

/-- Settles O24, by induction on the raised reports: each raise is a batch of one, and batches add up. -/
theorem fullQueueDiscards : Obligations.FullQueueDiscards := fun s rs h => State.foldl_raise rs s h

/-! ## The attention output (R181, R192) -/

theorem HostPort.any_enables_iff (p : HostPort) :
    p.reports.any p.enables = true ↔ ∃ r ∈ p.reports, p.mask.getLsbD (r.kind.code - 1) = true :=
  List.any_eq_true

/-- Settles O25: out of reset, one disjunct for the lost flag and one for the enabled reports. -/
theorem attentionOutput : Obligations.AttentionOutput := by
  intro s
  rw [State.attn, Bool.and_eq_true, Bool.or_eq_true, Bool.not_eq_true', HostPort.any_enables_iff]

end Sys2Proof.Machine

/-! PROOFS. The step and its queue, the times derived from the parameters, the choice of an image source, promotion in an
entry, and what a request of a block does (R12, R32, R34, R48, R125). -/

namespace Sys2Proof.Machine

open Sys2Proof.Safety

/-! ## The step (R48) -/

/-- Settles O1: the definition of a step, at a queue that is not empty. -/
theorem stepRunsTheFrontCommand : Obligations.StepRunsTheFrontCommand := fun _ _ _ => rfl

/-- Settles O21, by the definitions of the four times. -/
theorem derivedTimes : Obligations.DerivedTimes :=
  ⟨fun p _ => ⟨by simp only [Params.silenceLimitMs, Params.presenceMs, Config.stepMs], rfl, rfl, rfl⟩,
    rfl, rfl, rfl, rfl, rfl, rfl⟩

/-- Settles O40: the two arms of the framing test. -/
theorem unknownCodesAreOutOfRange : Obligations.UnknownCodesAreOutOfRange := by
  intro s code
  refine ⟨fun hunknown hport => ?_, fun hassigned => if_pos (by simpa using hassigned)⟩
  exact exec_taken hport (fun s => s.answer .range) (if_neg (by simpa using hunknown))

/-! ## A running timer at the tick (R48, R67) -/

theorem State.advance_frame (s : State) :
    (s.advance).ctl = s.ctl ∧ (s.advance).table = s.table ∧ (s.advance).sendq = s.sendq ∧
    (s.advance).stack = s.stack ∧ (s.advance).gate = s.gate ∧ (s.advance).line = s.line ∧
    (s.advance).port = s.port ∧ (s.advance).pending = s.pending ∧
    (s.advance).timer.foundRank = s.timer.foundRank ∧
    (s.advance).timer.countdowns = s.timer.countdowns.map fun c => { c with timer := c.timer.tick } := by
  unfold State.advance
  dsimp only
  split <;> simp

theorem State.advance_frozen {s : State} (h : s.frozen = true) :
    (s.advance).timer.presence = s.timer.presence ∧ (s.advance).timer.silence = s.timer.silence ∧
    (s.advance).timer.joinWait = s.timer.joinWait ∧ (s.advance).timer.foundWait = s.timer.foundWait ∧
    (s.advance).timer.imageWait = s.timer.imageWait := by
  simp [State.advance, h]

theorem State.advance_unfrozen {s : State} (h : s.frozen = false) :
    (s.advance).timer.presence = s.timer.presence.tick ∧
    (∀ p : Station, (s.advance).timer.silence[p] = s.timer.silence[p].tick) ∧
    (s.advance).timer.joinWait = s.timer.joinWait.tick ∧ (s.advance).timer.foundWait = s.timer.foundWait.tick ∧
    (s.advance).timer.imageWait = s.timer.imageWait.tick := by
  simp [State.advance, h]

@[simp] theorem mem_commandIf (b : Bool) (c d : Instr) : c ∈ commandIf b d ↔ b = true ∧ c = d := by
  cases b <;> simp [commandIf]

@[simp] theorem mem_insertCountdown (c d : Countdown) (l : List Countdown) :
    d ∈ insertCountdown c l ↔ d = c ∨ d ∈ l := by
  induction l with
  | nil => simp [insertCountdown]
  | cons x l ih =>
    unfold insertCountdown
    split
    · simp
    · simp [ih, or_left_comm]

@[simp] theorem mem_sortCountdowns (d : Countdown) (l : List Countdown) : d ∈ sortCountdowns l ↔ d ∈ l := by
  induction l with
  | nil => simp [sortCountdowns]
  | cons x l ih => simp [sortCountdowns, ih]

theorem State.tick_of {s : State} (h : s.ctl.inReset = false) :
    s.tick = (s.advance).withPending (s.pending ++ (s.advance).tickCommands) := State.awake_of h _

/-- What is due at the tick waits as an expiry, the join wait's as the last command. -/
theorem State.due_mem_tickCommands (s : State) :
    (∀ c ∈ s.timer.countdowns, c.timer = .running 0 → .holdCountdownExpiry c.resource c.holder ∈ s.tickCommands) ∧
    (s.frozen = false →
      (s.timer.presence = .running 0 → .presenceTimerExpiry ∈ s.tickCommands) ∧
      (∀ p : Station, s.timer.silence[p] = .running 0 → .silenceTimerExpiry p ∈ s.tickCommands) ∧
      (s.timer.joinWait = .running 0 → ∃ before, s.tickCommands = before ++ [.joinWaitExpiry]) ∧
      (s.timer.foundWait = .running 0 → .foundWaitExpiry ∈ s.tickCommands) ∧
      (s.timer.imageWait = .running 0 → .imageWaitExpiry ∈ s.tickCommands)) := by
  have due {t : Timer} (ht : t = .running 0) : t.due = true := decide_eq_true ht
  refine ⟨fun c hc ht => ?_, fun hf => ?_⟩
  · simp only [State.tickCommands, List.mem_append, List.mem_flatMap]
    exact Or.inl <| Or.inl <| Or.inl <| Or.inl <| Or.inl <| Or.inl <| Or.inl <| Or.inl <| Or.inl <| Or.inl <|
      Or.inl <| Or.inr ⟨c, by simpa using hc, by simp [State.countdownCommands, due ht]⟩
  · have isDue {t : Timer} (ht : t = .running 0) : s.isDue t = true := by simp [State.isDue, due ht, hf]
    refine ⟨fun h => ?_, fun p h => ?_, fun h => ?_, fun h => ?_, fun h => ?_⟩
    · simp [State.tickCommands, isDue h]
    · simp only [State.tickCommands, List.mem_append, List.mem_flatMap]
      exact Or.inl <| Or.inl <| Or.inl <| Or.inl <| Or.inl <| Or.inl <| Or.inl <| Or.inl <| Or.inl <| Or.inl <|
        Or.inl <| Or.inl <| Or.inr ⟨p, mem_all16 p, by simpa [State.silenceCommands] using isDue h⟩
    · rw [State.tickCommands, isDue h]
      exact ⟨_, rfl⟩
    · simp [State.tickCommands, isDue h]
    · cases hl : s.imageWaitLeaves <;> simp [State.tickCommands, isDue h, hl]

/-- Settles O2: the tick advances the timers that are not frozen, and what is due joins the queue. -/
theorem idleStepIsTheTick : Obligations.IdleStepIsTheTick := by
  intro s hempty
  have hstep : step s = .next s.tick := by rw [step, hempty]
  refine ⟨fun hreset => ?_, fun hreset => ⟨_, hstep, ?_⟩⟩
  · rw [hstep, State.tick, State.awake, if_pos hreset]
  obtain ⟨hctl, htable, hsendq, hstack, hgate, hline, hport, -, hrank, hcount⟩ := s.advance_frame
  obtain ⟨hholds, hothers⟩ := (s.advance).due_mem_tickCommands
  rw [State.tick_of hreset, hempty, List.nil_append]
  simp only [State.withPending_ctl, State.withPending_table, State.withPending_sendq, State.withPending_stack,
    State.withPending_gate, State.withPending_line, State.withPending_port, State.withPending_timer,
    State.withPending_pending]
  refine ⟨hctl, htable, hsendq, hstack, hgate, hline, hport, hrank, hcount, hholds,
    fun hblocked => State.advance_frozen (decide_eq_true hblocked), fun hfree => ?_⟩
  obtain ⟨hp, hs, hj, hf, hi⟩ := State.advance_unfrozen (s := s) (decide_eq_false hfree)
  refine ⟨hp, hs, hj, hf, hi, hothers ?_⟩
  rw [State.frozen, hline]
  exact decide_eq_false hfree

/-! ## The image source (R34) -/

theorem mem_eligible {members : Vector MemberRecord 16} {u p : Station} :
    p ∈ eligible members u ↔ p ≠ u ∧ members[p].isMember = true := by
  simp [eligible, mem_all16]

theorem chooseSource_mem {members : Vector MemberRecord 16} {u p : Station} {a : Fin 4}
    (h : chooseSource members u a = some p) : p ≠ u ∧ members[p].isMember = true :=
  mem_eligible.mp (List.mem_of_getElem? h)

/-- A source is chosen wherever some other station is MEMBER. -/
theorem chooseSource_eq_none_iff {members : Vector MemberRecord 16} {u : Station} {a : Fin 4} :
    chooseSource members u a = none ↔ eligible members u = [] := by
  unfold chooseSource
  rw [List.getElem?_eq_none_iff]
  constructor
  · intro h
    by_contra hne
    have := Nat.mod_lt a.val (List.length_pos_iff.mpr hne)
    omega
  · rintro h; simp [h]

/-- In a strictly rising list the elements below the one at an index are those before it. -/
theorem length_filter_lt_of_pairwise {l : List Station} (h : l.Pairwise (· < ·)) {i : Nat} {p : Station}
    (hp : l[i]? = some p) : (l.filter fun q => decide (q < p)).length = i := by
  induction l generalizing i with
  | nil => simp at hp
  | cons x l ih =>
    obtain ⟨hx, hl⟩ := List.pairwise_cons.mp h
    cases i with
    | zero =>
      obtain rfl : x = p := by simpa using hp
      have hnone : l.filter (fun q => decide (q < x)) = [] :=
        List.filter_eq_nil_iff.mpr fun q hq => by simpa using (hx q hq).le
      simp [hnone]
    | succ i =>
      have hp' : l[i]? = some p := by simpa using hp
      have hlt : x < p := hx p (List.mem_of_getElem? hp')
      simp [hlt, ih hl hp']

/-- Settles O20: the eligible stations stand in ascending order, so an index counts those below. -/
theorem imageSourceByIndex : Obligations.ImageSourceByIndex := by
  intro members u a
  refine ⟨?_, fun p hp => ?_⟩
  · rw [chooseSource_eq_none_iff, List.eq_nil_iff_forall_not_mem]
    simp only [mem_eligible, not_and, Bool.not_eq_true]
  · obtain ⟨hne, hmember⟩ := chooseSource_mem hp
    refine ⟨hne, hmember, ?_⟩
    have hrising : (eligible members u).Pairwise (· < ·) :=
      List.Pairwise.filter _ (by decide : all16.Pairwise (· < ·))
    have hindex := length_filter_lt_of_pairwise hrising hp
    rw [eligible, all16_eq_finRange, List.filter_filter] at hindex
    simpa [Bool.and_assoc, eligible, all16_eq_finRange] using hindex

/-! ## Promotion in an entry (R12) -/

theorem Entry.promotable_iff (e : Entry) (m : Mode) :
    e.promotable m = true ↔ e.state = .free ∨ (e.state = .shared ∧ m = .shared) := by
  unfold Entry.promotable
  cases e.state <;> simp

theorem Entry.promoteOver_cons (e : Entry) (w : Waiter) (ws : List Waiter) :
    e.promoteOver (w :: ws) =
      if e.promotable w.mode then (e.grant w.station w.mode).promoteOver ws else { e with waiters := w :: ws } := rfl

/-- Promotion over a list of waiters does not look at the waiters the entry has. -/
theorem Entry.promoteOver_withWaiters (e : Entry) (l ws : List Waiter) :
    ({ e with waiters := l }).promoteOver ws = e.promoteOver ws := by
  induction ws generalizing e l with
  | nil => rfl
  | cons w ws ih =>
    rw [Entry.promoteOver_cons, Entry.promoteOver_cons]
    have hgrant : ({ e with waiters := l } : Entry).grant w.station w.mode =
        { e.grant w.station w.mode with waiters := l } := rfl
    rw [hgrant, ih]
    rfl

/-- Promotion grants a front part of the queue and stops at a waiter that is not grantable. -/
theorem Entry.promoteOver_spec (e : Entry) (ws : List Waiter) :
    (∃ n, (e.promoteOver ws).waiters = ws.drop n ∧
      (e.promoteOver ws).holders.map (fun h => (h.station, h.mode)) =
        e.holders.map (fun h => (h.station, h.mode)) ++ (ws.take n).map fun w => (w.station, w.mode)) ∧
    ∀ w rest, (e.promoteOver ws).waiters = w :: rest → (e.promoteOver ws).promotable w.mode = false := by
  induction ws generalizing e with
  | nil => exact ⟨⟨0, by simp [Entry.promoteOver]⟩, by simp [Entry.promoteOver]⟩
  | cons w ws ih =>
    rw [Entry.promoteOver_cons]
    split
    next hgrantable =>
      obtain ⟨⟨n, hwaiters, hholders⟩, hstop⟩ := ih (e.grant w.station w.mode)
      exact ⟨⟨n + 1, hwaiters, by simp [hholders, Entry.grant_holders]⟩, hstop⟩
    next hnot =>
      refine ⟨⟨0, by simp⟩, fun x rest hx => ?_⟩
      obtain ⟨rfl, -⟩ := List.cons.inj hx
      simpa [Entry.promotable] using hnot

theorem Entry.promote_of_empty {e : Entry} (h : e.waiters = []) : e.promote = e := by
  rw [Entry.promote, h, Entry.promoteOver, ← h]

theorem Entry.promote_of_grantable {e : Entry} {w : Waiter} {ws : List Waiter} (hw : e.waiters = w :: ws)
    (h : e.promotable w.mode = true) : e.promote = ({ e.grant w.station w.mode with waiters := ws }).promote := by
  rw [Entry.promote, hw, Entry.promoteOver_cons, if_pos h]
  exact (Entry.promoteOver_withWaiters ..).symm

theorem Entry.promote_of_not_grantable {e : Entry} {w : Waiter} {ws : List Waiter} (hw : e.waiters = w :: ws)
    (h : e.promotable w.mode = false) : e.promote = e := by
  rw [Entry.promote, hw, Entry.promoteOver_cons, if_neg (by simp [h]), ← hw]

/-- Settles O19, by recursion over the queue. -/
theorem promotionGrantsTheFrontOfTheQueue : Obligations.PromotionGrantsTheFrontOfTheQueue := by
  intro e
  obtain ⟨hfront, hstop⟩ := e.promoteOver_spec e.waiters
  refine ⟨Entry.promote_of_empty, fun w ws hw => ⟨fun h => ?_, fun h => ?_⟩, hfront, fun w ws hw => ?_⟩
  · exact Entry.promote_of_grantable hw ((e.promotable_iff _).mpr h)
  · exact Entry.promote_of_not_grantable hw (by rwa [← e.promotable_iff, Bool.not_eq_true] at h)
  · rw [← Entry.promotable_iff, Bool.not_eq_true]
    exact hstop w ws hw

/-! ## Requests (R125) -/

theorem SendQueue.request_of_satisfied {q : SendQueue} {b : QBody} {p : Place}
    (h : (∃ f ∈ q.frames, f.body.target = b.target) ∨ ∃ f, q.awaiting = some f ∧ f.body.target = b.target) :
    q.request b p = q := by
  rw [← SendQueue.queued_iff, ← SendQueue.delivered_iff, ← Bool.or_eq_true] at h
  rw [SendQueue.request, if_pos h]

theorem SendQueue.request_of_no_room {q : SendQueue} {b : QBody} {p : Place} (h : q.hasRoom p = false) :
    q.request b p = q := by
  unfold SendQueue.request
  rw [h]
  simp

/-- Settles O23: the three branches of a request. -/
theorem requestsEnterLast : Obligations.RequestsEnterLast := by
  intro s b p
  refine ⟨fun h => ?_, fun h => ⟨fun hroom => ?_, fun hroom => ?_⟩⟩
  · rw [State.request, SendQueue.request_of_satisfied h]
    rfl
  · rw [State.request, SendQueue.request_of_no_room hroom]
    rfl
  · obtain ⟨hqueued, hdelivered⟩ := not_or.mp h
    rw [State.request, SendQueue.request_enters _ _ _ (by simpa using hqueued) (by simpa using hdelivered) hroom]
    rfl

end Sys2Proof.Machine

/-! PROOFS. The resets and the pins: the laws of the state after reset, what a station held in reset ignores, the three
resets, the GIN inputs, and the mask (R115, R117, R163, R181, R182, R195 to R197). -/

namespace Sys2Proof.Machine

open Sys2Proof.Safety

/-! ## The clear blocks (R28, R30, R49) -/

@[simp] theorem TableUnit.clear_entries (r : Resource) : TableUnit.clear.entries[r] = Entry.clear := by
  simp [TableUnit.clear]

@[simp] theorem TableUnit.clear_members (p : Station) : TableUnit.clear.members[p] = .absent := by
  simp [TableUnit.clear]

@[simp] theorem TimerUnit.clear_silence (p : Station) : TimerUnit.clear.silence[p] = .stopped := by
  simp [TimerUnit.clear]

@[simp] theorem Entry.clear_holds (h : Station) (g : Grant) : Entry.clear.holds h g = false := rfl

@[simp] theorem closedGates_getElem (g : Vector Channel 8) (n : Fin 8) :
    (closedGates g)[n] = { opened := false, armed := false, ginLow := g[n].ginLow } := by
  simp [closedGates]

theorem membersLawful_iff (members : Vector MemberRecord 16) :
    membersLawful members = true ↔ ∀ p : Station, members[p].lawful p = true := by
  simp [membersLawful, mem_all16]

theorem membersLawful_clear : membersLawful TableUnit.clear.members = true :=
  (membersLawful_iff _).mpr fun p => by simp only [TableUnit.clear_members]; rfl

/-- Tables and timers that are clear keep their laws, whatever the line and the send queue carry. -/
theorem laws_of_clear {s : State} (ht : s.table = TableUnit.clear) (hc : s.timer.countdowns = []) :
    (∀ r, (s.entry r).lawful = true) ∧ membersLawful s.table.members = true ∧ UnusedLaw s ∧ CountdownLaw s := by
  have hentry : ∀ r, s.entry r = Entry.clear := fun r => by rw [State.entry, ht, TableUnit.clear_entries]
  refine ⟨fun r => by rw [hentry]; rfl, by rw [ht]; exact membersLawful_clear, fun r _ => hentry r, ?_, ?_⟩
  · intro r h g
    rw [hentry, hc]
    rfl
  · rw [hc]
    exact List.nodup_nil

/-- Settles O13, block by block: everything is clear. -/
theorem resetKeepsEveryLaw : Obligations.ResetKeepsEveryLaw := by
  obtain ⟨hentries, hmembers, hunused, hcountdowns⟩ := laws_of_clear (s := State.reset) rfl rfl
  refine ⟨⟨hentries, hmembers, List.forall_mem_nil _, List.forall_mem_nil _⟩, hunused, hcountdowns, ?stack, ?gate,
    ?queue, ?line, ?report, ?config, ?transfer, ?quiet⟩
  case stack => exact ⟨by decide, List.Pairwise.nil, List.forall_mem_nil _⟩
  case gate => unfold GateLaw; decide
  case queue => exact ⟨by decide, by decide, by decide, by decide, List.nodup_nil⟩
  case line => exact ⟨rfl, nofun, fun _ => rfl, by decide, by decide, by decide⟩
  case report => exact ⟨by decide, nofun, List.forall_mem_nil _⟩
  case config => exact ⟨by decide, by decide⟩
  case transfer => exact ⟨fun h => absurd rfl h, List.nodup_nil, List.forall_mem_nil _⟩
  case quiet =>
    exact ⟨fun _ => ⟨rfl, rfl, rfl, rfl, nofun, rfl, by decide⟩, fun _ => rfl, nofun, nofun, nofun, nofun⟩

/-! ## Held in reset (R196) -/

theorem State.awake_inReset {s : State} (h : s.ctl.inReset = true) (f : State → State) : s.awake f = s := if_pos h

theorem State.atPort_inReset {s : State} (h : s.ctl.inReset = true) (f : State → State) : s.atPort f = s := by
  simp [State.atPort, h]

/-- The ways in which a row other than the reset pins, the GIN inputs and an assigned code is taken: at the port, or by
a meaning that acts out of reset alone. -/
theorem exec_atPort_or_awake {c : Instr} (hwf : c.wf = true) (h : actsInReset c = false) :
    ∃ f : State → State, (∀ s, exec c s = .next (s.atPort f)) ∨ ∀ s, exec c s = .next (s.awake f) := by
  cases c with
  | unknownCommandCode code =>
    have hunknown : ¬assignedCodes.contains code = true := by simpa [Instr.wf] using hwf
    exact ⟨fun s => s.answer .range, .inl fun s => if_neg hunknown⟩
  | configure | join | leave | claim | release | renew | withdraw | readStatus | readStack | readEntry | readMembers
  | takeReport | setMask | reset => exact ⟨_, .inl fun _ => rfl⟩
  | rstnAsserted | resetRelease | ginAsserted | ginReleased => cases h
  | _ => exact ⟨_, .inr fun _ => rfl⟩

/-- Settles O4: every such row acts out of reset alone. -/
theorem heldInResetNothingActs : Obligations.HeldInResetNothingActs := by
  intro c s hreset hwf hacts
  obtain ⟨f, hf | hf⟩ := exec_atPort_or_awake hwf hacts
  · rw [hf, State.atPort_inReset hreset]
  · rw [hf, State.awake_inReset hreset]

/-! ## The resets (R182, R195 to R197) -/

/-- Settles O41: the soft reset block by block. -/
theorem resetThenSelRising : Obligations.ResetThenSelRising := by
  intro s
  refine ⟨fun hport => exec_taken hport State.commandReset rfl, fun hreset harmed => ⟨s.softReset, ?_, ?_⟩⟩
  · rw [exec, execSoftReset, State.awake_of hreset, if_pos harmed]
  · exact ⟨rfl, rfl, rfl, rfl, rfl, closedGates_getElem s.gate, rfl, rfl⟩

theorem State.goutLow_inReset {s : State} (h : s.ctl.inReset = true) (n : Fin 8) : s.goutLow n = false := by
  simp [State.goutLow, h]

/-- Settles O42: the pin reset block by block. -/
theorem pinReset : Obligations.PinReset := by
  intro s straps
  refine ⟨⟨_, rfl, rfl, rfl, rfl, State.goutLow_inReset rfl, rfl, rfl, rfl⟩, ⟨_, rfl, ?_⟩⟩
  exact ⟨rfl, TableUnit.clear_entries, TableUnit.clear_members, rfl, rfl, rfl, rfl, rfl, TimerUnit.clear_silence, rfl,
    rfl, rfl, rfl, rfl, closedGates_getElem s.gate, rfl, rfl⟩

/-! ## The GIN inputs (R115, R117) -/

theorem State.recordOf_eq_none {s : State} {r : Resource} :
    s.recordOf r = none ↔ ∀ k ∈ s.stack, k.resource ≠ r := by
  simp [State.recordOf]

theorem State.deniedDetail_elsewhere {s : State} {n : Fin 8} (h : s.ctl.station ≠ .member) : s.deniedDetail n = 0 :=
  if_pos h

theorem State.deniedDetail_no_record {s : State} {n : Fin 8} (h : s.ctl.station = .member)
    (hr : s.recordOf (channelResource n) = none) : s.deniedDetail n = 1 := by
  simp [State.deniedDetail, h, hr]

theorem State.deniedDetail_record {s : State} {n : Fin 8} {k : Record} (h : s.ctl.station = .member)
    (hr : s.recordOf (channelResource n) = some k) :
    ((∀ g p, k.state ≠ .held g p) → s.deniedDetail n = 2) ∧ (∀ g, k.state = .held g true → s.deniedDetail n = 3) ∧
      ∀ g, k.state = .held g false → s.deniedDetail n = 4 := by
  unfold State.deniedDetail
  rw [if_neg (not_not.mpr h), hr]
  dsimp only
  cases k.state with
  | held g p => cases p <;> simp
  | _ => simp

theorem exec_ginAsserted {s : State} {n : Fin 8} (hreset : s.ctl.inReset = false) (hhigh : s.gate[n].ginLow = false) :
    exec (.ginAsserted n) s = .next (s.ginFalls n) := by
  rw [exec, execGinAsserted, hhigh, hreset]
  rfl

/-- Settles O43, by whether the channel is open, and for a closed one by the station state and the record. -/
theorem ginTransitions : Obligations.GinTransitions := by
  intro s n
  refine ⟨fun hreset hhigh => ?_, rfl, by simp [Channel.goutLow]⟩
  rw [exec_ginAsserted hreset hhigh]
  refine ⟨fun hopen => ?_, fun hclosed => ⟨s.deniedDetail n, ?_, State.deniedDetail_elsewhere, fun hmember => ?_⟩⟩
  · rw [State.ginFalls, if_pos hopen, ← hopen]
    rfl
  · rw [State.ginFalls, if_neg (Bool.not_eq_true _ ▸ hclosed)]
    rfl
  · exact ⟨fun hnone => State.deniedDetail_no_record hmember (State.recordOf_eq_none.mpr hnone),
      fun _ hk => State.deniedDetail_record hmember hk⟩

/-- A channel's condition is a HELD record without renewal pending whose own countdown is running (R113). -/
theorem State.gateCondition_iff (s : State) (n : Fin 8) : s.gateCondition n = true ↔ s.ctl.station = .member ∧
    ∃ k g ms, s.recordOf (channelResource n) = some k ∧ k.state = .held g false ∧
      s.countdown (channelResource n) s.self g = .running ms := by
  unfold State.gateCondition
  cases s.recordOf (channelResource n) with
  | none => simp
  | some k =>
    cases hk : k.state with
    | held g p =>
      cases p
      · cases hc : s.countdown (channelResource n) s.self g <;> simp [hk, hc, Timer.isRunning]
      · simp [hk]
    | _ => simp [hk]

theorem State.mem_of_recordOf {s : State} {r : Resource} {k : Record} (h : s.recordOf r = some k) :
    k ∈ s.stack ∧ k.resource = r :=
  ⟨List.mem_of_find?_eq_some h, by simpa using List.find?_some h⟩

/-- Settles O14: a low output is an open channel, and an open channel's condition stands. -/
theorem lowOutputNeedsALiveLease : Obligations.LowOutputNeedsALiveLease := by
  intro s n hgate hlow
  obtain ⟨hopen, hgin⟩ : s.gate[n].opened = true ∧ s.gate[n].ginLow = true := by
    simp only [State.goutLow, Channel.goutLow, Bool.and_eq_true] at hlow
    exact ⟨hlow.2.1.1, hlow.2.2⟩
  obtain ⟨hsame, -⟩ := hgate n
  obtain ⟨hmember, k, g, ms, hk, hheld, hrunning⟩ := (s.gateCondition_iff n).mp (hsame ▸ hopen)
  obtain ⟨hmem, hres⟩ := State.mem_of_recordOf hk
  exact ⟨hgin, hmember, k, g, ms, hmem, hres, hheld, hres.symm ▸ hrunning⟩

/-! ## SET MASK (R181, R191) -/

theorem maskUpperBits_eq_zero_iff (v : BitVec 24) : v.extractLsb' 19 5 = 0 ↔ v.toNat < 2 ^ 19 := by
  rw [← BitVec.toNat_inj, BitVec.extractLsb'_toNat, Nat.shiftRight_eq_div_pow]
  have := v.isLt
  change v.toNat / 2 ^ 19 % 2 ^ 5 = 0 ↔ _
  omega

/-- Settles O39: the five upper bits are 0 below 2 to the 19, and the mask is the nineteen others. -/
theorem setMaskSetsNineteenBits : Obligations.SetMaskSetsNineteenBits := by
  intro s v hport
  rw [exec_taken hport (fun s => s.commandSetMask v) rfl]
  refine ⟨fun hbig => ?_, fun hsmall => ⟨v.extractLsb' 0 19, ?_, fun k h1 h19 => ?_⟩⟩
  · rw [State.commandSetMask, if_neg (by rw [maskUpperBits_eq_zero_iff]; omega)]
    rfl
  · rw [State.commandSetMask, if_pos ((maskUpperBits_eq_zero_iff v).mpr hsmall)]
    rfl
  · have : k - 1 < 19 := by omega
    simp [this]

end Sys2Proof.Machine

/-! PROOFS. The host port commands CONFIGURE, JOIN, LEAVE, RELEASE and RENEW, and the frames they place (R99, R103, R106,
R136, R168 to R173). -/

namespace Sys2Proof.Machine

open Sys2Proof.Safety

/-! ## CONFIGURE (R168, R198) -/

theorem orDefault_ge_one {v d : Byte} (hd : 1 ≤ d.toNat) : 1 ≤ (orDefault v d).toNat := by
  unfold orDefault
  split
  · exact hd
  next h => bv_omega

theorem orDefault_le {v d : Byte} {n : Nat} (hd : d.toNat ≤ n) : (orDefault v d).toNat ≤ n ↔ v.toNat ≤ n := by
  unfold orDefault
  split
  next h => subst h; simpa using hd
  next => rfl

theorem Params.inRange_iff (p : Params) : p.inRange = true ↔
    1 ≤ p.leaseTerm.toNat ∧ 1 ≤ p.grace.toNat ∧ 1 ≤ p.presence.toNat ∧ p.presence.toNat ≤ 64 ∧
      3 ≤ p.silence.toNat ∧ p.silence.toNat ≤ 15 ∧ 1 ≤ p.count.toNat ∧ p.count.toNat ≤ 16 := by
  simp only [Params.inRange, Bool.and_eq_true, decide_eq_true_eq, and_assoc]

theorem retryInRange_iff (b : Byte) : retryInRange b = true ↔ 1 ≤ b.toNat ∧ b.toNat ≤ 15 := by
  simp only [retryInRange, Bool.and_eq_true, decide_eq_true_eq]

/-- The operands that CONFIGURE takes: 00h, or in range (R168). -/
theorem configure_inRange_iff (a b c d e f : Byte) :
    ((Params.ofOperands a b c d e).inRange && retryInRange (orDefault f Config.defaultRetry)) = true ↔
      c.toNat ≤ 64 ∧ (d = 0 ∨ (3 ≤ d.toNat ∧ d.toNat ≤ 15)) ∧ e.toNat ≤ 16 ∧ f.toNat ≤ 15 := by
  have ha := orDefault_ge_one (v := a) (d := Config.defaultLeaseTerm) (by decide)
  have hb := orDefault_ge_one (v := b) (d := Config.defaultGrace) (by decide)
  have hc := orDefault_ge_one (v := c) (d := Config.defaultPresence) (by decide)
  have he := orDefault_ge_one (v := e) (d := Config.defaultCount) (by decide)
  have hf := orDefault_ge_one (v := f) (d := Config.defaultRetry) (by decide)
  have hc' := orDefault_le (v := c) (d := Config.defaultPresence) (n := 64) (by decide)
  have he' := orDefault_le (v := e) (d := Config.defaultCount) (n := 16) (by decide)
  have hf' := orDefault_le (v := f) (d := Config.defaultRetry) (n := 15) (by decide)
  have hd : 3 ≤ (orDefault d Config.defaultSilence).toNat ∧ (orDefault d Config.defaultSilence).toNat ≤ 15 ↔
      d = 0 ∨ (3 ≤ d.toNat ∧ d.toNat ≤ 15) := by
    unfold orDefault
    split
    next h => subst h; decide
    next h => simp only [h, false_or]
  rw [Bool.and_eq_true, Params.inRange_iff, retryInRange_iff]
  dsimp only [Params.ofOperands]
  rw [hc', he', hf', ← hd]
  tauto

/-- Settles O27: the range test of the operands decides. -/
theorem configureSetsTheProposals : Obligations.ConfigureSetsTheProposals := by
  intro s a b c d e f hport
  rw [exec_taken hport (fun s => s.configure a b c d e f) rfl, ← configure_inRange_iff a b c d e f]
  refine ⟨fun h => congrArg _ (State.configure_elsewhere a b c d e f h), fun hoffline => ⟨fun hin => ?_, fun hout => ?_⟩⟩
  · rw [State.configure, if_pos hoffline, if_pos hin]
    rfl
  · rw [State.configure, if_pos hoffline, if_neg hout]
    rfl

/-! ## JOIN (R160, R169, R199) -/

theorem State.raise_withSendq (s : State) (q : SendQueue) (r : Report) :
    (s.withSendq q).raise r = (s.raise r).withSendq q := by
  rw [State.raise_eq (s.withSendq q), State.raise_port_congr (s := s.withSendq q) (t := s) rfl, State.raise_eq s]
  rfl

theorem State.frozen_iff (s : State) : s.frozen = true ↔ s.line.state = some .blocked := decide_eq_true_iff

/-- Settles O28: the JOIN finds an empty queue. -/
theorem joinStartsJoining : Obligations.JoinStartsJoining := by
  intro s hport
  rw [exec_taken hport State.commandJoin rfl]
  refine ⟨fun h => congrArg _ (if_neg h), fun hready hstack hsendq => ?_⟩
  rw [State.commandJoin, if_pos ⟨hready, hstack⟩, State.answer_eq_answered]
  refine congrArg (fun u => Host.Outcome.next (answered u [0x01])) ?_
  have hblocked : (((s.withCtl { s.ctl with station := .joining }).withTable
      { s.table with members := Vector.replicate 16 .absent }).loadPresence).frozen = s.frozen := rfl
  have hplace (u : State) (hu : u.sendq = SendQueue.clear) :
      u.placeHost (.join 0 s.ctl.proposed) =
        u.withSendq { frames := [hostFrame (.join 0 s.ctl.proposed)], awaiting := none } := by
    rw [State.placeHost, hu]
    rfl
  unfold State.startJoining
  dsimp only
  rw [hblocked]
  by_cases hline : s.line.state = some .blocked
  · rw [if_pos ((s.frozen_iff).mpr hline), if_pos hline, hplace _ (by simp [hsendq]), ← State.raise_withSendq]
    rfl
  · rw [if_neg (mt (s.frozen_iff).mp hline), if_neg hline, hplace _ (by simp [hsendq])]
    rfl

/-! ## RELEASE (R99, R114, R172) -/

theorem State.commandRelease_taken {s : State}
    (h : s.ctl.station = .member ∨ s.ctl.station = .resync ∨ s.ctl.station = .ready) :
    s.commandRelease = s.releaseTop := by
  unfold State.commandRelease
  rcases h with h | h | h <;> rw [h]

theorem QBody.target_release_iff (b : QBody) (r : Resource) (g : Grant) :
    b.target = (QBody.release r g).target ↔ ∃ g', b = .release r g' := by
  cases b <;> simp [QBody.target, QBody.kind, Fin.val_inj, eq_comm]

/-- A channel opens for a HELD record alone. -/
theorem State.gateCondition_of_not_held {s : State} {n : Fin 8} {k : Record}
    (hk : s.recordOf (channelResource n) = some k) (h : ∀ g p, k.state ≠ .held g p) : s.gateCondition n = false := by
  rw [← Bool.not_eq_true, State.gateCondition_iff]
  rintro ⟨-, k', g, -, hk', hheld, -⟩
  rw [hk] at hk'
  cases hk'
  exact h g false hheld

theorem State.gateCondition_of_no_record {s : State} {n : Fin 8} (hk : s.recordOf (channelResource n) = none) :
    s.gateCondition n = false := by
  rw [← Bool.not_eq_true, State.gateCondition_iff]
  rintro ⟨-, k', g, -, hk', -⟩
  rw [hk] at hk'
  cases hk'

theorem channelResource_val (n : Fin 8) : (channelResource n).val = n.val := rfl

/-- The channel of a resource is the only one that its evaluation touches; without one nothing is evaluated (R121). -/
theorem State.evalResource_channel (s : State) (n : Fin 8) (d : BitVec 4) (g : Grant) :
    s.evalResource (channelResource n) d g = s.evalChannel n d g := by
  exact dif_pos n.isLt

theorem State.evalResource_no_channel {s : State} {r : Resource} (h : 8 ≤ r.val) (d : BitVec 4) (g : Grant) :
    s.evalResource r d g = s := dif_neg (by omega)

theorem channelResource_surj {r : Resource} (h : r.val < 8) : ∃ n : Fin 8, channelResource n = r := ⟨⟨r.val, h⟩, rfl⟩

theorem channelResource_inj {n m : Fin 8} : channelResource n = channelResource m ↔ n = m := by
  simp [channelResource, Fin.ext_iff]

theorem State.evalResource_gate_other (s : State) {n : Fin 8} {r : Resource} (h : channelResource n ≠ r) (d : BitVec 4)
    (g : Grant) : (s.evalResource r d g).gate[n] = s.gate[n] := by
  by_cases hr : r.val < 8
  · obtain ⟨m, rfl⟩ := channelResource_surj hr
    rw [State.evalResource_channel, State.evalChannel_gate_other _ _ _ _ _ (mt channelResource_inj.mpr h)]
  · rw [State.evalResource_no_channel (by omega)]

/-- What the evaluation of a resource whose condition is false does: its channel closes, with a CUT where its output was
low (R114, R116). -/
theorem State.evalResource_closes {s : State} {n : Fin 8} (h : s.gateCondition n = false) (d : BitVec 4) (g : Grant) :
    let t := s.evalResource (channelResource n) d g
    t.gate[n].opened = false ∧ t.gate[n].ginLow = s.gate[n].ginLow ∧
      (s.gate[n].opened = true → t.gate[n].armed = false) ∧
      (s.gate[n].goutLow = true →
        t.port = (s.raise { kind := .cut, subject := channelResource n, grant := g, detail := d }).port) ∧
      (s.gate[n].goutLow = false → t.port = s.port) := by
  dsimp only
  rw [State.evalResource_channel, State.evalChannel_gate_self, State.evalChannel_port, h]
  exact ⟨rfl, rfl, fun ho => by rw [ho]; rfl, fun hlow => if_pos ⟨rfl, hlow⟩,
    fun hhigh => if_neg fun ⟨_, hlow⟩ => Bool.false_ne_true (hhigh.symm.trans hlow)⟩

section
variable {s : State} {below : List Record} {k : Record} {g : Grant} {p : Bool} (hstack : OnlyRecord s below k [])
include hstack

theorem State.releaseTop_pending (h : k.state.isPending = true) : s.releaseTop = answered s [0x08] := by
  rw [State.releaseTop, State.top_of_only hstack]
  dsimp only
  cases hk : k.state with
  | held | expired | lapsed => rw [hk] at h; cases h
  | _ => rfl

theorem State.releaseTop_lapsed (h : k.state = .lapsed g) :
    s.releaseTop = answered { s with stack := below } [0x01] := by
  rw [State.releaseTop, State.top_of_only hstack]
  simp only [h, State.popRecord_only hstack, List.append_nil]
  rfl

theorem State.releaseTop_expired (h : k.state = .expired g) : s.releaseTop =
    answered { s with stack := below ++ [{ k with state := .releasing g false }] } [0x01] := by
  rw [State.releaseTop, State.top_of_only hstack]
  simp only [h, State.setRecord_only hstack]
  rfl

theorem State.releaseTop_held (h : k.state = .held g p) : s.releaseTop =
    if s.slotFree then
      ((((s.withStack (below ++ [{ k with state := .releasing g false }])).evalResource k.resource 1 g).placeHost
        (.release k.resource g)).answer .ok)
    else s.answer .busy := by
  rw [State.releaseTop, State.top_of_only hstack]
  simp only [h, State.setRecord_only hstack]

end

/-- Settles O31, by the state of the top record. -/
theorem releaseActsOnTheTop : Obligations.ReleaseActsOnTheTop := by
  refine ⟨fun s hport => ?_, fun s below k g p hport htaken hstack hother hheld hslot hnone => ?held⟩
  · rw [exec_taken hport State.commandRelease rfl]
    refine ⟨fun h => congrArg _ ?_, fun htaken => ?_⟩
    · apply State.commandRelease_elsewhere <;> rcases h with h | h | h | h <;> rw [h] <;> nofun
    · rw [State.commandRelease_taken htaken]
      refine ⟨fun h => ?_, fun below k hstack hother => ?_⟩
      · rw [State.releaseTop, State.top, h]
        rfl
      have honly : OnlyRecord s below k [] := ⟨hstack, by simpa using hother⟩
      refine ⟨fun h => congrArg _ (State.releaseTop_pending honly h), fun g h => congrArg _ (State.releaseTop_lapsed honly h),
        fun g h => congrArg _ (State.releaseTop_expired honly h), fun g p h hbusy => ?_⟩
      rw [State.releaseTop_held honly h, if_neg (mt s.slotFree_iff.mp hbusy)]
      rfl
  case held =>
    have honly : OnlyRecord s below k [] := ⟨hstack, by simpa using hother⟩
    have htaken' : s.ctl.station = .member ∨ s.ctl.station = .resync ∨ s.ctl.station = .ready :=
      htaken.elim .inl fun h => .inr (.inl h)
    rw [exec_taken hport State.commandRelease rfl, State.commandRelease_taken htaken', State.releaseTop_held honly hheld,
      if_pos (s.slotFree_iff.mpr hslot)]
    have hplace (u : State) (hu : u.sendq = s.sendq) : u.placeHost (.release k.resource g) =
        queuedLast u (hostFrame (.release k.resource g)) :=
      State.placeHost_enters (by simpa only [SlotFree, hu] using hslot) fun f hf =>
        mt (f.body.target_release_iff _ _).mp fun ⟨g', hg'⟩ => hnone f (hu ▸ hf) g' hg'
    rw [hplace _ (by simp)]
    generalize hu : s.withStack (below ++ [{ k with state := .releasing g false }]) = u
    have hug : u.gate = s.gate := by rw [← hu]; rfl
    have hup : u.port = s.port := by rw [← hu]; rfl
    have hrec : u.recordOf k.resource = some { k with state := .releasing g false } :=
      State.recordOf_only (k := { k with state := .releasing g false }) (above := [])
        ⟨by rw [← hu]; rfl, by simpa using hother⟩
    obtain ⟨ectl, etable, etimer, esendq, estack, -, eline, -⟩ := u.evalResource_frame k.resource 1 g
    refine ⟨_, rfl, ?_, ?_, ?_, ?_, ?_, ?_, fun n hn => ?_, fun n hn => ?_, fun h8 => ?_⟩
    · exact ectl.trans (by rw [← hu]; rfl)
    · exact etable.trans (by rw [← hu]; rfl)
    · exact etimer.trans (by rw [← hu]; rfl)
    · exact eline.trans (by rw [← hu]; rfl)
    · exact estack.trans (by rw [← hu]; rfl)
    · have hsendq : (u.evalResource k.resource 1 g).sendq = s.sendq := esendq.trans (by rw [← hu]; rfl)
      simp only [State.answer_frame, queuedLast, hsendq]
    · exact (u.evalResource_gate_other hn 1 g).trans (by rw [hug])
    · have hcond : u.gateCondition n = false :=
        State.gateCondition_of_not_held (hn ▸ hrec) (by simp)
      obtain ⟨hopen, hgin, harm, hlow, hhigh⟩ := State.evalResource_closes hcond 1 g
      rw [hn] at hopen hgin harm hlow hhigh
      rw [hug] at hgin harm hlow hhigh
      refine ⟨hopen, hgin, harm, fun h => ?_, fun h => ?_⟩
      · have := (hlow h).trans (State.raise_port_congr hup _)
        exact congrArg (fun p : HostPort => { p with response := [0x01] }) this
      · exact congrArg (fun p : HostPort => { p with response := [0x01] }) ((hhigh h).trans hup)
    · rw [State.evalResource_no_channel h8]
      exact congrArg (fun p : HostPort => { p with response := [0x01] }) hup

/-! ## RENEW (R103, R136, R173) -/

theorem State.anyHeld_iff (s : State) :
    s.stack.any Record.isHeld = true ↔ ∃ k ∈ s.stack, ∃ g p, k.state = .held g p := by
  rw [List.any_eq_true]
  refine exists_congr fun k => and_congr_right fun _ => ?_
  unfold Record.isHeld
  cases k.state <;> simp

theorem QBody.target_renew_iff (b : QBody) : b.target = QBody.renew.target ↔ b = .renew := by
  cases b <;> simp [QBody.target, QBody.kind]

theorem State.renewQueued_iff (s : State) : s.renewQueued = true ↔ ∃ f ∈ s.sendq.frames, f.body = .renew := by
  simp [State.renewQueued, QBody.target_renew_iff]

theorem SendQueue.mergeRenew_only {q : SendQueue} {before after : List QFrame} {f : QFrame}
    (hframes : q.frames = before ++ f :: after) (hf : f.body = .renew) (hother : ∀ x ∈ before ++ after, x.body ≠ .renew) :
    q.mergeRenew = { q with frames := before ++ { f with hostMark := true } :: after } := by
  have hkeep : ∀ l : List QFrame, (∀ x ∈ l, x.body ≠ .renew) →
      l.map (fun f => if f.body = .renew then { f with hostMark := true } else f) = l := fun l hl =>
    (List.map_congr_left fun x hx => if_neg (hl x hx)).trans l.map_id
  rw [SendQueue.mergeRenew, hframes, List.map_append, List.map_cons, if_pos hf,
    hkeep before fun x hx => hother x (by simp [hx]), hkeep after fun x hx => hother x (by simp [hx])]

/-- Settles O33, by whether a record is HELD and a RENEW queued. -/
theorem renewPlacesOrMerges : Obligations.RenewPlacesOrMerges := by
  intro s hport
  rw [exec_taken hport State.commandRenew rfl]
  refine ⟨fun hm hr => congrArg _ (State.commandRenew_elsewhere hm hr), fun htaken => ?_⟩
  have hrow : s.commandRenew = s.renewHeld := by
    unfold State.commandRenew
    rcases htaken with h | h <;> rw [h]
  rw [hrow, State.renewHeld]
  refine ⟨fun hnone => ?_, fun hheld => ?_⟩
  · have : ¬s.stack.any Record.isHeld = true := by
      rw [State.anyHeld_iff]
      rintro ⟨k, hk, g, p, h⟩
      exact hnone k hk g p h
    rw [if_pos (by simpa using this)]
    rfl
  · rw [if_neg (by simpa using s.anyHeld_iff.mpr hheld)]
    refine ⟨fun before f after hframes hf hother => ?_, fun hnone => ?_⟩
    · rw [if_pos (s.renewQueued_iff.mpr ⟨f, by simp [hframes], hf⟩), SendQueue.mergeRenew_only hframes hf hother]
      rfl
    · rw [if_neg (mt s.renewQueued_iff.mp (by simpa using hnone))]
      refine ⟨fun hslot => ?_, fun hbusy => ?_⟩
      · rw [if_pos (s.slotFree_iff.mpr hslot), State.placeHost_enters hslot fun f hf =>
          mt f.body.target_renew_iff.mp (hnone f hf)]
        rfl
      · rw [if_neg (mt s.slotFree_iff.mp hbusy)]
        rfl

end Sys2Proof.Machine

/-! PROOFS. What an operation inside a station keeps: the laws of the reports, the claim stack, the channels, the send
queue and the transfer list, for every operation that changes neither the station state nor the line (R69, R89, R112,
R124, R186, R189). -/

namespace Sys2Proof.Machine

open Sys2Proof.Safety

/-! ## The law of the stack (R89) -/

/-- A channel is armed only while it is open (R112). -/
def ArmedLaw (s : State) : Prop := ∀ n : Fin 8, s.gate[n].armed = true → s.gate[n].opened = true

/-- In a rising list every element but the last lies below the last. -/
theorem resource_le_of_getLast {l : List Record} {k : Record} (h : (l.map (·.resource)).Pairwise (· < ·))
    (hk : l.getLast? = some k) : ∀ x ∈ l, x.resource ≤ k.resource := by
  obtain ⟨init, rfl⟩ := List.getLast?_eq_some_iff.mp hk
  intro x hx
  rcases List.mem_append.mp hx with hx | hx
  · rw [List.map_append, List.pairwise_append] at h
    exact (h.2.2 _ (List.mem_map_of_mem hx) _ (by simp)).le
  · rw [List.mem_singleton.mp hx]

/-- A pending record of a lawful stack is the top one, above every other. -/
theorem stackLaw_pending_top {s : State} (h : StackLaw s) {k : Record} (hk : k ∈ s.stack)
    (hp : k.state.isPending = true) : ∀ x ∈ s.stack, x.resource ≤ k.resource := by
  obtain ⟨-, hrising, honly⟩ := h
  refine resource_le_of_getLast hrising ?_
  have hne : s.stack ≠ [] := List.ne_nil_of_mem hk
  have hsplit := List.dropLast_append_getLast hne
  rw [← hsplit, List.mem_append, List.mem_singleton] at hk
  rcases hk with hk | hk
  · exact absurd hp (by simp [honly k hk])
  · rw [List.getLast?_eq_some_getLast hne, hk]

theorem stackLaw_resource_nodup {s : State} (h : StackLaw s) : (s.stack.map (·.resource)).Nodup :=
  h.2.1.imp fun hlt => ne_of_lt hlt

/-- What stands below the top of a rising stack is not of the top's resource. -/
theorem mem_dropLast_resource_lt {l : List Record} {x : Record} {r : Resource}
    (h : (l.map (·.resource)).Pairwise (· < ·)) (hr : ∀ y ∈ l, y.resource ≤ r) (hx : x ∈ l.dropLast) : x.resource < r := by
  have hne : l ≠ [] := fun hnil => by simp [hnil] at hx
  have hsplit := List.dropLast_append_getLast hne
  rw [← hsplit, List.map_append, List.pairwise_append] at h
  exact (h.2.2 _ (List.mem_map_of_mem hx) _ (by simp)).trans_le (hr _ (List.getLast_mem hne))

/-- The law of the stack when the record of a resource takes a state that is not pending, or is the top's. -/
theorem stackLaw_setRecord {s : State} (h : StackLaw s) (r : Resource) (st : RecordState)
    (hp : st.isPending = true → ∀ x ∈ s.stack, x.resource ≤ r) : StackLaw (s.setRecord r st) := by
  obtain ⟨hlen, hrising, honly⟩ := h
  unfold State.setRecord
  refine ⟨by simpa using hlen, ?_, fun k hk => ?_⟩
  · have hsame : (s.stack.map fun k => if k.resource = r then { k with state := st } else k).map (·.resource) =
        s.stack.map (·.resource) := by
      rw [List.map_map]
      exact List.map_congr_left fun k _ => by dsimp only [Function.comp]; split <;> rfl
    rwa [State.withStack_stack, hsame]
  · rw [State.withStack_stack, ← List.map_dropLast, List.mem_map] at hk
    obtain ⟨x, hx, rfl⟩ := hk
    split
    next hxr =>
      rw [← Bool.not_eq_true]
      intro hpending
      exact (mem_dropLast_resource_lt hrising (hp hpending) hx).ne hxr
    next => exact honly x hx

theorem mem_dropLast_of_filter {l : List Record} {p : Record → Bool} {x : Record} (h : x ∈ (l.filter p).dropLast) :
    x ∈ l.dropLast := by
  rcases List.eq_nil_or_concat l with rfl | ⟨init, k, rfl⟩
  · simp at h
  · rw [List.concat_eq_append] at h ⊢
    rw [List.dropLast_concat]
    rw [List.filter_append] at h
    cases hk : p k
    · rw [List.filter_cons_of_neg (by simp [hk]), List.filter_nil, List.append_nil] at h
      exact List.mem_of_mem_filter (List.mem_of_mem_dropLast h)
    · rw [List.filter_cons_of_pos hk, List.filter_nil, List.dropLast_concat] at h
      exact List.mem_of_mem_filter h

theorem stackLaw_popRecord {s : State} (h : StackLaw s) (r : Resource) : StackLaw (s.popRecord r) := by
  obtain ⟨hlen, hrising, honly⟩ := h
  exact ⟨(List.length_filter_le _ _).trans hlen, hrising.sublist (List.filter_sublist.map _),
    fun k hk => honly k (mem_dropLast_of_filter hk)⟩

/-! ## The laws of the reports and of the channels (R112, R186, R189) -/

theorem reportLaw_raise {s : State} (h : ReportLaw s) (r : Report) (hr : r.kind = .cut → r.detail.toNat ≤ 3) :
    ReportLaw (s.raise r) := by
  obtain ⟨hlen, hlost, hcut⟩ := h
  unfold ReportLaw
  rw [State.raise_port]
  split
  next hroom =>
    refine ⟨by rw [List.length_append]; exact hroom, fun _ => by simp, fun x hx => ?_⟩
    rcases List.mem_append.mp hx with hx | hx
    · exact hcut x hx
    · rwa [List.mem_singleton.mp hx]
  next hfull =>
    refine ⟨hlen, fun _ hnil => ?_, hcut⟩
    dsimp only at hnil
    rw [hnil] at hfull
    exact hfull (by decide)

theorem reportLaw_evalChannel {s : State} (h : ReportLaw s) (n : Fin 8) {d : BitVec 4} (hd : d.toNat ≤ 3) (g : Grant) :
    ReportLaw (s.evalChannel n d g) := by
  have hraise := reportLaw_raise h { kind := .cut, subject := channelResource n, grant := g, detail := d } fun _ => hd
  unfold ReportLaw
  rw [State.evalChannel_port]
  split
  · exact hraise
  · exact h

theorem ArmedLaw.evalChannel {s : State} (h : ArmedLaw s) (n : Fin 8) (d : BitVec 4) (g : Grant) :
    ArmedLaw (s.evalChannel n d g) := by
  intro m hm
  by_cases hmn : m = n
  · subst hmn
    rw [State.evalChannel_gate_self] at hm ⊢
    dsimp only at hm ⊢
    split at hm
    next hsame => rw [hsame]; exact h m hm
    next => cases hm
  · rw [State.evalChannel_gate_other _ _ _ _ _ hmn] at hm ⊢
    exact h m hm

/-! ## The law of the send queue (R124) -/

/-- Frames leave a queue: its law stands. -/
theorem queueLaw_of_sublist {s t : State} (h : QueueLaw s) (hf : t.sendq.frames.Sublist s.sendq.frames)
    (ha : t.sendq.awaiting = s.sendq.awaiting) : QueueLaw t := by
  obtain ⟨hhost, himage, hpresence, hgeneral, hnodup⟩ := h
  have hplace (p : Place) : t.sendq.inPlace p ≤ s.sendq.inPlace p := (hf.filter _).length_le
  have hawait (p : Place) : awaitingIn t.sendq p = awaitingIn s.sendq p := by rw [awaitingIn, ha]; rfl
  refine ⟨?_, ?_, (hplace _).trans hpresence, (hplace _).trans hgeneral, hnodup.sublist (hf.map _)⟩
  · rw [hawait]; exact (Nat.add_le_add_right (hplace _) _).trans hhost
  · rw [hawait]; exact (Nat.add_le_add_right (hplace _) _).trans himage

theorem SendQueue.inPlace_enter (q : SendQueue) (b : QBody) (p p' : Place) :
    (q.enter b p).inPlace p' = q.inPlace p' + if p = p' then 1 else 0 := by
  unfold SendQueue.enter SendQueue.inPlace
  dsimp only
  rw [List.filter_append, List.length_append]
  by_cases h : p = p' <;> simp [h]

/-- Where a place has room its count stays within its bound with one frame more. -/
theorem SendQueue.hasRoom_iff (q : SendQueue) (p : Place) : q.hasRoom p = true ↔
    match p with
    | .general => q.inPlace .general < Config.generalPlaces
    | .presence => q.inPlace .presence = 0
    | .hostSlot => q.inPlace .hostSlot + awaitingIn q .hostSlot = 0
    | .image => q.inPlace .image + awaitingIn q .image = 0 := by
  cases p <;> unfold SendQueue.hasRoom awaitingIn <;> cases q.awaiting <;> simp

/-- A frame that is not queued yet enters a place with room. -/
theorem queueLaw_enter {s : State} (h : QueueLaw s) {b : QBody} {p : Place} (hroom : s.sendq.hasRoom p = true)
    (hnew : s.sendq.queued b = false) : QueueLaw (s.withSendq (s.sendq.enter b p)) := by
  obtain ⟨hhost, himage, hpresence, hgeneral, hnodup⟩ := h
  rw [SendQueue.hasRoom_iff] at hroom
  have hawait (p' : Place) : awaitingIn (s.sendq.enter b p) p' = awaitingIn s.sendq p' := rfl
  unfold QueueLaw
  simp only [State.withSendq_sendq, SendQueue.inPlace_enter, hawait]
  refine ⟨?_, ?_, ?_, ?_, ?_⟩
  · cases p <;> simp at hroom ⊢ <;> omega
  · cases p <;> simp at hroom ⊢ <;> omega
  · cases p <;> simp at hroom ⊢ <;> omega
  · cases p <;> simp at hroom ⊢ <;> omega
  · rw [SendQueue.enter, List.map_append, List.map_singleton]
    refine hnodup.append (List.nodup_singleton _) (List.disjoint_singleton.mpr fun hmem => ?_)
    obtain ⟨f, hf, htarget⟩ := List.mem_map.mp hmem
    exact Bool.false_ne_true (hnew.symm.trans ((SendQueue.queued_iff _ _).mpr ⟨f, hf, htarget⟩))

/-- A request leaves the queue as it is, or lets a new frame enter a place with room. -/
theorem SendQueue.request_cases (q : SendQueue) (b : QBody) (p : Place) :
    q.request b p = q ∨ (q.queued b = false ∧ q.hasRoom p = true ∧ q.request b p = q.enter b p) := by
  unfold SendQueue.request
  split
  · exact .inl rfl
  next hnone =>
    split
    next hroom => exact .inr ⟨(Bool.or_eq_false_iff.mp (Bool.not_eq_true _ ▸ hnone)).1, hroom, rfl⟩
    next => exact .inl rfl

theorem SendQueue.placeHost_cases (q : SendQueue) (b : QBody) :
    q.placeHost b = q ∨ (q.queued b = false ∧ q.hasRoom .hostSlot = true ∧ q.placeHost b = q.enter b .hostSlot) := by
  unfold SendQueue.placeHost
  split
  · exact .inl rfl
  next hnone =>
    split
    next hroom => exact .inr ⟨Bool.not_eq_true _ ▸ hnone, hroom, rfl⟩
    next => exact .inl rfl

/-- The frames on the line (R128). -/
def SendQueue.onLine (q : SendQueue) : List QFrame := q.frames.filter fun f => !f.isQueued

@[simp] theorem SendQueue.onLine_enter (q : SendQueue) (b : QBody) (p : Place) : (q.enter b p).onLine = q.onLine := by
  simp [SendQueue.onLine, SendQueue.enter, QFrame.isQueued]

@[simp] theorem SendQueue.onLine_removeQueued (q : SendQueue) (test : QBody → Bool) :
    (q.removeQueued test).onLine = q.onLine := by
  unfold SendQueue.onLine SendQueue.removeQueued
  rw [List.filter_filter]
  refine List.filter_congr fun f _ => ?_
  cases f.isQueued <;> simp

/-! ## What an operation inside a station keeps -/

/-- The laws that an operation keeps which changes neither the station controller nor the line, makes no new stack
record, and leaves the frame on the line there. -/
structure Inner (s t : State) : Prop where
  ctl : t.ctl = s.ctl
  line : t.line = s.line
  pending : t.pending = s.pending
  resources : ∀ x ∈ t.stack, ∃ y ∈ s.stack, y.resource = x.resource
  onLine : t.sendq.onLine = s.sendq.onLine
  stack : StackLaw s → StackLaw t
  report : ReportLaw s → ReportLaw t
  armed : ArmedLaw s → ArmedLaw t
  queue : QueueLaw s → QueueLaw t
  transfer : TransferLaw s → TransferLaw t

theorem Inner.refl (s : State) : Inner s s :=
  ⟨rfl, rfl, rfl, fun x hx => ⟨x, hx, rfl⟩, rfl, id, id, id, id, id⟩

theorem Inner.trans {s t u : State} (h : Inner s t) (h' : Inner t u) : Inner s u where
  ctl := h'.ctl.trans h.ctl
  line := h'.line.trans h.line
  pending := h'.pending.trans h.pending
  resources x hx := by
    obtain ⟨y, hy, hyx⟩ := h'.resources x hx
    obtain ⟨z, hz, hzy⟩ := h.resources y hy
    exact ⟨z, hz, hzy.trans hyx⟩
  onLine := h'.onLine.trans h.onLine
  stack := h'.stack ∘ h.stack
  report := h'.report ∘ h.report
  armed := h'.armed ∘ h.armed
  queue := h'.queue ∘ h.queue
  transfer := h'.transfer ∘ h.transfer

theorem Inner.foldl {α : Type} {f : State → α → State} (l : List α) (s : State) (h : ∀ s a, Inner s (f s a)) :
    Inner s (l.foldl f s) := foldl_keeps Inner.refl Inner.trans h l s

/-- The blocks that the laws speak of are the same. -/
def SameBlocks (s t : State) : Prop :=
  t.ctl = s.ctl ∧ t.line = s.line ∧ t.pending = s.pending ∧ t.stack = s.stack ∧ t.sendq = s.sendq ∧ t.port = s.port ∧
    t.gate = s.gate ∧ t.table.transfers = s.table.transfers

theorem Inner.of_same {s t : State} (h : SameBlocks s t) : Inner s t := by
  obtain ⟨hctl, hline, hpending, hstack, hsendq, hport, hgate, htransfers⟩ := h
  refine ⟨hctl, hline, hpending, fun x hx => ⟨x, hstack ▸ hx, rfl⟩, by rw [hsendq], ?_, ?_, ?_, ?_, ?_⟩
  · unfold StackLaw; rw [hstack]; exact id
  · unfold ReportLaw; rw [hport]; exact id
  · unfold ArmedLaw; rw [hgate]; exact id
  · unfold QueueLaw; rw [hsendq]; exact id
  · unfold TransferLaw State.self; rw [hctl, htransfers]; exact id

/-- An operation on the send queue alone. -/
theorem Inner.of_sendq {s : State} (q : SendQueue) (hline : q.onLine = s.sendq.onLine)
    (h : QueueLaw s → QueueLaw (s.withSendq q)) : Inner s (s.withSendq q) :=
  ⟨rfl, rfl, rfl, fun x hx => ⟨x, hx, rfl⟩, hline, id, id, id, h, id⟩

section
variable (s : State)

theorem State.raise_inner (r : Report) (hr : r.kind = .cut → r.detail.toNat ≤ 3) : Inner s (s.raise r) := by
  have hreport : ReportLaw s → ReportLaw (s.raise r) := fun h => reportLaw_raise h r hr
  rw [State.raise_eq] at hreport ⊢
  exact ⟨rfl, rfl, rfl, fun x hx => ⟨x, hx, rfl⟩, rfl, id, hreport, id, id, id⟩

theorem State.report_inner {k : ReportKind} (hk : k ≠ .cut) (r : Resource) (g : Grant) (d : BitVec 4) :
    Inner s (s.report k r g d) := s.raise_inner _ fun h => absurd h hk

theorem State.reportPeer_inner {k : ReportKind} (hk : k ≠ .cut) (p : Station) (d : BitVec 4) :
    Inner s (s.reportPeer k p d) := by
  unfold State.reportPeer
  split
  · exact s.raise_inner _ fun h => absurd h hk
  · exact .refl s

theorem State.setRecord_inner (r : Resource) (st : RecordState)
    (hp : st.isPending = true → StackLaw s → ∀ x ∈ s.stack, x.resource ≤ r) : Inner s (s.setRecord r st) := by
  refine ⟨rfl, rfl, rfl, fun x hx => ?_, rfl, fun h => stackLaw_setRecord h r st fun hst => hp hst h, id, id, id, id⟩
  obtain ⟨y, hy, rfl⟩ := List.mem_map.mp hx
  exact ⟨y, hy, by split <;> rfl⟩

theorem State.popRecord_inner (r : Resource) : Inner s (s.popRecord r) :=
  ⟨rfl, rfl, rfl, fun x hx => ⟨x, List.mem_of_mem_filter hx, rfl⟩, rfl, fun h => stackLaw_popRecord h r, id, id, id, id⟩

theorem State.evalChannel_inner (n : Fin 8) {d : BitVec 4} (hd : d.toNat ≤ 3) (g : Grant) :
    Inner s (s.evalChannel n d g) := by
  obtain ⟨hctl, htable, -, hsendq, hstack, -, hline, -, -, -, -, hpending⟩ := s.evalChannel_frame n d g
  refine ⟨hctl, hline, hpending, fun x hx => ⟨x, hstack ▸ hx, rfl⟩, by rw [hsendq], ?_, fun h => reportLaw_evalChannel h n hd g,
    fun h => h.evalChannel n d g, ?_, ?_⟩
  · unfold StackLaw; rw [hstack]; exact id
  · unfold QueueLaw; rw [hsendq]; exact id
  · unfold TransferLaw State.self; rw [hctl, htable]; exact id

theorem State.evalResource_inner (r : Resource) {d : BitVec 4} (hd : d.toNat ≤ 3) (g : Grant) :
    Inner s (s.evalResource r d g) := by
  unfold State.evalResource
  split
  · exact s.evalChannel_inner _ hd g
  · exact .refl s

theorem State.evalGates_inner {d : BitVec 4} (hd : d.toNat ≤ 3) : Inner s (s.evalGates d) :=
  Inner.foldl _ s fun s n => s.evalChannel_inner n hd _

theorem State.request_inner (b : QBody) (p : Place) : Inner s (s.request b p) := by
  unfold State.request
  obtain h | ⟨hnew, hroom, h⟩ := s.sendq.request_cases b p <;> rw [h]
  · exact .refl s
  · exact .of_sendq _ (SendQueue.onLine_enter ..) fun hq => queueLaw_enter hq hroom hnew

theorem State.placeHost_inner (b : QBody) : Inner s (s.placeHost b) := by
  unfold State.placeHost
  obtain h | ⟨hnew, hroom, h⟩ := s.sendq.placeHost_cases b <;> rw [h]
  · exact .refl s
  · exact .of_sendq _ (SendQueue.onLine_enter ..) fun hq => queueLaw_enter hq hroom hnew

theorem State.removeQueued_inner (test : QBody → Bool) : Inner s (s.withSendq (s.sendq.removeQueued test)) :=
  .of_sendq _ (SendQueue.onLine_removeQueued ..) fun hq => queueLaw_of_sublist hq List.filter_sublist rfl

theorem State.staleCheck_inner : Inner s s.staleCheck := s.removeQueued_inner _

theorem State.stateCheck_inner : Inner s s.stateCheck := s.removeQueued_inner _

end

/-! ## The claim stack's events (R93 to R101) -/

theorem State.pending_of_record {s : State} {r : Resource} {k : Record} (hk : s.recordOf r = some k)
    (hp : k.state.isPending = true) (h : StackLaw s) : ∀ x ∈ s.stack, x.resource ≤ r := by
  obtain ⟨hmem, rfl⟩ := State.mem_of_recordOf hk
  exact stackLaw_pending_top h hmem hp

section
variable (s : State) (r : Resource)

theorem State.onGranted_inner (c : Bool) (m : Mode) (g : Grant) : Inner s (s.onGranted c r m g) := by
  have granted : Inner s (((s.setRecord r (.held g false)).report .granted r g m.detail).evalResource r 2 g) :=
    (s.setRecord_inner r _ (by nofun)).trans <| (State.report_inner _ (by nofun) ..).trans <| State.evalResource_inner _ r (by decide) g
  unfold State.onGranted
  split
  · exact .refl s
  next k hk =>
    split
    · exact granted
    · exact granted
    next hst => exact s.setRecord_inner r _ fun _ h => State.pending_of_record hk (by rw [hst]; rfl) h
    next hst => exact s.setRecord_inner r _ fun _ h => State.pending_of_record hk (by rw [hst]; rfl) h
    · exact .refl s

theorem State.onQueued_inner : Inner s (s.onQueued r) := by
  unfold State.onQueued
  split
  · exact .refl s
  next k hk =>
    split
    next hst => exact s.setRecord_inner r _ fun _ h => State.pending_of_record hk (by rw [hst]; rfl) h
    next hst =>
      exact (s.setRecord_inner r _ fun _ h => State.pending_of_record hk (by rw [hst]; rfl) h).trans
        (State.request_inner _ _ _)
    · exact .refl s

theorem State.popAndReport_inner {k : ReportKind} (hk : k ≠ .cut) (g : Grant) (d : BitVec 4) :
    Inner s ((s.popRecord r).report k r g d) := (s.popRecord_inner r).trans (State.report_inner _ hk ..)

/-- A record that becomes LAPSED, EXPIRED or HELD with a report, and its channel evaluated. -/
theorem State.setAndReport_inner {k : ReportKind} (hk : k ≠ .cut) {st : RecordState} (hst : st.isPending = false)
    (g : Grant) (d : BitVec 4) : Inner s ((s.setRecord r st).report k r g d) :=
  (s.setRecord_inner r st fun h => absurd h (by simp [hst])).trans (State.report_inner _ hk ..)

theorem State.onRefused_inner (c : BitVec 4) : Inner s (s.onRefused r c) := by
  unfold State.onRefused
  split
  · exact .refl s
  · split
    · exact s.popAndReport_inner r (by nofun) _ _
    · exact s.popAndReport_inner r (by nofun) _ _
    · exact .refl s

theorem State.onWaiterRemoved_inner : Inner s (s.onWaiterRemoved r) := by
  unfold State.onWaiterRemoved
  split
  · exact .refl s
  · split
    · exact s.popAndReport_inner r (by nofun) _ _
    · exact s.popAndReport_inner r (by nofun) _ _
    · exact .refl s

theorem State.onHoldRemoved_inner (g : Grant) (b : Bool) : Inner s (s.onHoldRemoved r g b) := by
  unfold State.onHoldRemoved
  split
  · exact .refl s
  · split
    · split
      · exact (s.setAndReport_inner r (by nofun) rfl _ _).trans (State.evalResource_inner _ r (by decide) _)
      · exact .refl s
    · exact s.setAndReport_inner r (by nofun) rfl _ _
    · split
      · exact s.popAndReport_inner r (by nofun) _ _
      · exact .refl s
    · exact .refl s

theorem State.onRenewed_inner (g : Grant) : Inner s (s.onRenewed r g) := by
  unfold State.onRenewed
  split
  · exact .refl s
  · split
    · split
      · exact (s.setAndReport_inner r (by nofun) rfl _ _).trans (State.evalResource_inner _ r (by decide) _)
      · exact .refl s
    · exact .refl s

theorem State.onCountdownExpired_inner : Inner s (s.onCountdownExpired r) := by
  unfold State.onCountdownExpired
  split
  · exact .refl s
  · split
    · exact (s.setRecord_inner r _ (by nofun)).trans (State.evalResource_inner _ r (by decide) _)
    · exact .refl s

end

/-! ## The table unit's effects on its station (R9 to R21) -/

section
variable (s : State)

theorem State.setEntry_inner (r : Resource) (e : Entry) : Inner s (s.setEntry r e) := .of_same (by simp [SameBlocks])

theorem State.loadCountdown_inner (r : Resource) (h : Station) (g : Grant) : Inner s (s.loadCountdown r h g) :=
  .of_same (by simp [SameBlocks])

theorem State.setMember_inner (p : Station) (m : MemberRecord) : Inner s (s.setMember p m) :=
  .of_same (by simp [SameBlocks])

theorem State.holdGranted_inner (c : Bool) (r : Resource) (h : Hold) : Inner s (s.holdGranted c r h) := by
  unfold State.holdGranted
  split
  · exact (s.loadCountdown_inner ..).trans (State.onGranted_inner ..)
  · exact s.loadCountdown_inner ..

theorem State.promoteAt_inner (r : Resource) : Inner s (s.promoteAt r) :=
  (s.setEntry_inner ..).trans (Inner.foldl _ _ fun s h => s.holdGranted_inner false r h)

theorem State.dropHold_inner (r : Resource) (h : Station) (g : Grant) (b : Bool) : Inner s (s.dropHold r h g b) := by
  have hfirst : Inner s ((s.setEntry r ((s.entry r).removeHold h g)).discardCountdown r h g) :=
    .of_same (by simp [SameBlocks])
  unfold State.dropHold
  dsimp only
  split
  · exact hfirst.trans (State.onHoldRemoved_inner ..)
  · exact hfirst

theorem State.dropWaiter_inner (r : Resource) (w : Station) : Inner s (s.dropWaiter r w) := by
  unfold State.dropWaiter
  dsimp only
  split
  · exact (s.setEntry_inner ..).trans (State.onWaiterRemoved_inner ..)
  · exact s.setEntry_inner ..

theorem State.purgeAt_inner (p : Station) (r : Resource) : Inner s (s.purgeAt p r) := by
  unfold State.purgeAt
  split
  · exact .refl s
  · split
    · exact .refl s
    · exact (s.dropHold_inner ..).trans (State.promoteAt_inner ..)
    · exact (s.dropWaiter_inner ..).trans (State.promoteAt_inner ..)
    · exact ((s.dropHold_inner ..).trans (State.dropWaiter_inner ..)).trans (State.promoteAt_inner ..)

theorem State.purge_inner (p : Station) : Inner s (s.purge p) := Inner.foldl _ s fun s r => s.purgeAt_inner p r

theorem State.claimStale_inner (u : Station) (b : Byte) : Inner s (s.claimStale u b) := by
  unfold State.claimStale
  split
  · split
    · exact s.onRefused_inner ..
    · exact .refl s
  · exact .refl s

theorem State.claimDecided_inner (u : Station) (r : Resource) (m : Mode) (p : Policy) :
    Inner s (s.claimDecided u r m p) := by
  unfold State.claimDecided
  split
  · exact (s.setEntry_inner ..).trans (State.holdGranted_inner ..)
  · cases p with
    | wait =>
      dsimp only
      split
      · exact (s.setEntry_inner ..).trans (State.onQueued_inner ..)
      · exact s.setEntry_inner ..
    | tryOnce =>
      dsimp only
      split
      · exact s.onRefused_inner ..
      · exact .refl s

theorem State.claimEffects_inner (u : Station) (b : Byte) (m p : BitVec 4) : Inner s (s.claimEffects u b m p) := by
  unfold State.claimEffects
  split
  · split
    · exact s.claimDecided_inner ..
    · exact s.claimStale_inner ..
  · exact s.claimStale_inner ..

theorem State.holdEffects_inner (b : Byte) (h : Station) (g : Grant) (t : Bool) : Inner s (s.holdEffects b h g t) := by
  unfold State.holdEffects
  split
  · split
    · exact (s.dropHold_inner ..).trans (State.promoteAt_inner ..)
    · exact .refl s
  · exact .refl s

theorem State.lapseEffects_inner (u : Station) (b h : Byte) (g : Grant) : Inner s (s.lapseEffects u b h g) := by
  unfold State.lapseEffects
  split
  · exact s.holdEffects_inner ..
  · exact .refl s

theorem State.withdrawEffects_inner (u : Station) (b : Byte) : Inner s (s.withdrawEffects u b) := by
  unfold State.withdrawEffects
  split
  · split
    · exact (s.dropWaiter_inner ..).trans (State.promoteAt_inner ..)
    · exact .refl s
  · exact .refl s

theorem State.renewItem_inner (u : Station) (x : Byte × Grant) : Inner s (s.renewItem u x) := by
  unfold State.renewItem
  split
  · split
    · split
      · exact (s.loadCountdown_inner ..).trans (State.onRenewed_inner ..)
      · exact s.loadCountdown_inner ..
    · exact .refl s
  · exact .refl s

/-! ## The membership table's effects that keep the station state (R34 to R47, R69 to R72) -/

theorem State.evidence_inner (n : Notice) : Inner s (s.evidence n) := .of_same (by simp [SameBlocks])

theorem State.updateSilence_inner (s0 : State) : Inner s (State.updateSilence s0 s) := .of_same (by simp [SameBlocks])

theorem State.reportJoined_inner (s0 : State) : Inner s (State.reportJoined s0 s) :=
  Inner.foldl _ s fun s p => by
    split
    · exact s.reportPeer_inner (by nofun) ..
    · exact .refl s

/-- Items leave the transfer list, or go on to their next part. -/
theorem Inner.of_transfers {s : State} (l : List TransferItem)
    (h : (l.map (·.target)).Sublist (s.table.transfers.map (·.target))) :
    Inner s (s.withTable { s.table with transfers := l }) := by
  refine ⟨rfl, rfl, rfl, fun x hx => ⟨x, hx, rfl⟩, rfl, id, id, id, id, fun ⟨hmember, hnodup, hother⟩ => ?_⟩
  refine ⟨fun hne => hmember fun hnil => hne ?_, hnodup.sublist h, fun i hi => ?_⟩
  · simpa [hnil] using h
  · obtain ⟨j, hj, hji⟩ := List.mem_map.mp (h.subset (List.mem_map_of_mem hi))
    exact hji ▸ hother j hj

theorem State.testTransfers_inner : Inner s s.testTransfers := .of_transfers _ (List.filter_sublist.map _)

theorem State.advanceTransfer_inner (u v : Station) (a : Fin 4) (last : Bool) (p : Part) :
    Inner s (s.advanceTransfer u v a last p) := by
  unfold State.advanceTransfer
  split
  · refine .of_transfers _ ?_
    induction s.table.transfers with
    | nil => exact List.Sublist.refl _
    | cons i l ih =>
      rw [List.filterMap_cons]
      split
      next => exact ih.cons _
      next j hj =>
        have hj' : j.target = i.target := by
          split at hj
          · split at hj <;> cases hj
            rfl
          · cases hj; rfl
        rw [List.map_cons, List.map_cons, hj']
        exact ih.cons_cons _
  · exact .refl s

theorem map_target_replace (l : List TransferItem) (i : TransferItem) :
    (l.map fun j => if j.target = i.target then i else j).map (·.target) = l.map (·.target) := by
  rw [List.map_map]
  refine List.map_congr_left fun j _ => ?_
  dsimp only [Function.comp]
  split
  next h => exact h.symm
  next => rfl

theorem State.takeTransfer_inner (v : Station) (a : Fin 4) (source : Option Station) (hv : source ≠ some v) :
    Inner s (s.takeTransfer v a source) := by
  unfold State.takeTransfer
  split
  next hmine =>
    dsimp only
    split
    · have htable : Inner s (s.withTable { s.table with transfers := s.table.transfers.map fun i =>
          if i.target = v then { target := v, attempt := a, next := .membership } else i }) :=
        .of_transfers _ (by
          rw [map_target_replace s.table.transfers { target := v, attempt := a, next := .membership }])
      exact htable.trans (State.removeQueued_inner _ _)
    next hnew =>
      refine ⟨rfl, rfl, rfl, fun x hx => ⟨x, hx, rfl⟩, rfl, id, id, id, id, fun ⟨hmember, hnodup, hother⟩ => ?_⟩
      have hv' : v ≠ s.self := fun h => hv (h ▸ hmine.1)
      refine ⟨fun _ => hmine.2, ?_, fun i hi => ?_⟩
      · rw [State.withTable_table, List.map_append, List.map_singleton]
        refine hnodup.append (List.nodup_singleton _) (List.disjoint_singleton.mpr fun hmem => hnew ?_)
        simpa using hmem
      · rcases List.mem_append.mp hi with hi | hi
        · exact hother i hi
        · rwa [List.mem_singleton.mp hi]
  · exact .refl s

theorem State.placeImage_inner : Inner s s.placeImage := by
  unfold State.placeImage
  split
  · exact .refl s
  · exact s.request_inner ..

theorem State.departure_inner (p : Station) (d : BitVec 4) : Inner s (s.departure p d) :=
  ((s.reportPeer_inner (by nofun) ..).trans (State.setMember_inner ..)).trans (State.purge_inner ..)

theorem State.updateImagePending_inner (f : ImagePending → ImagePending) : Inner s (s.updateImagePending f) :=
  .of_same (by simp [SameBlocks, State.updateImagePending])

theorem State.startImageWait_inner : Inner s s.startImageWait := .of_same (by simp [SameBlocks])

theorem State.startJoinWait_inner : Inner s s.startJoinWait := .of_same (by simp [SameBlocks])

theorem State.stopWaits_inner : Inner s s.stopWaits := .of_same (by simp [SameBlocks])

theorem State.installMembership_inner (ms : Vector MemberRecord 16) (p : Params) :
    Inner s (s.installMembership ms p) :=
  .of_same (by simp [SameBlocks, State.installMembership, State.updateImagePending])

theorem State.installEntry_inner (r : Resource) (e : Entry) : Inner s (s.installEntry r e) :=
  .of_same (by simp [SameBlocks, State.installEntry, State.updateImagePending])

theorem State.installPart_inner (v : Station) (a : Fin 4) (last : Bool) (c : PartContent) :
    Inner s (s.installPart v a last c) := by
  unfold State.installPart
  split
  · split
    · exact .refl s
    · split
      · exact .refl s
      · split
        · dsimp only
          split
          · exact s.installMembership_inner ..
          · exact (s.installMembership_inner ..).trans (State.startImageWait_inner _)
        · split
          · exact s.updateImagePending_inner _
          · split
            · dsimp only
              split
              · exact s.installEntry_inner ..
              · exact (s.installEntry_inner ..).trans (State.startImageWait_inner _)
            · exact .refl s
  · exact .refl s

/-! ## Requests (R53 to R66, R70, R76, R81, R85, R96, R97, R204) -/

theorem State.askLapse_inner (c : Countdown) : Inner s (s.askLapse c) := by
  unfold State.askLapse
  split
  · exact s.request_inner ..
  · exact .refl s

theorem State.askEvict_inner (p : Station) : Inner s (s.askEvict p) := by
  unfold State.askEvict
  split
  · exact s.request_inner ..
  · exact .refl s

theorem State.askExpired_inner : Inner s s.askExpired :=
  (Inner.foldl _ s fun s p => s.askEvict_inner p).trans (Inner.foldl _ _ fun s c => s.askLapse_inner c)

theorem State.askExpiredAfter_inner (s0 : State) : Inner s (State.askExpiredAfter s0 s) := by
  unfold State.askExpiredAfter
  split
  · exact Inner.foldl _ s fun s c => s.askLapse_inner c
  · exact s.askExpired_inner

theorem State.askNewRelease_inner (s0 : State) (k : Record) : Inner s (State.askNewRelease s0 s k) := by
  unfold State.askNewRelease
  split
  · split
    · exact .refl s
    · exact s.request_inner ..
  · exact .refl s

theorem State.askNewLeave_inner (s0 : State) : Inner s (State.askNewLeave s0 s) := by
  unfold State.askNewLeave
  split
  · exact s.request_inner ..
  · exact .refl s

theorem State.askNewRenew_inner (s0 : State) : Inner s (State.askNewRenew s0 s) := by
  unfold State.askNewRenew
  split
  · exact s.request_inner ..
  · exact .refl s

theorem State.askNewSync_inner (s0 : State) : Inner s (State.askNewSync s0 s) := by
  unfold State.askNewSync
  split
  · split
    · exact s.request_inner ..
    · exact .refl s
  · exact .refl s

theorem State.askAfter_inner (s0 : State) : Inner s (State.askAfter s0 s) :=
  s.placeImage_inner.trans <| (State.askExpiredAfter_inner _ s0).trans <|
    (Inner.foldl _ _ fun s k => s.askNewRelease_inner s0 k).trans <|
    (State.askNewLeave_inner _ s0).trans <| (State.askNewRenew_inner _ s0).trans (State.askNewSync_inner _ s0)

theorem State.finish_inner (s0 : State) : Inner s (State.finish s0 s) := by
  unfold State.finish
  split
  · exact (s.updateSilence_inner s0).trans <| (State.testTransfers_inner _).trans <|
      (State.staleCheck_inner _).trans <| (State.askAfter_inner _ s0).trans (State.evalGates_inner _ (by decide))
  · exact .refl s

theorem State.askPresence_inner : Inner s s.askPresence := by
  unfold State.askPresence
  split
  · exact s.request_inner ..
  · exact .refl s

theorem State.askFound_inner : Inner s s.askFound := by
  unfold State.askFound
  split
  · exact s.request_inner ..
  · exact .refl s

theorem State.askJoin_inner : Inner s s.askJoin := by
  unfold State.askJoin
  split
  · exact s.request_inner ..
  · exact .refl s

theorem State.askSync_inner : Inner s s.askSync := by
  unfold State.askSync
  split
  · exact s.request_inner ..
  · exact .refl s

theorem State.askLeave_inner : Inner s s.askLeave := by
  unfold State.askLeave
  split
  · exact s.request_inner ..
  · exact .refl s

theorem State.askRenew_inner : Inner s s.askRenew := by
  unfold State.askRenew
  split
  · exact s.request_inner ..
  · exact .refl s

theorem State.askOwedRelease_inner (k : Record) : Inner s (s.askOwedRelease k) := by
  unfold State.askOwedRelease
  split
  · exact s.request_inner ..
  · exact .refl s

theorem State.placeOwedWithdraw_inner (k : Record) : Inner s (s.placeOwedWithdraw k) := by
  unfold State.placeOwedWithdraw
  split
  · exact s.request_inner ..
  · exact .refl s

theorem State.askLapseAgain_inner (r : Resource) (h : Station) : Inner s (s.askLapseAgain r h) :=
  Inner.foldl _ s fun s c => s.askLapse_inner c

theorem State.countdownExpires_inner (c : Countdown) : Inner s (s.countdownExpires c) := by
  have hfirst : Inner s (s.setCountdown c.resource c.holder c.grant .expired) := .of_same (by simp [SameBlocks])
  unfold State.countdownExpires
  dsimp only
  refine Inner.trans ?_ (State.askLapse_inner _ _)
  split
  · exact hfirst.trans (State.onCountdownExpired_inner ..)
  · exact hfirst

theorem State.expireCountdown_inner (r : Resource) (h : Station) : Inner s (s.expireCountdown r h) := by
  unfold State.expireCountdown
  split
  · exact s.countdownExpires_inner _
  · exact .refl s

/-- A change of the timers alone. -/
theorem State.withTimer_inner (t : TimerUnit) : Inner s (s.withTimer t) := .of_same (by simp [SameBlocks])

theorem State.expirePresence_inner : Inner s s.expirePresence := by
  unfold State.expirePresence
  split
  · exact (s.withTimer_inner _).trans (State.askPresence_inner _)
  · exact .refl s

theorem State.expireSilence_inner (p : Station) : Inner s (s.expireSilence p) := by
  unfold State.expireSilence
  split
  · exact (s.withTimer_inner _).trans (State.askEvict_inner _ p)
  · exact .refl s

theorem State.expireJoinWait_inner : Inner s s.expireJoinWait := by
  unfold State.expireJoinWait
  split
  · split
    · split
      · exact s.withTimer_inner _
      · exact s.withTimer_inner _
    · exact s.withTimer_inner _
  · exact .refl s

theorem State.expireFoundWait_inner : Inner s s.expireFoundWait := by
  unfold State.expireFoundWait
  split
  · exact (s.withTimer_inner _).trans (State.askFound_inner _)
  · exact .refl s

end

end Sys2Proof.Machine

/-! PROOFS. What every command keeps: the laws of the stack, the channels, the send queue and the line, the reports and
the configuration, the transfer list, and of the states that follow no bank (R69, R89, R90, R112, R124, R128, R162,
R168, R186, R195, R199 to R205). -/

namespace Sys2Proof.Machine

open Sys2Proof.Safety

/-! ## The station states (R153, R195) -/

theorem followsNoBank_eq (st : StationState) : followsNoBank st = !st.listening := by cases st <;> rfl

theorem StationState.listening_ne {st : StationState} (h : st.listening = true) :
    st ≠ .offline ∧ st ≠ .ready ∧ st ≠ .fault := by
  cases st
  case offline | ready | fault => exact absurd h (by decide)
  all_goals exact ⟨by decide, by decide, by decide⟩

/-! ## The law of the quiet states (R90, R162, R195) -/

/-- A listening station that is not in reset keeps the law of the quiet states by its stack and its exhausted flag. -/
theorem quietLaw_of_listening {t : State} (hl : t.listening = true) (hr : t.ctl.inReset = false)
    (hstack : t.ctl.station = .joining → t.stack = []) (hex : t.ctl.exhausted = true → t.ctl.station = .resync) :
    QuietLaw t := by
  obtain ⟨hoffline, hready, hfault⟩ := StationState.listening_ne hl
  refine ⟨fun h => ?_, ?_, fun h => absurd h hready, hex, fun h => absurd h hfault, fun h => ?_⟩
  · rw [followsNoBank_eq, show t.ctl.station.listening = true from hl] at h
    cases h
  · rintro (h | h | h)
    · exact absurd h hoffline
    · exact hstack h
    · exact absurd h hfault
  · rw [hr] at h
    cases h

section
variable {s : State} (h : QuietLaw s)
include h

theorem quietLaw_exhausted : s.ctl.exhausted = true → s.ctl.station = .resync := h.2.2.2.1

theorem quietLaw_joining_stack (hj : s.ctl.station = .joining) : s.stack = [] := h.2.1 (.inr (.inl hj))

theorem quietLaw_inReset (hl : s.listening = true) : s.ctl.inReset = false := by
  rw [← Bool.not_eq_true]
  intro hr
  exact (StationState.listening_ne hl).1 (h.2.2.2.2.2 hr).1

theorem quietLaw_not_exhausted (hst : s.ctl.station ≠ .resync) : s.ctl.exhausted = false := by
  rw [← Bool.not_eq_true]
  exact mt (quietLaw_exhausted h) hst

/-- Where the line unit is in a line state, the station is neither in FAULT nor in reset. -/
theorem quietLaw_of_line {l : LineState} (hline : s.line.state = some l) :
    s.ctl.station ≠ .fault ∧ s.ctl.inReset = false := by
  have hoff : s.line ≠ LineUnit.off := fun ho => by rw [ho] at hline; cases hline
  refine ⟨fun hf => hoff (h.2.2.2.2.1 hf), ?_⟩
  rw [← Bool.not_eq_true]
  exact fun hr => hoff (h.2.2.2.2.2 hr).2

end

/-! ## What an operation keeps that leaves the line -/

/-- The laws that an operation keeps which leaves the line and the frame on it, the number, the configuration and the
reset level. -/
structure Core (s t : State) : Prop where
  line : t.line = s.line
  pending : t.pending = s.pending
  number : t.ctl.number = s.ctl.number
  inReset : t.ctl.inReset = s.ctl.inReset
  config : t.ctl.proposed = s.ctl.proposed ∧ t.ctl.retryLimit = s.ctl.retryLimit
  onLine : t.sendq.onLine = s.sendq.onLine
  stack : StackLaw s → StackLaw t
  report : ReportLaw s → ReportLaw t
  armed : ArmedLaw s → ArmedLaw t
  queue : QueueLaw s → QueueLaw t

theorem Core.trans {s t u : State} (h : Core s t) (h' : Core t u) : Core s u where
  line := h'.line.trans h.line
  pending := h'.pending.trans h.pending
  number := h'.number.trans h.number
  inReset := h'.inReset.trans h.inReset
  config := ⟨h'.config.1.trans h.config.1, h'.config.2.trans h.config.2⟩
  onLine := h'.onLine.trans h.onLine
  stack := h'.stack ∘ h.stack
  report := h'.report ∘ h.report
  armed := h'.armed ∘ h.armed
  queue := h'.queue ∘ h.queue

theorem Inner.core {s t : State} (h : Inner s t) : Core s t :=
  ⟨h.line, h.pending, by rw [h.ctl], by rw [h.ctl], by rw [h.ctl]; exact ⟨rfl, rfl⟩, h.onLine, h.stack, h.report,
    h.armed, h.queue⟩

/-- Another station state or exhausted flag. -/
theorem core_withCtl (s : State) (st : StationState) (ex : Bool) :
    Core s (s.withCtl { s.ctl with station := st, exhausted := ex }) :=
  ⟨rfl, rfl, rfl, rfl, ⟨rfl, rfl⟩, rfl, id, id, id, id⟩

theorem core_withTable (s : State) (t : TableUnit) : Core s (s.withTable t) :=
  ⟨rfl, rfl, rfl, rfl, ⟨rfl, rfl⟩, rfl, id, id, id, id⟩

/-! ## What every command keeps -/

/-- The waiting commands and the laws that every command keeps, but for those of the send queue and the line. -/
structure Rest (s t : State) : Prop where
  pending : t.pending = s.pending
  stack : StackLaw s → StackLaw t
  report : ReportLaw s → ReportLaw t
  config : ConfigLaw s → ConfigLaw t
  armed : ArmedLaw s → ArmedLaw t
  transfer : TransferLaw s → TransferLaw t
  quiet : QuietLaw s → QuietLaw t

/-- The waiting commands and the laws that every command keeps. -/
structure Keeps (s t : State) : Prop extends Rest s t where
  queue : QueueLaw s → LineLaw s → QueueLaw t ∧ LineLaw t

theorem Rest.refl (s : State) : Rest s s := ⟨rfl, id, id, id, id, id, id⟩

theorem Rest.trans {s t u : State} (h : Rest s t) (h' : Rest t u) : Rest s u where
  pending := h'.pending.trans h.pending
  stack := h'.stack ∘ h.stack
  report := h'.report ∘ h.report
  config := h'.config ∘ h.config
  armed := h'.armed ∘ h.armed
  transfer := h'.transfer ∘ h.transfer
  quiet := h'.quiet ∘ h.quiet

theorem Keeps.refl (s : State) : Keeps s s := ⟨.refl s, .intro⟩

theorem Keeps.trans {s t u : State} (h : Keeps s t) (h' : Keeps t u) : Keeps s u :=
  ⟨h.toRest.trans h'.toRest, fun hq hl => (h.queue hq hl).elim h'.queue⟩

theorem lineLaw_congr {s t : State} (hline : t.line = s.line) (hon : t.sendq.onLine = s.sendq.onLine) (h : LineLaw s) :
    LineLaw t := by
  unfold LineLaw at *
  rw [hline, show (t.sendq.frames.filter fun f => !f.isQueued) = s.sendq.frames.filter fun f => !f.isQueued from hon]
  exact h

theorem Core.queueAndLine {s t : State} (h : Core s t) (hq : QueueLaw s) (hl : LineLaw s) : QueueLaw t ∧ LineLaw t :=
  ⟨h.queue hq, lineLaw_congr h.line h.onLine hl⟩

theorem Core.keeps {s t : State} (h : Core s t) (ht : TransferLaw s → TransferLaw t) (hq : QuietLaw s → QuietLaw t) :
    Keeps s t where
  pending := h.pending
  stack := h.stack
  report := h.report
  config := fun ⟨hp, hr⟩ => ⟨h.config.1 ▸ hp, h.config.2 ▸ hr⟩
  armed := h.armed
  queue := h.queueAndLine
  transfer := ht
  quiet := hq

theorem Inner.quiet_of_listening {s t : State} (h : Inner s t) (hl : s.listening = true) (hq : QuietLaw s) :
    QuietLaw t := by
  have hl' : t.listening = true := by rw [State.listening, h.ctl]; exact hl
  refine quietLaw_of_listening hl' ?_ (fun hj => ?_) ?_
  · rw [h.ctl]; exact quietLaw_inReset hq hl
  · rw [h.ctl] at hj
    refine List.eq_nil_iff_forall_not_mem.mpr fun x hx => ?_
    obtain ⟨y, hy, -⟩ := h.resources x hx
    simp [quietLaw_joining_stack hq hj] at hy
  · rw [h.ctl]; exact quietLaw_exhausted hq

theorem Inner.keeps {s t : State} (h : Inner s t) (hl : s.listening = true) : Keeps s t :=
  h.core.keeps h.transfer (h.quiet_of_listening hl)

/-- What acts inside a listening station, and changes nothing in a station that follows no bank. -/
theorem Inner.keeps_of_quiet {s t : State} (h : Inner s t)
    (hq : QuietLaw s → followsNoBank s.ctl.station = true → t = s) : Keeps s t := by
  refine h.core.keeps h.transfer fun hquiet => ?_
  cases hl : s.listening
  · rw [hq hquiet (by rw [followsNoBank_eq, show s.ctl.station.listening = false from hl]; rfl)]
    exact hquiet
  · exact h.quiet_of_listening hl hquiet

/-! ## Into MEMBER and RESYNC (R79, R84 to R87, R200, R204) -/

theorem transferLaw_of_member {s t : State} (hst : t.ctl.station = .member) (hn : t.ctl.number = s.ctl.number)
    (ht : t.table.transfers = s.table.transfers) (h : TransferLaw s) : TransferLaw t := by
  obtain ⟨-, hnodup, hother⟩ := h
  unfold TransferLaw State.self
  rw [ht, hn]
  exact ⟨fun _ => hst, hnodup, hother⟩

theorem transferLaw_of_nil {t : State} (ht : t.table.transfers = []) : TransferLaw t := by
  unfold TransferLaw
  rw [ht]
  exact ⟨fun h => absurd rfl h, List.nodup_nil, List.forall_mem_nil _⟩

theorem becomeMember_ctl (s : State) (f : Bool) : (s.becomeMember f).ctl = { s.ctl with station := .member } := by
  simp [State.becomeMember]

theorem becomeMember_core (s : State) (f : Bool) : Core s (s.becomeMember f) :=
  (core_withCtl s .member s.ctl.exhausted).trans <| (State.stopWaits_inner _).core.trans <|
    (core_withTable _ _).trans <| (State.raise_inner _ _ (by nofun)).core.trans
      (State.evalGates_inner _ (by decide)).core

theorem becomeMember_keeps {s : State} (hj : s.ctl.station = .joining) (f : Bool) : Keeps s (s.becomeMember f) := by
  have hctl := becomeMember_ctl s f
  have htransfers : (s.becomeMember f).table.transfers = s.table.transfers := by simp [State.becomeMember]
  refine (becomeMember_core s f).keeps (transferLaw_of_member (by rw [hctl]) (by rw [hctl]) htransfers) fun hq => ?_
  refine quietLaw_of_listening (by rw [State.listening, hctl]; rfl) ?_ (by rw [hctl]; nofun) ?_
  · rw [hctl]
    exact quietLaw_inReset hq (by rw [State.listening, hj]; rfl)
  · rw [hctl]
    exact fun h => absurd (quietLaw_exhausted hq h) (by rw [hj]; nofun)

theorem abandonTransfers_core (s : State) : Core s s.abandonTransfers :=
  (core_withTable s _).trans (State.removeQueued_inner _ _).core

@[simp] theorem abandonTransfers_transfers (s : State) : (s.abandonTransfers).table.transfers = [] := rfl

theorem enterResync_core (s : State) (c : BitVec 4) : Core s (s.enterResync c) :=
  (core_withCtl s .resync false).trans <| (State.raise_inner _ _ (by nofun)).core.trans <|
    (State.evalGates_inner _ (by decide)).core.trans <| (abandonTransfers_core _).trans (State.stateCheck_inner _).core

@[simp] theorem enterResync_ctl (s : State) (c : BitVec 4) :
    (s.enterResync c).ctl = { s.ctl with station := .resync, exhausted := false } := by
  simp [State.enterResync]

theorem enterResync_keeps {s : State} (hl : s.listening = true) (c : BitVec 4) : Keeps s (s.enterResync c) := by
  refine (enterResync_core s c).keeps (fun _ => transferLaw_of_nil (by simp [State.enterResync])) fun hq => ?_
  exact quietLaw_of_listening (by simp [State.listening, StationState.listening]) (by simpa using quietLaw_inReset hq hl)
    (by simp) (by simp)

theorem exhaust_ctl (s : State) : (s.exhaust).ctl = { s.ctl with exhausted := true } := by
  unfold State.exhaust
  split
  next h => rw [← h]
  next => rfl

theorem exhaust_stack (s : State) : (s.exhaust).stack = s.stack := by
  unfold State.exhaust
  split <;> rfl

theorem exhaust_core (s : State) : Core s s.exhaust := by
  unfold State.exhaust
  split
  · exact (Inner.refl s).core
  · exact (core_withCtl s s.ctl.station true).trans (core_withTable _ _)

theorem exhaust_keeps {s : State} (hst : s.ctl.station = .resync) : Keeps s s.exhaust := by
  have hctl := exhaust_ctl s
  have hl : s.listening = true := by rw [State.listening, hst]; rfl
  refine (exhaust_core s).keeps (fun h => ?_) fun hq => ?_
  · have htransfers : s.exhaust.table.transfers = s.table.transfers := by unfold State.exhaust; split <;> rfl
    unfold TransferLaw State.self at *
    rw [htransfers, hctl]
    exact h
  · exact quietLaw_of_listening (by rw [State.listening, hctl]; exact hl) (by rw [hctl]; exact quietLaw_inReset hq hl)
      (fun hj => (exhaust_stack s).trans <| quietLaw_joining_stack hq (by rwa [hctl] at hj))
      (fun _ => by rw [hctl]; exact hst)

/-! ## Reconciliation (R84 to R87, R107) -/

/-- Settling a record changes the stack, and raises at most one report, which is no CUT. -/
theorem settleRecord_cases (s : State) (k : Record) :
    (∃ st, s.settleRecord k = s.setRecord k.resource st ∧
        (st.isPending = true → k.state.isPending = true)) ∨
      (∃ g, s.settleRecord k = (s.setRecord k.resource (.lapsed g)).report .lapsed k.resource g 2) ∨
      (∃ g, s.settleRecord k = (s.popRecord k.resource).report .released k.resource g 2) ∨
      s.settleRecord k = (s.popRecord k.resource).report .withdrawn k.resource 0 2 ∨ s.settleRecord k = s := by
  unfold State.settleRecord
  dsimp only
  split
  · split
    · exact .inr <| .inr <| .inr <| .inr rfl
    · exact .inr <| .inl ⟨_, rfl⟩
  · split
    · exact .inr <| .inr <| .inr <| .inr rfl
    · exact .inr <| .inl ⟨_, rfl⟩
  · split
    · exact .inr <| .inr <| .inr <| .inr rfl
    · exact .inr <| .inr <| .inl ⟨_, rfl⟩
  · split
    · exact .inr <| .inr <| .inr <| .inr rfl
    · split
      · exact .inl ⟨_, rfl, nofun⟩
      · exact .inr <| .inr <| .inr <| .inl rfl
  next hst =>
    split
    · exact .inl ⟨_, rfl, fun _ => by rw [hst]; rfl⟩
    · split
      · exact .inl ⟨_, rfl, (by nofun)⟩
      · exact .inr <| .inr <| .inr <| .inl rfl
  · exact .inr <| .inr <| .inr <| .inr rfl
  · exact .inr <| .inr <| .inr <| .inr rfl

/-- A state that differs from another in its stack, with reports raised that are no CUT. -/
def StackAndReports (s t : State) : Prop :=
  ∃ rs : List Report, (∀ r ∈ rs, r.kind ≠ .cut) ∧ t = rs.foldl State.raise (s.withStack t.stack)

theorem foldl_raise_withStack (rs : List Report) (s : State) (l : List Record) :
    rs.foldl State.raise (s.withStack l) = (rs.foldl State.raise s).withStack l := by
  induction rs generalizing s with
  | nil => rfl
  | cons r rs ih =>
    have hraise : (s.withStack l).raise r = (s.raise r).withStack l := by
      rw [State.raise_eq (s.withStack l), State.raise_port_congr (s := s.withStack l) (t := s) rfl, State.raise_eq s]
      rfl
    rw [List.foldl_cons, List.foldl_cons, hraise, ih]

theorem foldl_raise_stack (rs : List Report) (s : State) : (rs.foldl State.raise s).stack = s.stack :=
  foldl_keeps (R := fun s t => t.stack = s.stack) (fun _ => rfl) (fun h h' => h'.trans h) (fun s r => by simp) rs s

theorem StackAndReports.refl (s : State) : StackAndReports s s := ⟨[], by simp, rfl⟩

theorem StackAndReports.trans {s t u : State} (h : StackAndReports s t) (h' : StackAndReports t u) :
    StackAndReports s u := by
  obtain ⟨rs, hrs, ht⟩ := h
  obtain ⟨rs', hrs', hu⟩ := h'
  refine ⟨rs ++ rs', fun r hr => (List.mem_append.mp hr).elim (hrs r) (hrs' r), ?_⟩
  rw [List.foldl_append, foldl_raise_withStack, foldl_raise_withStack]
  rw [foldl_raise_withStack] at ht hu
  rw [ht] at hu
  calc u = ((rs'.foldl State.raise ((rs.foldl State.raise s).withStack t.stack))).withStack u.stack := hu
    _ = (rs'.foldl State.raise (rs.foldl State.raise s)).withStack u.stack := by rw [foldl_raise_withStack]; rfl

theorem stackAndReports_withStack_report (s : State) (l : List Record) {kind : ReportKind} (hk : kind ≠ .cut)
    (r : Resource) (g : Grant) (d : BitVec 4) : StackAndReports s ((s.withStack l).report kind r g d) :=
  ⟨[{ kind := kind, subject := r, grant := g, detail := d }], by simpa using hk, by simp [State.report]⟩

theorem settleRecord_stackAndReports (s : State) (k : Record) : StackAndReports s (s.settleRecord k) := by
  rcases settleRecord_cases s k with ⟨st, h, -⟩ | ⟨g, h⟩ | ⟨g, h⟩ | h | h <;> rw [h]
  · exact ⟨[], by simp, rfl⟩
  · exact stackAndReports_withStack_report s _ (by nofun) _ _ _
  · exact stackAndReports_withStack_report s _ (by nofun) _ _ _
  · exact stackAndReports_withStack_report s _ (by nofun) _ _ _
  · exact .refl s

theorem settleAll_stackAndReports (l : List Record) (s : State) : StackAndReports s (l.foldl State.settleRecord s) :=
  foldl_keeps .refl .trans settleRecord_stackAndReports l s

/-- A record is settled as an operation inside the station, where a pending one is the top one. -/
theorem settleRecord_inner (s : State) (k : Record)
    (hp : k.state.isPending = true → StackLaw s → ∀ x ∈ s.stack, x.resource ≤ k.resource) :
    Inner s (s.settleRecord k) := by
  rcases settleRecord_cases s k with ⟨st, h, hst⟩ | ⟨g, h⟩ | ⟨g, h⟩ | h | h <;> rw [h]
  · exact s.setRecord_inner _ st fun hpend => hp (hst hpend)
  · exact s.setAndReport_inner _ (by nofun) rfl _ _
  · exact s.popAndReport_inner _ (by nofun) _ _
  · exact s.popAndReport_inner _ (by nofun) _ _
  · exact .refl s

/-- Settling the records of a lawful stack, each pending one being the top one, keeps the stack lawful. -/
theorem settleAll_stackLaw (l : List Record) (s : State) (h : StackLaw s)
    (hp : ∀ k ∈ l, k.state.isPending = true → ∀ x ∈ s.stack, x.resource ≤ k.resource) :
    StackLaw (l.foldl State.settleRecord s) := by
  induction l generalizing s with
  | nil => exact h
  | cons k l ih =>
    have hinner := settleRecord_inner s k fun hpend _ => hp k (by simp) hpend
    refine ih _ (hinner.stack h) fun k' hk' hpend x hx => ?_
    obtain ⟨y, hy, hyx⟩ := hinner.resources x hx
    exact hyx ▸ hp k' (by simp [hk']) hpend y hy

theorem settleAll_resources (l : List Record) (s : State) :
    ∀ x ∈ (l.foldl State.settleRecord s).stack, ∃ y ∈ s.stack, y.resource = x.resource := by
  refine foldl_keeps (R := fun s t => ∀ x ∈ t.stack, ∃ y ∈ s.stack, y.resource = x.resource)
    (fun s x hx => ⟨x, hx, rfl⟩) (fun h h' x hx => ?_) (fun s k x hx => ?_) l s
  · obtain ⟨y, hy, hyx⟩ := h' x hx
    obtain ⟨z, hz, hzy⟩ := h y hy
    exact ⟨z, hz, hzy.trans hyx⟩
  · rcases settleRecord_cases s k with ⟨st, h, -⟩ | ⟨g, h⟩ | ⟨g, h⟩ | h | h <;> rw [h] at hx
    · obtain ⟨y, hy, rfl⟩ := List.mem_map.mp hx
      exact ⟨y, hy, by split <;> rfl⟩
    · exact (s.setAndReport_inner k.resource (k := .lapsed) (by nofun) rfl g 2).resources x hx
    · exact (s.popAndReport_inner k.resource (k := .released) (by nofun) g 2).resources x hx
    · exact (s.popAndReport_inner k.resource (k := .withdrawn) (by nofun) 0 2).resources x hx
    · exact ⟨x, hx, rfl⟩

end Sys2Proof.Machine

/-! PROOFS. What an application keeps, with the ways into MEMBER, RESYNC and READY that it can take (R34 to R45, R74 to
R79, R84 to R87, R108, R109, R202, R203). -/

namespace Sys2Proof.Machine

open Sys2Proof.Safety

/-! ## Reconciliation (R84 to R87) -/

theorem foldl_raise_inner (rs : List Report) (hrs : ∀ r ∈ rs, r.kind ≠ .cut) (s : State) :
    Inner s (rs.foldl State.raise s) := by
  induction rs generalizing s with
  | nil => exact .refl s
  | cons r rs ih =>
    have hr := hrs r (by simp)
    exact (s.raise_inner r fun h => absurd h hr).trans (ih (fun x hx => hrs x (by simp [hx])) _)

theorem foldl_raise_tables (rs : List Report) (s : State) :
    (rs.foldl State.raise s).table = s.table ∧ (rs.foldl State.raise s).timer = s.timer :=
  foldl_keeps (R := fun s t => t.table = s.table ∧ t.timer = s.timer) (fun _ => ⟨rfl, rfl⟩)
    (fun h h' => ⟨h'.1.trans h.1, h'.2.trans h.2⟩) (fun s r => by simp) rs s

/-- What settling the records of the stack leaves alone. -/
theorem settleAll_frame (s : State) : (s.stack.foldl State.settleRecord s).ctl = s.ctl ∧
    (s.stack.foldl State.settleRecord s).table = s.table ∧ (s.stack.foldl State.settleRecord s).timer = s.timer := by
  obtain ⟨rs, hrs, ht⟩ := settleAll_stackAndReports s.stack s
  obtain ⟨htable, htimer⟩ := foldl_raise_tables rs (s.withStack (s.stack.foldl State.settleRecord s).stack)
  rw [ht, htable, htimer, (foldl_raise_inner rs hrs _).ctl]
  exact ⟨rfl, rfl, rfl⟩

theorem settleAll_core (s : State) : Core s (s.stack.foldl State.settleRecord s) := by
  obtain ⟨rs, hrs, ht⟩ := settleAll_stackAndReports s.stack s
  have hinner : Inner (s.withStack (s.stack.foldl State.settleRecord s).stack) (s.stack.foldl State.settleRecord s) := by
    conv_rhs => rw [ht]
    exact foldl_raise_inner rs hrs _
  exact ⟨hinner.line, hinner.pending, by rw [hinner.ctl]; rfl, by rw [hinner.ctl]; rfl,
    by rw [hinner.ctl]; exact ⟨rfl, rfl⟩, hinner.onLine,
    fun h => settleAll_stackLaw s.stack s h fun k hk hp => stackLaw_pending_top h hk hp,
    hinner.report, hinner.armed, hinner.queue⟩

/-- Reconciliation settles the records, and then exhausts the station or makes it MEMBER. -/
theorem reconcile_cases (s : State) :
    s.reconcile = (s.stack.foldl State.settleRecord s).exhaust ∨
      (s.reconcile.ctl = { s.ctl with station := .member, exhausted := false } ∧
        s.reconcile.table = { s.table with imagePending := none } ∧
        s.reconcile.timer.countdowns = s.timer.countdowns ∧ Core s s.reconcile) := by
  obtain ⟨hctl, htable, htimer⟩ := settleAll_frame s
  unfold State.reconcile
  dsimp only
  split
  · exact .inl rfl
  · refine .inr ⟨by simp [hctl], by simp [htable], by simp [htimer], ?_⟩
    exact (settleAll_core s).trans <| (core_withCtl _ .member false).trans <| (State.stopWaits_inner _).core.trans <|
      (core_withTable _ _).trans <| (State.raise_inner _ _ (by nofun)).core.trans
        (State.evalGates_inner _ (by decide)).core

theorem settleAll_keeps {s : State} (hst : s.ctl.station = .resync) :
    Keeps s (s.stack.foldl State.settleRecord s) := by
  obtain ⟨hctl, htable, -⟩ := settleAll_frame s
  have hl : s.listening = true := by rw [State.listening, hst]; rfl
  refine (settleAll_core s).keeps ?_ fun hq => ?_
  · unfold TransferLaw State.self
    rw [hctl, htable]
    exact id
  · exact quietLaw_of_listening (by rw [State.listening, hctl]; exact hl) (by rw [hctl]; exact quietLaw_inReset hq hl)
      (by rw [hctl, hst]; nofun) (by rw [hctl]; exact fun _ => hst)

theorem reconcile_keeps {s : State} (hst : s.ctl.station = .resync) : Keeps s s.reconcile := by
  have hl : s.listening = true := by rw [State.listening, hst]; rfl
  obtain h | ⟨hctl, htable, -, hcore⟩ := reconcile_cases s
  · rw [h]
    exact (settleAll_keeps hst).trans (exhaust_keeps (by rw [(settleAll_frame s).1]; exact hst))
  · refine hcore.keeps (transferLaw_of_member (by rw [hctl]) (by rw [hctl]) (by rw [htable])) fun hq => ?_
    exact quietLaw_of_listening (by rw [State.listening, hctl]; rfl) (by rw [hctl]; exact quietLaw_inReset hq hl)
      (by rw [hctl]; nofun) (by rw [hctl]; nofun)

theorem reconcile_listening {s : State} (hl : s.listening = true) : s.reconcile.listening = true := by
  obtain h | ⟨hctl, -⟩ := reconcile_cases s
  · rw [h, State.listening, exhaust_ctl, (settleAll_frame s).1]
    exact hl
  · rw [State.listening, hctl]
    rfl

/-! ## JOIN and SYNC (R34 to R37) -/

theorem State.ownJoinApplied_inner (s : State) (a : Fin 4) (source : Option Station) :
    Inner s (s.ownJoinApplied a source) := by
  unfold State.ownJoinApplied
  split
  · dsimp only
    have hfirst : Inner s (s.withTable { s.table with imagePending := some (ImagePending.fresh a) }) :=
      .of_same (by simp [SameBlocks])
    split
    · exact hfirst.trans (State.startImageWait_inner _)
    · exact hfirst.trans (State.startJoinWait_inner _)
  · exact .refl s

theorem State.joinEffects_inner (s : State) (u : Station) (b : Byte) (p : Params) : Inner s (s.joinEffects u b p) := by
  unfold State.joinEffects
  split
  next a _ _ =>
    dsimp only
    refine Inner.trans (t := if (s.recordOfStation u).isMember then
        (if u = s.self then s else s.reportPeer .peerGone u 2).purge u else s) ?_ ?_
    · split
      · refine Inner.trans ?_ (State.purge_inner _ u)
        split
        · exact .refl s
        · exact s.reportPeer_inner (by nofun) ..
      · exact .refl s
    · generalize (if (s.recordOfStation u).isMember then _ else s) = s1
      have hsource : chooseSource s1.table.members u a ≠ some u := fun h => (chooseSource_mem h).1 rfl
      generalize chooseSource s1.table.members u a = source at hsource
      split
      · exact ((s1.setMember_inner u _).trans (State.ownJoinApplied_inner ..)).trans
          (State.takeTransfer_inner _ u a _ hsource)
      · exact (s1.setMember_inner u _).trans (State.takeTransfer_inner _ u a _ hsource)
  next => exact .refl s

theorem ownSyncApplied_listening {s : State} (hl : s.listening = true) (a : Fin 4) (source : Option Station) :
    (s.ownSyncApplied a source).listening = true := by
  unfold State.ownSyncApplied
  split
  · split
    · simpa [State.listening] using hl
    · exact reconcile_listening hl
  · exact hl

theorem ownSyncApplied_keeps {s : State} (hl : s.listening = true) (a : Fin 4) (source : Option Station) :
    Keeps s (s.ownSyncApplied a source) := by
  unfold State.ownSyncApplied
  split
  next hst =>
    split
    · have hfirst : Inner s (s.withTable { s.table with imagePending := some (ImagePending.fresh a) }) :=
        .of_same (by simp [SameBlocks])
      exact (hfirst.trans (State.startImageWait_inner _)).keeps hl
    · exact reconcile_keeps hst
  next => exact .refl s

theorem syncEffects_keeps {s : State} (hl : s.listening = true) (u : Station) (b : Byte) :
    Keeps s (s.syncEffects u b) := by
  unfold State.syncEffects
  split
  next a _ =>
    split
    · dsimp only
      have hsource : chooseSource s.table.members u a ≠ some u := fun h => (chooseSource_mem h).1 rfl
      generalize chooseSource s.table.members u a = source at hsource
      generalize MemberRecord.member _ = m
      have hset : Keeps s (s.setMember u m) := (s.setMember_inner u m).keeps hl
      have hl' : (s.setMember u m).listening = true := hl
      split
      · exact (hset.trans (ownSyncApplied_keeps hl' a source)).trans
          ((State.takeTransfer_inner _ u a _ hsource).keeps (ownSyncApplied_listening hl' _ _))
      · exact hset.trans ((State.takeTransfer_inner _ u a _ hsource).keeps hl')
    · exact .refl s
  next => exact .refl s

/-! ## FOUND (R38) -/

theorem becomeMember_listening (s : State) (f : Bool) : (s.becomeMember f).listening = true := by
  rw [State.listening, becomeMember_ctl]
  rfl

theorem foundEffects_keeps {s : State} (hl : s.listening = true) (u : Station) (p : Params) :
    Keeps s (s.foundEffects u p) := by
  unfold State.foundEffects
  split
  · exact .refl s
  · dsimp only
    have hfirst : Inner s ((s.withTable { s.table with entries := Vector.replicate 16 Entry.clear,
                                                       members := foundedMembers s.table.members,
                                                       bank := some p }).withTimer { s.timer with countdowns := [] }) :=
      .of_same (by simp [SameBlocks])
    refine (hfirst.keeps hl).trans ?_
    split
    next h =>
      exact (becomeMember_keeps (by simpa using h.2) true).trans
        ((State.reportJoined_inner _ s).keeps (becomeMember_listening _ _))
    next => exact (State.reportJoined_inner _ s).keeps hl

/-! ## Back to READY (R90, R108, R109, R201 to R203) -/

theorem queueLaw_clear {s : State} (h : s.sendq = SendQueue.clear) : QueueLaw s := by
  unfold QueueLaw
  rw [h]
  decide

/-- A station that has closed every gate because it is no MEMBER. -/
theorem evalGates_closed {s : State} (hst : s.ctl.station ≠ .member) (d : BitVec 4) (n : Fin 8) :
    (s.evalGates d).gate[n].opened = false := by
  rw [State.evalGates_gate]
  simp [State.gateCondition, hst]

theorem toReady_keeps {s : State} (hl : s.listening = true) (hlapsed : QuietLaw s → ∀ k ∈ s.stack, isLapsed k = true)
    {d : BitVec 4} (hd : d.toNat ≤ 3) : Keeps s ((s.clearToReady).evalGates d) := by
  have hinner : Inner s.clearToReady ((s.clearToReady).evalGates d) := State.evalGates_inner _ hd
  obtain ⟨hctl, htable, htimer, hsendq, hstack, -, hline, -⟩ := (s.clearToReady).evalGates_frame d
  refine ⟨⟨hinner.pending, hinner.stack, hinner.report, ?_, hinner.armed, fun _ => ?_, fun hq => ?_⟩, fun _ h => ?_⟩
  · unfold ConfigLaw
    rw [hctl]
    exact id
  · exact transferLaw_of_nil (by rw [htable]; rfl)
  · have hr := quietLaw_inReset hq hl
    unfold QuietLaw
    rw [hctl, htable, htimer, hsendq, hstack, hline]
    refine ⟨fun _ => ⟨rfl, rfl, rfl, rfl, ?_, rfl, evalGates_closed (fun h => StationState.noConfusion h) d⟩, nofun, fun _ => hlapsed hq, nofun, nofun, ?_⟩
    · show (if s.line.state = some .sending then _ else s.line.state) ≠ _
      split
      · decide
      next h => exact h
    · show s.ctl.inReset = true → _
      rw [hr]
      nofun
  · refine ⟨queueLaw_clear (by rw [hsendq]; rfl), ?_⟩
    obtain ⟨-, -, -, -, hstreak, hcount⟩ := h
    unfold LineLaw
    rw [hsendq, hline]
    have hstate : (s.clearToReady).line.state ≠ some .sending := by
      show (if s.line.state = some .sending then _ else s.line.state) ≠ _
      split
      · decide
      next h => exact h
    refine ⟨?_, nofun, fun _ => rfl, Nat.zero_le _, hstreak, hcount⟩
    rw [if_neg (by rintro (h | h); exacts [hstate h, Bool.false_ne_true h])]
    rfl

/-! ### The records at a teardown -/

/-- What visiting a record of the stack does to the stack: one that is not LAPSED goes, or becomes LAPSED. -/
def Visited (s : State) (k : Record) (t : State) : Prop :=
  Inner s t ∧ ∀ x ∈ t.stack, isLapsed x = true ∨ x ∈ s.stack ∧ (isLapsed k = false → x.resource ≠ k.resource)

/-- When every record has been visited only LAPSED ones are left. -/
theorem lapsed_of_visited {f : State → Record → State} (h : ∀ s k, Visited s k (f s k)) (l : List Record) (s : State)
    (hl : ∀ x ∈ s.stack, isLapsed x = true ∨ ∃ k ∈ l, k.resource = x.resource ∧ isLapsed k = false) :
    ∀ x ∈ (l.foldl f s).stack, isLapsed x = true := by
  induction l generalizing s with
  | nil => exact fun x hx => (hl x hx).elim id fun ⟨k, hk, _⟩ => absurd hk (by simp)
  | cons k l ih =>
    refine ih (f s k) fun x hx => ?_
    obtain hx | ⟨hx, hne⟩ := (h s k).2 x hx
    · exact .inl hx
    · obtain hx | ⟨k', hk', hres, hk'lapsed⟩ := hl x hx
      · exact .inl hx
      · obtain rfl | hk' := List.mem_cons.mp hk'
        · exact absurd hres.symm (hne hk'lapsed)
        · exact .inr ⟨k', hk', hres, hk'lapsed⟩

theorem popAndReport_visited (s : State) (k : Record) {kind : ReportKind} (hk : kind ≠ .cut) (g : Grant)
    (d : BitVec 4) : Visited s k ((s.popRecord k.resource).report kind k.resource g d) := by
  refine ⟨s.popAndReport_inner _ hk _ _, fun x hx => .inr ?_⟩
  obtain ⟨hx, hne⟩ : x ∈ s.stack ∧ x.resource ≠ k.resource := by simpa [State.popRecord] using hx
  exact ⟨hx, fun _ => hne⟩

theorem setLapsed_visited (s : State) (k : Record) (g : Grant) (d : BitVec 4) :
    Visited s k ((s.setRecord k.resource (.lapsed g)).report .lapsed k.resource g d) := by
  refine ⟨s.setAndReport_inner _ (by nofun) rfl _ _, fun x hx => ?_⟩
  replace hx : x ∈ (s.setRecord k.resource (.lapsed g)).stack := by simpa [State.report] using hx
  obtain ⟨y, hy, rfl⟩ := List.mem_map.mp hx
  split
  · exact .inl rfl
  next hne => exact .inr ⟨hy, fun _ => hne⟩

theorem Visited.evalResource {s t : State} {k : Record} (h : Visited s k t) (r : Resource) {d : BitVec 4}
    (hd : d.toNat ≤ 3) (g : Grant) : Visited s k (t.evalResource r d g) :=
  ⟨h.1.trans (State.evalResource_inner _ _ hd _), by simpa using h.2⟩

theorem visited_of_lapsed (s : State) {k : Record} {g : Grant} (hk : k.state = .lapsed g) : Visited s k s :=
  ⟨.refl s, fun x hx => .inr ⟨hx, fun h => absurd h (by simp [isLapsed, hk])⟩⟩

theorem leaveRecord_visited (s : State) (k : Record) : Visited s k (s.leaveRecord k) := by
  unfold State.leaveRecord
  split
  · exact popAndReport_visited s k (by nofun) _ _
  · exact popAndReport_visited s k (by nofun) _ _
  · exact popAndReport_visited s k (by nofun) _ _
  · exact popAndReport_visited s k (by nofun) _ _
  · exact (popAndReport_visited s k (by nofun) _ _).evalResource _ leaveCutDetail_le _
  · exact (popAndReport_visited s k (by nofun) _ _).evalResource _ leaveCutDetail_le _
  next hk => exact visited_of_lapsed s hk

theorem evictRecord_visited (s : State) (k : Record) : Visited s k (s.evictRecord k) := by
  unfold State.evictRecord
  split
  · exact popAndReport_visited s k (by nofun) _ _
  · exact popAndReport_visited s k (by nofun) _ _
  · exact popAndReport_visited s k (by nofun) _ _
  · exact popAndReport_visited s k (by nofun) _ _
  · exact (setLapsed_visited s k _ _).evalResource _ (by decide) _
  · exact (setLapsed_visited s k _ _).evalResource _ (by decide) _
  next hk => exact visited_of_lapsed s hk

/-- A report changes nothing but the port. -/
theorem raise_keeps (s : State) {r : Report} (hr : r.kind = .cut → r.detail.toNat ≤ 3) : Keeps s (s.raise r) := by
  have hinner := s.raise_inner r hr
  refine hinner.core.keeps hinner.transfer ?_
  rw [State.raise_eq]
  exact id

/-- The records are visited from top to bottom, and the station is READY. -/
theorem teardown_keeps {s : State} (hl : s.listening = true) {f : State → Record → State}
    (hf : ∀ s k, Visited s k (f s k)) {d : BitVec 4} (hd : d.toNat ≤ 3) {r : Report} (hr : r.kind ≠ .cut) :
    Keeps s ((((s.stack.reverse.foldl f ((s.withTable TableUnit.clear).withTimer TimerUnit.clear)).clearToReady).evalGates
      d).raise r) := by
  have hcleared : Keeps s ((s.withTable TableUnit.clear).withTimer TimerUnit.clear) :=
    ((core_withTable s _).trans (State.withTimer_inner _ _).core).keeps (fun _ => transferLaw_of_nil rfl) fun hq =>
      quietLaw_of_listening hl (quietLaw_inReset (s := s) hq hl) (quietLaw_joining_stack (s := s) hq)
        (quietLaw_exhausted (s := s) hq)
  generalize hs' : (s.withTable TableUnit.clear).withTimer TimerUnit.clear = s' at hcleared
  have hl' : s'.listening = true := hs' ▸ hl
  have hstack : s'.stack = s.stack := hs' ▸ rfl
  have hvisited : Inner s' (s.stack.reverse.foldl f s') := Inner.foldl s.stack.reverse s' fun s k => (hf s k).1
  have hlapsed := lapsed_of_visited hf s.stack.reverse s' fun x hx => by
    cases hx' : isLapsed x
    · exact .inr ⟨x, List.mem_reverse.mpr (hstack ▸ hx), rfl, hx'⟩
    · exact .inl rfl
  have hready := toReady_keeps (s := s.stack.reverse.foldl f s')
    (by rw [State.listening, hvisited.ctl]; exact hl') (fun _ => hlapsed) hd
  exact ((hcleared.trans (hvisited.keeps hl')).trans hready).trans (raise_keeps _ fun h => absurd h hr)

theorem teardownLeave_keeps {s : State} (hl : s.listening = true) (d : BitVec 4) : Keeps s (s.teardownLeave d) :=
  teardown_keeps hl leaveRecord_visited leaveCutDetail_le (by nofun)

theorem teardownEvict_keeps {s : State} (hl : s.listening = true) : Keeps s s.teardownEvict :=
  teardown_keeps hl evictRecord_visited (by decide) (by nofun)

theorem leaveEffects_keeps {s : State} (hl : s.listening = true) (u : Station) : Keeps s (s.leaveEffects u) := by
  unfold State.leaveEffects
  split
  · exact .refl s
  · split
    · exact teardownLeave_keeps hl _
    · exact (s.departure_inner u 0).keeps hl

theorem evictEffects_keeps {s : State} (hl : s.listening = true) (u : Station) (b : Byte) :
    Keeps s (s.evictEffects u b) := by
  unfold State.evictEffects
  split
  · split
    · exact .refl s
    · split
      · exact teardownEvict_keeps hl
      · exact (s.departure_inner _ 1).keeps hl
  · exact .refl s

/-! ## IMAGE and PRESENCE (R43, R70, R74, R76, R78) -/

theorem completeJoin_keeps {s : State} (hj : s.ctl.station = .joining) : Keeps s s.completeJoin := by
  have hl : s.listening = true := by rw [State.listening, hj]; rfl
  unfold State.completeJoin
  split
  · exact .refl s
  · split
    · exact .refl s
    · dsimp only
      have hj' : (s.setMember s.self (.member none)).ctl.station = .joining := hj
      have hmember : Keeps s ((s.setMember s.self (.member none)).becomeMember false) :=
        ((s.setMember_inner _ _).keeps hl).trans (becomeMember_keeps hj' false)
      split
      · exact hmember.trans (enterResync_keeps (becomeMember_listening _ _) 1)
      · exact hmember

theorem completeResync_keeps {s : State} (hst : s.ctl.station = .resync) (a : Fin 4) :
    Keeps s (s.completeResync a) := by
  have hl : s.listening = true := by rw [State.listening, hst]; rfl
  unfold State.completeResync
  dsimp only
  have hfirst := (s.setMember_inner s.self (.member none)).trans (State.stopWaits_inner _)
  have hst' : ((s.setMember s.self (.member none)).stopWaits).ctl.station = .resync := hst
  split
  · exact hfirst.keeps hl
  · split
    · exact (hfirst.keeps hl).trans (reconcile_keeps hst')
    · split
      · exact (hfirst.trans (State.updateImagePending_inner _ _)).keeps hl
      · exact (hfirst.keeps hl).trans (exhaust_keeps hst')

theorem lastEffects_keeps {s : State} (hl : s.listening = true) (v : Station) (a : Fin 4) :
    Keeps s (s.lastEffects v a) := by
  unfold State.lastEffects
  split
  · split
    · exact .refl s
    · split
      next h => exact completeJoin_keeps h.2
      next =>
        split
        · exact (s.setMember_inner _ _).keeps hl
        · exact ((s.setMember_inner _ _).trans (State.reportPeer_inner _ (by nofun) _ _)).keeps hl
  · split
    · exact .refl s
    · split
      next h => exact completeResync_keeps h.2 a
      next => exact (s.setMember_inner _ _).keeps hl
  · exact .refl s

theorem completeJoin_listening {s : State} (hl : s.listening = true) : s.completeJoin.listening = true := by
  unfold State.completeJoin
  split
  · exact hl
  · split
    · exact hl
    · dsimp only
      split
      · rw [State.listening, enterResync_ctl]
        rfl
      · exact becomeMember_listening _ _

theorem completeResync_listening {s : State} (hl : s.listening = true) (a : Fin 4) :
    (s.completeResync a).listening = true := by
  unfold State.completeResync
  dsimp only
  split
  · exact hl
  · split
    · exact reconcile_listening hl
    · split
      · exact hl
      · rw [State.listening, exhaust_ctl]
        exact hl

theorem lastEffects_listening {s : State} (hl : s.listening = true) (v : Station) (a : Fin 4) :
    (s.lastEffects v a).listening = true := by
  unfold State.lastEffects
  split
  · split
    · exact hl
    · split
      · exact completeJoin_listening hl
      · split
        · exact hl
        · rw [State.listening, (State.reportPeer_inner _ (by nofun) _ _).ctl]
          exact hl
  · split
    · exact hl
    · split
      · exact completeResync_listening hl a
      · exact hl
  · exact hl

theorem imageEffects_keeps {s : State} (hl : s.listening = true) (u v : Station) (a : Fin 4) (last : Bool)
    (c : PartContent) : Keeps s (s.imageEffects u v a last c) := by
  have hinstall := s.installPart_inner v a last c
  have hl' : (s.installPart v a last c).listening = true := by
    rw [State.listening, hinstall.ctl]
    exact hl
  unfold State.imageEffects
  dsimp only
  split
  · exact ((hinstall.keeps hl).trans (lastEffects_keeps hl' v a)).trans
      ((State.advanceTransfer_inner _ _ _ _ _ _).keeps (lastEffects_listening hl' v a))
  · exact (hinstall.trans (State.advanceTransfer_inner _ _ _ _ _ _)).keeps hl

theorem presenceEffects_keeps {s : State} (hl : s.listening = true) (u : Station) (v : Bool) (d : BitVec 16) :
    Keeps s (s.presenceEffects u v d) := by
  unfold State.presenceEffects
  split
  · exact enterResync_keeps hl 0
  · exact .refl s

/-! ## One application (R6) -/

theorem takeNotice_onLine (s : State) (n : Notice) (rest : List Notice) :
    (s.takeNotice n rest).sendq.onLine = s.sendq.onLine := rfl

theorem takeNotice_keeps {s : State} {n : Notice} {rest : List Notice} (h : s.line.inbound = n :: rest) :
    Keeps s (s.takeNotice n rest) := by
  have hawait (p : Place) : awaitingIn (s.takeNotice n rest).sendq p ≤ awaitingIn s.sendq p := by
    show awaitingIn { s.sendq with awaiting := if n.sender = s.self then none else s.sendq.awaiting } p ≤ _
    split
    · exact Nat.zero_le _
    · exact Nat.le_refl _
  refine ⟨⟨rfl, id, id, id, id, id, fun hq => ?_⟩, fun hqueue hline => ⟨?_, ?_⟩⟩
  · obtain ⟨hquiet, hempty, hready, hex, hfault, hreset⟩ := hq
    have hoff : s.line ≠ LineUnit.off := fun ho => by rw [ho] at h; cases h
    refine ⟨fun hst => ?_, hempty, hready, hex, fun hst => absurd (hfault hst) hoff,
      fun hr => absurd (hreset hr).2 hoff⟩
    obtain ⟨-, -, -, hinbound, -⟩ := hquiet hst
    rw [hinbound] at h
    cases h
  · obtain ⟨hhost, himage, hpresence, hgeneral, hnodup⟩ := hqueue
    exact ⟨(Nat.add_le_add_left (hawait _) _).trans hhost, (Nat.add_le_add_left (hawait _) _).trans himage, hpresence,
      hgeneral, hnodup⟩
  · obtain ⟨hone, hconf, hempty, hlen, hstreak, hcount⟩ := hline
    refine ⟨hone, hconf, fun hbusy => ?_, ?_, hstreak, hcount⟩
    · have hnil := hempty hbusy
      rw [h] at hnil
      cases hnil
    · rw [h] at hlen
      exact (Nat.le_succ _).trans hlen

theorem applyNotice_keeps {s : State} {n : Notice} {rest : List Notice} (h : s.line.inbound = n :: rest)
    {effects : State → State} (he : ∀ t : State, t.listening = true → Keeps t (effects t)) :
    Keeps s (s.applyNotice n rest effects) := by
  have htake := takeNotice_keeps h
  unfold State.applyNotice
  dsimp only
  split
  next hl =>
    have hl' : ((s.takeNotice n rest).evidence n).listening = true := by
      rw [State.listening, (State.evidence_inner _ n).ctl]
      exact hl
    have heffects := ((State.evidence_inner _ n).keeps hl).trans (he _ hl')
    refine htake.trans (heffects.trans ?_)
    cases hlt : (effects ((s.takeNotice n rest).evidence n)).listening
    · rw [State.finish, if_neg (by simp [hlt])]
      exact .refl _
    · exact (State.finish_inner _ _).keeps hlt
  next => exact htake

/-- The rows of the applications keep the laws. -/
theorem applications_keep (s : State) :
    Keeps s s.applyClaim ∧ Keeps s s.applyRelease ∧ Keeps s s.applyWithdraw ∧ Keeps s s.applyLapse ∧
      Keeps s s.applyRenew ∧ Keeps s s.applyJoin ∧ Keeps s s.applySync ∧ Keeps s s.applyFound ∧
      Keeps s s.applyLeave ∧ Keeps s s.applyEvict ∧ Keeps s s.applyImage ∧ Keeps s s.applyPresence := by
  refine ⟨?_, ?_, ?_, ?_, ?_, ?_, ?_, ?_, ?_, ?_, ?_, ?_⟩
  · unfold State.applyClaim
    split
    next h => exact applyNotice_keeps h fun t ht => (t.claimEffects_inner ..).keeps ht
    next => exact .refl s
  · unfold State.applyRelease
    split
    next h => exact applyNotice_keeps h fun t ht => (t.holdEffects_inner ..).keeps ht
    next => exact .refl s
  · unfold State.applyWithdraw
    split
    next h => exact applyNotice_keeps h fun t ht => (t.withdrawEffects_inner ..).keeps ht
    next => exact .refl s
  · unfold State.applyLapse
    split
    next h => exact applyNotice_keeps h fun t ht => (t.lapseEffects_inner ..).keeps ht
    next => exact .refl s
  · unfold State.applyRenew
    split
    next h => exact applyNotice_keeps h fun t ht => (Inner.foldl _ t fun t i => t.renewItem_inner ..).keeps ht
    next => exact .refl s
  · unfold State.applyJoin
    split
    next h => exact applyNotice_keeps h fun t ht => (t.joinEffects_inner ..).keeps ht
    next => exact .refl s
  · unfold State.applySync
    split
    next h => exact applyNotice_keeps h fun t ht => syncEffects_keeps ht ..
    next => exact .refl s
  · unfold State.applyFound
    split
    next h => exact applyNotice_keeps h fun t ht => foundEffects_keeps ht ..
    next => exact .refl s
  · unfold State.applyLeave
    split
    next h => exact applyNotice_keeps h fun t ht => leaveEffects_keeps ht ..
    next => exact .refl s
  · unfold State.applyEvict
    split
    next h => exact applyNotice_keeps h fun t ht => evictEffects_keeps ht ..
    next => exact .refl s
  · unfold State.applyImage
    split
    next h => exact applyNotice_keeps h fun t ht => imageEffects_keeps ht ..
    next => exact .refl s
  · unfold State.applyPresence
    split
    next h => exact applyNotice_keeps h fun t ht => presenceEffects_keeps ht ..
    next => exact .refl s

end Sys2Proof.Machine

/-! PROOFS. What the line events, the host commands, the resets, the pins and the timers keep; and the laws that every
step keeps (R69, R89, R90, R112, R124, R128, R162, R168, R186, R195, R199 to R205). -/

namespace Sys2Proof.Machine

open Sys2Proof.Safety

/-! ## The line unit between frames (R143, R154, R155, R158) -/

/-- A line unit that is not sending, with no conflict to settle, within its bounds. -/
def LineReady (l : LineUnit) : Prop :=
  l.state ≠ some .sending ∧ l.conflictPending = false ∧ l.inbound.length ≤ Config.inboundCapacity ∧
    l.vetoStreak ≤ Config.vetoStreakLimit ∧ l.conflictCount < Config.conflictLimit

theorem lineReady_off : LineReady LineUnit.off := ⟨by decide, rfl, by decide, by decide, by decide⟩

theorem lineReady_afterReset : LineReady LineUnit.afterReset := ⟨by decide, rfl, by decide, by decide, by decide⟩

theorem lineLaw_of_ready {s : State} (h : LineReady s.line) (hon : s.sendq.onLine = []) : LineLaw s := by
  obtain ⟨hstate, hconf, hbounds⟩ := h
  unfold LineLaw
  rw [show (s.sendq.frames.filter fun f => !f.isQueued) = [] from hon, hconf]
  exact ⟨by simp [hstate], nofun, by simp [hstate], hbounds⟩

/-- Where nothing of this station is on the line, the line unit is ready. -/
theorem ready_of_lineLaw {s : State} (h : LineLaw s) (hstate : s.line.state ≠ some .sending)
    (hconf : s.line.conflictPending = false) : LineReady s.line ∧ s.sendq.onLine = [] := by
  obtain ⟨hone, -, -, hbounds⟩ := h
  refine ⟨⟨hstate, hconf, hbounds⟩, List.length_eq_zero_iff.mp (hone.trans (if_neg ?_))⟩
  rw [hconf]
  rintro (h | h)
  · exact hstate h
  · cases h

theorem SendQueue.onLine_removeOnLine (q : SendQueue) : q.removeOnLine.onLine = [] := by
  simp [SendQueue.onLine, SendQueue.removeOnLine, List.filter_filter]

theorem SendQueue.onLine_returnOnLine (q : SendQueue) (n : Nat) : (q.returnOnLine n).onLine = [] := by
  refine List.filter_eq_nil_iff.mpr fun f hf => ?_
  obtain ⟨x, -, rfl⟩ := List.mem_map.mp hf
  split
  next h => simp [h]
  next => simp [QFrame.isQueued]

/-- Frames change that keep their places and targets. -/
theorem queueLaw_map {s : State} (h : QueueLaw s) {g : QFrame → QFrame} (hplace : ∀ f, (g f).place = f.place)
    (htarget : ∀ f, (g f).body.target = f.body.target) :
    QueueLaw (s.withSendq { s.sendq with frames := s.sendq.frames.map g }) := by
  have hinPlace (p : Place) : ({ s.sendq with frames := s.sendq.frames.map g } : SendQueue).inPlace p =
      s.sendq.inPlace p := by
    unfold SendQueue.inPlace
    rw [List.filter_map, List.length_map]
    exact congrArg List.length (List.filter_congr fun f _ => by simp [hplace])
  have htargets : (s.sendq.frames.map g).map (fun f => f.body.target) = s.sendq.frames.map fun f => f.body.target := by
    rw [List.map_map]
    exact List.map_congr_left fun f _ => htarget f
  unfold QueueLaw
  simp only [State.withSendq_sendq, hinPlace, htargets]
  exact h

theorem queueLaw_returnOnLine {s : State} (h : QueueLaw s) (n : Nat) :
    QueueLaw (s.withSendq (s.sendq.returnOnLine n)) :=
  queueLaw_map h (fun f => by split <;> rfl) (fun f => by split <;> rfl)

theorem queueLaw_removeOnLine {s : State} (h : QueueLaw s) : QueueLaw (s.withSendq s.sendq.removeOnLine) :=
  queueLaw_of_sublist h List.filter_sublist rfl

theorem onLineFrame_none {s : State} (h : s.onLineFrame = none) : s.sendq.onLine = [] := by
  rw [State.onLineFrame, List.find?_eq_none] at h
  exact List.filter_eq_nil_iff.mpr h

/-! ## A frame that comes back (R130 to R137) -/

/-- A frame leaves the queue, or another send queue takes the old one's place, as long as one listens. -/
theorem Rest.of_sendq {s : State} (hl : s.listening = true) (q : SendQueue) : Rest s (s.withSendq q) :=
  ⟨rfl, id, id, id, id, id, fun hq => quietLaw_of_listening hl (quietLaw_inReset (s := s) hq hl)
    (quietLaw_joining_stack (s := s) hq) (quietLaw_exhausted (s := s) hq)⟩

theorem State.evalGates_keeps_leave {s : State} (hst : s.ctl.station = .leaving) :
    Keeps s (((s.withCtl { s.ctl with station := .member }).stateCheck).evalGates 3) := by
  have hcore : Core s (((s.withCtl { s.ctl with station := .member }).stateCheck).evalGates 3) :=
    (core_withCtl s .member s.ctl.exhausted).trans <|
      (State.stateCheck_inner _).core.trans (State.evalGates_inner _ (by decide)).core
  have hctl : (((s.withCtl { s.ctl with station := .member }).stateCheck).evalGates 3).ctl =
      { s.ctl with station := .member } := by simp
  refine hcore.keeps (transferLaw_of_member (by rw [hctl]) (by rw [hctl]) (by simp)) fun hq => ?_
  have hl : s.listening = true := by rw [State.listening, hst]; rfl
  refine quietLaw_of_listening (by rw [State.listening, hctl]; rfl) (by rw [hctl]; exact quietLaw_inReset hq hl)
    (by rw [hctl]; nofun) ?_
  rw [hctl]
  exact fun h => absurd (quietLaw_exhausted hq h) (by rw [hst]; nofun)

theorem State.recordOf_any {s : State} {r : Resource} {p : Record → Bool} (h : (s.recordOf r).any p = true) :
    ∃ k, s.recordOf r = some k ∧ p k = true := by
  cases hk : s.recordOf r with
  | none => rw [hk] at h; cases h
  | some k => rw [hk] at h; exact ⟨k, rfl, h⟩

/-- What acts inside the station, or at a listening one. -/
def Acts (s t : State) : Prop := Inner s t ∨ s.listening = true ∧ Keeps s t

theorem Inner.acts_trans {s t u : State} (h : Inner s t) (h' : Acts t u) : Acts s u := by
  obtain h' | ⟨hl, h'⟩ := h'
  · exact .inl (h.trans h')
  · have hl' : s.listening = true := by rwa [State.listening, h.ctl] at hl
    exact .inr ⟨hl', (h.keeps hl').trans h'⟩

theorem State.hostDrop_acts (s : State) (b : QBody) : Acts s (s.hostDrop b) := by
  unfold State.hostDrop
  split
  · split
    · exact .inl (s.popRecord_inner _)
    · exact .inl (.refl s)
  · split
    next howed =>
      obtain ⟨k, hk, hkowes⟩ := State.recordOf_any howed
      refine .inl (s.setRecord_inner _ _ fun _ h => State.pending_of_record hk ?_ h)
      rw [of_decide_eq_true hkowes]
      rfl
    next => exact .inl (.refl s)
  · split
    next h =>
      have hl : s.listening = true := by rw [State.listening, h]; rfl
      exact .inr ⟨hl, toReady_keeps hl (fun hq => by rw [quietLaw_joining_stack hq h]; nofun) (by decide)⟩
    next => exact .inl (.refl s)
  · split
    next h => exact .inr ⟨by rw [State.listening, h]; rfl, State.evalGates_keeps_leave h⟩
    next => exact .inl (.refl s)
  · exact .inl (.refl s)

theorem State.dropFrame_acts (s : State) (f : QFrame) : Acts s (s.dropFrame f) := by
  unfold State.dropFrame
  split
  · exact (s.raise_inner _ (by nofun)).acts_trans (State.hostDrop_acts _ _)
  · split
    · exact .inl ((Inner.of_transfers _ (List.filter_sublist.map _)).trans (State.placeImage_inner _))
    · exact .inl (.refl s)

theorem listening_of_onLineFrame {s : State} (hq : QuietLaw s) (h : s.onLineFrame ≠ none) : s.listening = true := by
  rw [← Bool.not_eq_false]
  intro hl
  refine h ?_
  obtain ⟨-, -, hsendq, -⟩ := hq.1 (by rw [followsNoBank_eq, show s.ctl.station.listening = false from hl]; rfl)
  rw [State.onLineFrame, hsendq]
  rfl

/-- The frame on the line leaves the queue, and then something acts. -/
theorem removed_keeps {s u t : State} (h : Rest s u) (hu : QueueLaw s → LineLaw s → QueueLaw u ∧ LineReady u.line)
    (hf : u.onLineFrame ≠ none) (ht : Acts (u.withSendq u.sendq.removeOnLine) t) : Keeps s t := by
  have hremoved (hq : QueueLaw s) (hl : LineLaw s) : QueueLaw (u.withSendq u.sendq.removeOnLine) ∧
      LineLaw (u.withSendq u.sendq.removeOnLine) :=
    ⟨queueLaw_removeOnLine (hu hq hl).1, lineLaw_of_ready (hu hq hl).2 (SendQueue.onLine_removeOnLine _)⟩
  obtain hi | ⟨hl', hk⟩ := ht
  · refine ⟨⟨hi.pending.trans h.pending, hi.stack ∘ h.stack, hi.report ∘ h.report, ?_, hi.armed ∘ h.armed,
      hi.transfer ∘ h.transfer, fun hq => ?_⟩, fun hq hl => (hremoved hq hl).elim hi.core.queueAndLine⟩
    · unfold ConfigLaw at *
      rw [hi.ctl]
      exact h.config
    · have hqu := h.quiet hq
      have hl := listening_of_onLineFrame hqu hf
      exact hi.quiet_of_listening hl ((Rest.of_sendq hl _).quiet hqu)
  · have hleaves : Rest u (u.withSendq u.sendq.removeOnLine) := Rest.of_sendq (s := u) hl' _
    exact ⟨(h.trans hleaves).trans hk.toRest, fun hq hl => (hremoved hq hl).elim hk.queue⟩

/-- Where the frame on the line comes back undelivered the laws are kept, if the line unit is ready. -/
theorem comeBack_keeps {s u : State} (h : Rest s u) (hu : QueueLaw s → LineLaw s → QueueLaw u ∧ LineReady u.line)
    (counts : Bool) : Keeps s (u.comeBack counts) := by
  unfold State.comeBack
  split
  next hnone =>
    exact ⟨h, fun hq hl => ⟨(hu hq hl).1, lineLaw_of_ready (hu hq hl).2 (onLineFrame_none hnone)⟩⟩
  next f hf =>
    have hf' : u.onLineFrame ≠ none := by rw [hf]; nofun
    split
    · exact removed_keeps h hu hf' (.inl (State.popAndReport_inner _ _ (by nofun) _ _))
    · split
      · exact removed_keeps h hu hf' (State.dropFrame_acts _ f)
      · split
        · exact removed_keeps h hu hf' (.inl (.refl _))
        · refine ⟨h.trans ⟨rfl, id, id, id, id, id, fun hq => ?_⟩, fun hq hl => ?_⟩
          · exact (Rest.of_sendq (listening_of_onLineFrame hq hf') _).quiet hq
          · exact ⟨queueLaw_returnOnLine (hu hq hl).1 _,
              lineLaw_of_ready (hu hq hl).2 (SendQueue.onLine_returnOnLine _ _)⟩

/-! ## The line unit's own changes -/

/-- The line unit changes, where it is in a line state, and in the states that follow no bank stays as they keep it. -/
theorem Rest.of_line {s : State} (hstate : s.line.state ≠ none) (l : LineUnit)
    (hl : s.line.inbound = [] ∧ s.line.state ≠ some .sending ∧ s.line.conflictPending = false →
      l.inbound = [] ∧ l.state ≠ some .sending ∧ l.conflictPending = false) : Rest s (s.withLine l) := by
  refine ⟨rfl, id, id, id, id, id, fun hq => ?_⟩
  obtain ⟨x, hx⟩ := Option.ne_none_iff_exists'.mp hstate
  obtain ⟨hfault, hreset⟩ := quietLaw_of_line hq hx
  obtain ⟨hquiet, hempty, hready, hex, -, -⟩ := hq
  refine ⟨fun hst => ?_, hempty, hready, hex, fun h => absurd h hfault, fun h => ?_⟩
  · obtain ⟨htable, htimer, hsendq, hinbound, hsending, hconf, hgates⟩ := hquiet hst
    obtain ⟨hinbound', hsending', hconf'⟩ := hl ⟨hinbound, hsending, hconf⟩
    exact ⟨htable, htimer, hsendq, hinbound', hsending', hconf', hgates⟩
  · exact absurd h (by rw [State.withLine_ctl, hreset]; nofun)

theorem frameEnded_rest {s : State} (hstate : s.line.state ≠ none) (n : Nat) : Rest s (s.frameEnded n) :=
  Rest.of_line hstate _ fun ⟨hinbound, _, hconf⟩ => ⟨hinbound, fun h => (by cases h), hconf⟩

theorem frameEnded_ready {s : State} (h : LineLaw s) {n : Nat} (hn : n ≤ Config.vetoStreakLimit)
    (hconf : s.line.conflictPending = false) : LineReady (s.frameEnded n).line := by
  obtain ⟨-, -, -, hlen, -, hcount⟩ := h
  exact ⟨fun h => (by cases h), hconf, hlen, hn, hcount⟩

/-! ## Conflicts (R157, R158, R205) -/

theorem closedGates_closed (g : Vector Channel 8) (n : Fin 8) :
    (closedGates g)[n].opened = false ∧ (closedGates g)[n].armed = false := by
  rw [closedGates_getElem]
  exact ⟨rfl, rfl⟩

theorem enterFault_lawful (s : State) : QueueLaw s.enterFault ∧ LineLaw s.enterFault :=
  ⟨queueLaw_clear rfl, lineLaw_of_ready lineReady_off rfl⟩

theorem enterFault_keeps {s : State} (hr : QuietLaw s → s.ctl.inReset = false) : Keeps s s.enterFault := by
  refine ⟨⟨rfl, fun _ => ?_, fun _ => ?_, id, fun _ => ?_, fun _ => transferLaw_of_nil rfl, fun hq => ?_⟩,
    fun _ _ => enterFault_lawful s⟩
  · exact ⟨Nat.zero_le _, List.Pairwise.nil, by nofun⟩
  · exact ⟨Nat.le_add_left 1 15, by nofun, fun r hr => by rw [List.mem_singleton.mp hr]; nofun⟩
  · exact fun n hn => absurd ((closedGates_closed s.gate n).2.symm.trans hn) Bool.false_ne_true
  · refine ⟨fun _ => ⟨rfl, rfl, rfl, rfl, fun h => (by cases h), rfl, fun n => (closedGates_closed s.gate n).1⟩,
      fun _ => rfl, nofun, nofun, fun _ => rfl, fun h => ?_⟩
    exact absurd ((hr hq).symm.trans h) Bool.false_ne_true

/-- A host frame that goes leaves the line unit as it is, or with the station's return to READY released. -/
theorem State.hostDrop_line (s : State) (b : QBody) : (s.hostDrop b).line = s.line ∨ (s.hostDrop b).line = s.line.release := by
  unfold State.hostDrop
  split
  · split <;> exact .inl rfl
  · split <;> exact .inl rfl
  · split
    · exact .inr (by simp [State.returnToReady, State.clearToReady])
    · exact .inl rfl
  · split
    · exact .inl (by simp)
    · exact .inl rfl
  · exact .inl rfl

theorem State.dropFrame_line (s : State) (f : QFrame) :
    (s.dropFrame f).line = s.line ∨ (s.dropFrame f).line = s.line.release := by
  unfold State.dropFrame
  split
  · simpa using State.hostDrop_line (s.raise _) f.body
  · split
    · exact .inl (by simp)
    · exact .inl rfl

theorem State.comeBack_line (s : State) (counts : Bool) :
    (s.comeBack counts).line = s.line ∨ (s.comeBack counts).line = s.line.release := by
  unfold State.comeBack
  split
  · exact .inl rfl
  next f _ =>
    split
    · exact .inl (by simp)
    · split
      · exact State.dropFrame_line (s.withSendq s.sendq.removeOnLine) f
      · split <;> exact .inl rfl

/-- No conflict waits once the line unit is as it was without one, or released. -/
theorem conflictPending_of_line {s t : State} (h : t.line = s.line ∨ t.line = s.line.release)
    (hconf : s.line.conflictPending = false) : t.line.conflictPending = false := by
  obtain h | h := h <;> rw [h]
  · exact hconf
  · rfl

theorem settleConflict_settled (s : State) : s.settleConflict.line.conflictPending = false := by
  unfold State.settleConflict
  split
  · split
    · rfl
    · exact conflictPending_of_line (State.comeBack_line _ _) rfl
  next h => exact Bool.eq_false_iff.mpr h

/-- What the end of a frame on the line needs of the state it leaves: the queue's law, the line's bounds, and nothing of
this station on the line unless a conflict waits. -/
def Settles (u : State) : Prop :=
  QueueLaw u ∧ LineReady { u.line with conflictPending := false } ∧
    (u.line.conflictPending = false → u.sendq.onLine = [])

theorem settleConflict_keeps {s u : State} (h : Rest s u) (hstate : u.line.state ≠ none)
    (hu : QueueLaw s → LineLaw s → Settles u) : Keeps s u.settleConflict := by
  unfold State.settleConflict
  split
  next hconf =>
    split
    · have hfault : Keeps u u.enterFault := enterFault_keeps fun hq => by
        obtain ⟨x, hx⟩ := Option.ne_none_iff_exists'.mp hstate
        exact (quietLaw_of_line hq hx).2
      exact ⟨h.trans hfault.toRest, fun _ _ => enterFault_lawful u⟩
    next hcount =>
      have hline : Rest u (u.withLine { u.line with conflictPending := false,
                                                    conflictCount := u.line.conflictCount + 1 }) :=
        Rest.of_line hstate _ fun ⟨hin, hst, _⟩ => ⟨hin, hst, rfl⟩
      refine comeBack_keeps (h.trans hline) (fun hq hl => ?_) true
      obtain ⟨hqueue, ⟨hst, -, hlen, hstreak, -⟩, -⟩ := hu hq hl
      exact ⟨hqueue, hst, rfl, hlen, hstreak, Nat.not_le.mp hcount⟩
  next hconf =>
    have hconf' := Bool.eq_false_iff.mpr hconf
    refine ⟨h, fun hq hl => ?_⟩
    obtain ⟨hqueue, ⟨hst, -, hbounds⟩, hempty⟩ := hu hq hl
    exact ⟨hqueue, lineLaw_of_ready ⟨hst, hconf', hbounds⟩ (hempty hconf')⟩

/-- A frame that this station receives has ended. -/
theorem frameEnded_settles {s : State} (hstate : s.line.state = some .receiving) {n : Nat}
    (hn : n ≤ Config.vetoStreakLimit) (hq : QueueLaw s) (hl : LineLaw s) : Settles (s.frameEnded n) := by
  refine ⟨hq, ⟨fun h => (by cases h), rfl, hl.2.2.2.1, hn, hl.2.2.2.2.2⟩, fun hconf => ?_⟩
  exact (ready_of_lineLaw hl (by rw [hstate]; nofun) hconf).2

/-! ## Arbitration, conflict, veto, truncation (R143, R149, R151, R157 to R160) -/

theorem conflictPending_of_state {s : State} (h : LineLaw s) (hstate : s.line.state ≠ some .receiving) :
    s.line.conflictPending = false := by
  rw [← Bool.not_eq_true]
  exact mt h.2.1 hstate

theorem isSending_iff (s : State) : s.isSending = true ↔ s.line.state = some .sending := by
  rw [State.isSending, decide_eq_true_iff]

theorem ne_none_of_state {s : State} {l : LineState} (h : s.line.state = some l) : s.line.state ≠ none := by
  rw [h]; nofun

theorem loseArbitration_keeps (s : State) : Keeps s s.loseArbitration := by
  unfold State.loseArbitration
  split
  next h =>
    have hstate := (isSending_iff s).mp h
    have hline : Rest s (s.withLine { s.line with state := some .receiving, frameInHand := true }) :=
      Rest.of_line (ne_none_of_state hstate) _ fun ⟨_, hst, _⟩ => absurd hstate hst
    refine comeBack_keeps hline (fun hq hl => ⟨hq, fun h => (by cases h), ?_, hl.2.2.2⟩) false
    exact conflictPending_of_state (s := s) hl (by rw [hstate]; nofun)
  next => exact .refl s

theorem stopAtConflict_keeps (s : State) : Keeps s s.stopAtConflict := by
  unfold State.stopAtConflict
  split
  next h =>
    have hstate := (isSending_iff s).mp h
    refine ⟨Rest.of_line (ne_none_of_state hstate) _ fun ⟨_, hst, _⟩ => absurd hstate hst, fun hq hl => ⟨hq, ?_⟩⟩
    obtain ⟨hone, -, hempty, hbounds⟩ := hl
    rw [if_pos (.inl hstate)] at hone
    exact ⟨hone.trans (if_pos (.inr rfl)).symm, fun _ => rfl, fun _ => hempty (.inl hstate), hbounds⟩
  next => exact .refl s

theorem streakUp_le (n : Nat) : streakUp n ≤ Config.vetoStreakLimit := Nat.min_le_left _ _

theorem veto_keeps (s : State) (f : RxFrame) : Keeps s (s.veto f) := by
  unfold State.veto
  split
  next h =>
    have hstate := (isSending_iff s).mp h
    exact comeBack_keeps (frameEnded_rest (ne_none_of_state hstate) 0)
      (fun hq hl => ⟨hq, frameEnded_ready hl (Nat.zero_le _) (conflictPending_of_state hl (by rw [hstate]; nofun))⟩) true
  next =>
    split
    next hstate =>
      refine settleConflict_keeps (frameEnded_rest (ne_none_of_state hstate) _) (fun h => (by cases h)) fun hq hl =>
        frameEnded_settles hstate ?_ hq hl
      split
      · exact streakUp_le _
      · exact Nat.zero_le _
    next => exact .refl s

theorem truncate_keeps (s : State) : Keeps s s.truncate := by
  unfold State.truncate
  split
  next hstate =>
    exact settleConflict_keeps (frameEnded_rest (ne_none_of_state hstate) 0) (fun h => (by cases h))
      (frameEnded_settles hstate (Nat.zero_le _))
  next => exact .refl s

/-- The line unit of an IDLE or RECEIVING line with no conflict to settle takes another such state. -/
theorem lineState_keeps {s : State} {l : LineState} (hstate : s.line.state = some l) (hl : l ≠ .sending)
    {l' : LineState} (hl' : l' ≠ .sending) (inHand : Bool)
    (hconf : LineLaw s → s.line.conflictPending = false) :
    Keeps s (s.withLine { s.line with state := some l', frameInHand := inHand }) := by
  have hst' : (some l' : Option LineState) ≠ some .sending := fun h => hl' (Option.some.inj h)
  refine ⟨Rest.of_line (ne_none_of_state hstate) _ fun ⟨hin, _, hc⟩ => ⟨hin, hst', hc⟩, fun hq h => ⟨hq, ?_⟩⟩
  obtain ⟨⟨-, hc, hbounds⟩, hempty⟩ :=
    ready_of_lineLaw h (by rw [hstate]; exact fun h => hl (Option.some.inj h)) (hconf h)
  exact lineLaw_of_ready ⟨hst', hc, hbounds⟩ hempty

theorem lineBecomesIdle_keeps (s : State) : Keeps s s.lineBecomesIdle := by
  unfold State.lineBecomesIdle
  split
  next hstate =>
    dsimp only
    have hended : Keeps s (if s.line.frameInHand || s.line.conflictPending then s.truncate else s) ∧
        (if s.line.frameInHand || s.line.conflictPending then s.truncate else s).line.conflictPending = false := by
      split
      · refine ⟨truncate_keeps s, ?_⟩
        rw [State.truncate, if_pos hstate]
        exact settleConflict_settled _
      next h => exact ⟨.refl s, (Bool.or_eq_false_iff.mp (Bool.eq_false_iff.mpr h)).2⟩
    generalize (if s.line.frameInHand || s.line.conflictPending then s.truncate else s) = s1 at hended
    obtain ⟨hkeeps, hconf⟩ := hended
    split
    next hreceiving => exact hkeeps.trans (lineState_keeps hreceiving (by decide) (by decide) _ fun _ => hconf)
    next => exact hkeeps
  next => exact .refl s

theorem seeStartCell_keeps (s : State) : Keeps s s.seeStartCell := by
  unfold State.seeStartCell
  split
  next hstate =>
    exact lineState_keeps hstate (by decide) (by decide) true fun h => conflictPending_of_state h (by rw [hstate]; nofun)
  next => exact .refl s

theorem lineBecomesBlocked_keeps (s : State) : Keeps s s.lineBecomesBlocked := by
  unfold State.lineBecomesBlocked
  split
  · exact .refl s
  next hstate =>
    dsimp only
    have hblocked : Keeps s ((s.withLine { s.line with
        state := some .blocked, frameInHand := false, conflictPending := false }).comeBack false) := by
      have hline : Rest s (s.withLine { s.line with
          state := some .blocked, frameInHand := false, conflictPending := false }) :=
        Rest.of_line (fun h => hstate (.inl h)) _ fun ⟨hin, _, _⟩ => ⟨hin, fun h => (by cases h), rfl⟩
      exact comeBack_keeps hline (fun hq hl => ⟨hq, fun h => (by cases h), rfl, hl.2.2.2⟩) false
    split
    · exact hblocked.trans (raise_keeps _ (by nofun))
    · exact hblocked

theorem reloadFrozen_keeps (s : State) : Keeps s s.reloadFrozen := by
  refine (s.withTimer_inner _).keeps_of_quiet fun hq hst => ?_
  obtain ⟨-, htimer, -⟩ := hq.1 hst
  have hsilence : (Vector.ofFn fun p : Fin 16 => (TimerUnit.clear.silence[p]).reload s.timeParams.silenceLimitMs) =
      TimerUnit.clear.silence := Vector.ext fun i hi => by simp [TimerUnit.clear, Timer.reload, Timer.live]
  rw [htimer, hsilence]
  exact (congrArg s.withTimer htimer).symm

theorem lineIsRestored_keeps (s : State) : Keeps s s.lineIsRestored := by
  unfold State.lineIsRestored
  split
  next hstate =>
    dsimp only
    have hidle : Keeps s ((s.reloadFrozen).withLine { s.line with state := some .idle }) :=
      (reloadFrozen_keeps s).trans <| lineState_keeps (s := s.reloadFrozen) hstate (by decide) (by decide) s.line.frameInHand
        fun h => conflictPending_of_state h (by rw [show s.reloadFrozen.line = s.line from rfl, hstate]; nofun)
    split
    · exact hidle.trans (raise_keeps _ (by nofun))
    · exact hidle
  next => exact .refl s

/-! ## Offering (R128, R129) -/

theorem mayOffer_iff (s : State) : s.mayOffer = true ↔
    s.line.state = some .idle ∧ s.line.inbound = [] ∧ s.listening = true ∧ s.onLineFrame = none := by
  simp [State.mayOffer, and_assoc]

/-- Of a queue's frames just one has the target of a given one. -/
theorem length_filter_target {s : State} (h : QueueLaw s) {f : QFrame} (hf : f ∈ s.sendq.frames) :
    (s.sendq.frames.filter fun x => decide (x.body.target = f.body.target)).length = 1 := by
  have hone := List.count_eq_one_of_mem h.2.2.2.2 (List.mem_map_of_mem (f := fun x => x.body.target) hf)
  rw [List.count, List.countP_map, List.countP_eq_length_filter] at hone
  rw [← hone]
  exact congrArg List.length (List.filter_congr fun x _ => by simp [beq_eq_decide])

theorem startSending_keeps {s : State} {f : QFrame} (hf : f ∈ s.sendq.frames) (hmay : s.mayOffer = true) :
    Keeps s (s.startSending f) := by
  obtain ⟨hstate, hinbound, hl, hnone⟩ := (mayOffer_iff s).mp hmay
  have hqueued (x : QFrame) (hx : x ∈ s.sendq.frames) : x.isQueued = true := by
    simpa using List.find?_eq_none.mp hnone x hx
  unfold State.startSending
  generalize hg : (fun x : QFrame => if x.isQueued && decide (x.body.target = f.body.target) then
    { x with phase := .onLine (s.offered f.body) } else x) = g
  have hplace (x : QFrame) : (g x).place = x.place := by subst hg; dsimp only; split <;> rfl
  have htarget (x : QFrame) : (g x).body.target = x.body.target := by subst hg; dsimp only; split <;> rfl
  have hphase (x : QFrame) (hx : x ∈ s.sendq.frames) :
      (!(g x).isQueued) = decide (x.body.target = f.body.target) := by
    subst hg
    dsimp only
    rw [hqueued x hx, Bool.true_and]
    split
    next h => rw [h]; rfl
    next h => rw [hqueued x hx, Bool.eq_false_iff.mpr h]; rfl
  have hqueue : Rest s (s.withSendq { s.sendq with frames := s.sendq.frames.map g }) := Rest.of_sendq hl _
  refine ⟨hqueue.trans ⟨rfl, id, id, id, id, id, fun hq => ?_⟩, fun hq hline => ⟨queueLaw_map hq hplace htarget, ?_⟩⟩
  · exact quietLaw_of_listening hl (quietLaw_inReset (s := s.withSendq _) hq hl)
      (quietLaw_joining_stack (s := s.withSendq _) hq) (quietLaw_exhausted (s := s.withSendq _) hq)
  · have hconf := conflictPending_of_state hline (by rw [hstate]; nofun)
    obtain ⟨-, -, -, hbounds⟩ := hline
    refine ⟨?_, fun h => absurd (hconf.symm.trans h) Bool.false_ne_true, fun _ => hinbound, hbounds⟩
    refine Eq.trans ?_ (if_pos (.inl rfl)).symm
    rw [← length_filter_target hq hf]
    show ((s.sendq.frames.map g).filter fun x => !x.isQueued).length = _
    rw [List.filter_map, List.length_map]
    exact congrArg List.length (List.filter_congr hphase)

theorem offerFrom_keeps (n : Nat) (s : State) (hmay : s.mayOffer = true) : Keeps s (State.offerFrom n s) := by
  induction n generalizing s with
  | zero => exact .refl s
  | succ n ih =>
    rw [State.offerFrom]
    split
    · exact .refl s
    next f hf =>
      obtain ⟨hstate, hinbound, hl, hnone⟩ := (mayOffer_iff s).mp hmay
      split
      · have hremove := s.removeQueued_inner fun b => decide (b = .renew)
        refine (hremove.keeps hl).trans (ih _ ((mayOffer_iff _).mpr ⟨hstate, hinbound, hl, ?_⟩))
        refine List.find?_eq_none.mpr fun x hx => List.find?_eq_none.mp hnone x (List.mem_of_mem_filter hx)
      · obtain ⟨before, after, hframes, -⟩ := SendQueue.head_leads hf
        exact startSending_keeps (by rw [hframes]; simp) hmay

theorem offerHead_keeps (s : State) : Keeps s s.offerHead := by
  unfold State.offerHead
  split
  next hmay => exact offerFrom_keeps _ s hmay
  next => exact .refl s

/-! ## Delivery (R130, R152, R156) -/

/-- One frame on the line leaves the queue: its place loses a frame at least. -/
theorem inPlace_removeOnLine {q : SendQueue} {f : QFrame} (hf : f ∈ q.frames) (hline : f.isQueued = false) (p : Place) :
    q.removeOnLine.inPlace p + (if f.place = p then 1 else 0) ≤ q.inPlace p := by
  unfold SendQueue.removeOnLine SendQueue.inPlace
  obtain ⟨before, after, hframes⟩ := List.append_of_mem hf
  have hle (l : List QFrame) : ((l.filter QFrame.isQueued).filter fun f => decide (f.place = p)).length ≤
      (l.filter fun f => decide (f.place = p)).length := (List.filter_sublist.filter _).length_le
  have hbefore := hle before
  have hafter := hle after
  simp only [hframes, List.filter_append, List.length_append, List.filter_cons, hline]
  by_cases h : f.place = p <;> simp [h] at * <;> omega

theorem deliverOwn_keeps {s : State} {f : QFrame} (hstate : s.line.state = some .sending) (hf : s.onLineFrame = some f)
    (content : Payload) : Keeps s (s.deliverOwn f content) := by
  have hmem : f ∈ s.sendq.frames := List.mem_of_find?_eq_some hf
  have hphase : f.isQueued = false := by simpa using List.find?_some hf
  have hself : s.deliverOwn f content = (((s.withSendq { s.sendq.removeOnLine with awaiting := some f }).withLine
      { s.line with state := some .receiving, frameInHand := false, vetoStreak := 0, conflictCount := 0,
                    inbound := s.line.inbound ++ [{ sender := s.self, body := content }] })).loadPresence := by
    unfold State.deliverOwn State.heard
    exact if_pos rfl
  rw [hself]
  have hl (hq : QuietLaw s) : s.listening = true := listening_of_onLineFrame hq (by rw [hf]; nofun)
  refine ⟨⟨rfl, id, id, id, id, id, fun hq => ?_⟩, fun hq hline => ⟨?_, ?_⟩⟩
  · exact quietLaw_of_listening (hl hq) (quietLaw_inReset (s := s) hq (hl hq)) (quietLaw_joining_stack (s := s) hq)
      (quietLaw_exhausted (s := s) hq)
  · obtain ⟨hhost, himage, hpresence, hgeneral, hnodup⟩ := hq
    have hplace (p : Place) : s.sendq.removeOnLine.inPlace p +
        awaitingIn { s.sendq.removeOnLine with awaiting := some f } p ≤ s.sendq.inPlace p := by
      simpa [awaitingIn] using inPlace_removeOnLine hmem hphase p
    have hle (p : Place) : s.sendq.removeOnLine.inPlace p ≤ s.sendq.inPlace p := (Nat.le_add_right _ _).trans (hplace p)
    exact ⟨((hplace _).trans (Nat.le_add_right _ _)).trans hhost, ((hplace _).trans (Nat.le_add_right _ _)).trans himage,
      (hle _).trans hpresence, (hle _).trans hgeneral, hnodup.sublist (List.filter_sublist.map _)⟩
  · have hconf := conflictPending_of_state hline (by rw [hstate]; nofun)
    obtain ⟨-, -, hempty, -⟩ := hline
    refine lineLaw_of_ready ⟨fun h => (by cases h), hconf, ?_, Nat.zero_le _, Nat.zero_lt_two⟩
      (SendQueue.onLine_removeOnLine s.sendq)
    show (s.line.inbound ++ [_]).length ≤ _
    rw [hempty (.inl hstate)]
    exact Nat.le_add_left 1 3

theorem State.heard_inner (s : State) (u : Station) : Inner s (s.heard u) := .of_same (by simp [SameBlocks])

theorem dropNotice_keeps (s : State) : Keeps s s.dropNotice := by
  unfold State.dropNotice
  split
  next h =>
    have hl : s.listening = true := by rw [State.listening, h]; rfl
    exact (enterResync_keeps hl 1).trans ((State.request_inner _ _ _).keeps (by rw [State.listening, enterResync_ctl]; rfl))
  next h => exact teardownLeave_keeps (by rw [State.listening, h]; rfl) 0
  next h =>
    split
    · exact (s.updateImagePending_inner _).keeps (by rw [State.listening, h]; rfl)
    · exact .refl s
  next h =>
    split
    · exact (s.updateImagePending_inner _).keeps (by rw [State.listening, h]; rfl)
    · exact .refl s
  · exact .refl s
  · exact .refl s
  · exact .refl s

theorem teardownLeave_line (s : State) (d : BitVec 4) : (s.teardownLeave d).line = s.line.release := by
  have hvisited := Inner.foldl (f := State.leaveRecord) s.stack.reverse
    ((s.withTable TableUnit.clear).withTimer TimerUnit.clear) fun s k => (leaveRecord_visited s k).1
  unfold State.teardownLeave
  simp only [State.raise_frame, State.evalGates_frame]
  exact congrArg LineUnit.release hvisited.line

theorem dropNotice_line (s : State) : s.dropNotice.line = s.line ∨ s.dropNotice.line = s.line.release := by
  unfold State.dropNotice
  split
  · exact .inl (by simp [State.enterResync])
  · exact .inr (teardownLeave_line s 0)
  · split <;> exact .inl rfl
  · split <;> exact .inl rfl
  · exact .inl rfl
  · exact .inl rfl
  · exact .inl rfl

/-- A notice enters an inbound queue with room, at a station that listens. -/
theorem takeDelivery_appends {s : State} (h : s.inboundFull = false) (n : Notice) :
    s.takeDelivery n = s.withLine { s.line with inbound := s.line.inbound ++ [n] } := by
  rw [State.takeDelivery, h]
  rfl

theorem takeDelivery_rest {s : State} (hl : s.listening = true) (n : Notice) : Rest s (s.takeDelivery n) := by
  unfold State.takeDelivery
  split
  · exact (dropNotice_keeps s).toRest
  · exact ⟨rfl, id, id, id, id, id, fun hq => quietLaw_of_listening hl (quietLaw_inReset (s := s) hq hl)
      (quietLaw_joining_stack (s := s) hq) (quietLaw_exhausted (s := s) hq)⟩

theorem release_state_ne_none {l : LineUnit} (h : l.state ≠ none) : l.release.state ≠ none := by
  show (if l.state = some .sending then _ else l.state) ≠ none
  split
  · nofun
  · exact h

theorem takeDelivery_state {s : State} (h : s.line.state ≠ none) (n : Notice) :
    (s.takeDelivery n).line.state ≠ none := by
  unfold State.takeDelivery
  split
  · obtain hline | hline := dropNotice_line s <;> rw [hline]
    · exact h
    · exact release_state_ne_none h
  · exact h

/-- What the line unit still needs when the frame it received has been delivered. -/
theorem takeDelivery_settles {s u : State} (hstate : s.line.state = some .receiving) (n : Notice)
    (hu : Inner (s.frameEnded 0) u) (hq : QueueLaw s) (hl : LineLaw s) : Settles (u.takeDelivery n) := by
  have hended := frameEnded_settles hstate (Nat.zero_le _) hq hl
  have hqueue : QueueLaw u := hu.queue hended.1
  have hstate' : u.line.state ≠ some .sending := by rw [hu.line]; exact fun h => (by cases h)
  cases hfull : u.inboundFull
  · rw [takeDelivery_appends hfull]
    obtain ⟨-, ⟨-, -, -, hbounds⟩, hempty⟩ := hended
    refine ⟨hqueue, ⟨hstate', rfl, ?_, by rw [hu.line]; exact hbounds⟩, fun hconf => ?_⟩
    · have hroom : ¬Config.inboundCapacity ≤ u.line.inbound.length := of_decide_eq_false hfull
      show (u.line.inbound ++ [n]).length ≤ _
      rw [List.length_append]
      exact Nat.not_le.mp hroom
    · refine hu.onLine.trans (hempty ?_)
      rwa [← hu.line]
  · have hconf : s.line.conflictPending = false := by
      rw [← Bool.not_eq_true]
      intro hconf
      have hfull' : Config.inboundCapacity ≤ u.line.inbound.length := of_decide_eq_true hfull
      rw [hu.line, show (s.frameEnded 0).line.inbound = s.line.inbound from rfl, hl.2.2.1 (.inr hconf)] at hfull'
      exact absurd hfull' (by decide)
    obtain ⟨-, hready, hempty⟩ := hended
    have hlaw : LineLaw u := by
      refine lineLaw_of_ready ⟨hstate', by rw [hu.line]; exact hconf, ?_⟩ (hu.onLine.trans (hempty hconf))
      rw [hu.line]
      exact hready.2.2
    rw [State.takeDelivery, hfull, if_pos rfl]
    obtain ⟨hq', hl'⟩ := (dropNotice_keeps u).queue hqueue hlaw
    have hconf' := conflictPending_of_line (dropNotice_line u) (by rw [hu.line]; exact hconf)
    have hst' : u.dropNotice.line.state ≠ some .sending := by
      obtain h | h := dropNotice_line u <;> rw [h]
      · exact hstate'
      · show (if u.line.state = some .sending then _ else u.line.state) ≠ _
        rwa [if_neg hstate']
    obtain ⟨⟨-, -, hbounds⟩, hempty'⟩ := ready_of_lineLaw hl' hst' hconf'
    exact ⟨hq', ⟨hst', rfl, hbounds⟩, fun _ => hempty'⟩

theorem deliverReceived_keeps {s : State} (hstate : s.line.state = some .receiving) (f : RxFrame) :
    Keeps s (s.deliverReceived f) := by
  have hended := frameEnded_rest (ne_none_of_state hstate) 0
  unfold State.deliverReceived
  split
  · exact .refl s
  · split
    next n hn =>
      have hl : s.listening = true := by
        split at hn
        next h => exact (Bool.and_eq_true_iff.mp h).2
        next => cases hn
      have hheard := State.heard_inner (s.frameEnded 0) n.sender
      have hl' : ((s.frameEnded 0).heard n.sender).listening = true := by rw [State.listening, hheard.ctl]; exact hl
      have hkeeps : Keeps (s.frameEnded 0) ((s.frameEnded 0).heard n.sender) := hheard.keeps hl
      exact settleConflict_keeps ((hended.trans hkeeps.toRest).trans (takeDelivery_rest hl' n))
        (takeDelivery_state (by rw [hheard.line]; exact fun h => (by cases h)) n) (takeDelivery_settles hstate n hheard)
    next => exact settleConflict_keeps hended (fun h => (by cases h)) (frameEnded_settles hstate (Nat.zero_le _))

theorem deliver_keeps (s : State) (f : RxFrame) : Keeps s (s.deliver f) := by
  unfold State.deliver
  split
  next h =>
    split
    next q hq =>
      split
      · exact deliverOwn_keeps ((isSending_iff s).mp h) hq _
      · exact .refl s
    next => exact .refl s
  next =>
    split
    next hstate => exact deliverReceived_keeps hstate f
    next => exact .refl s

end Sys2Proof.Machine

/-! PROOFS. What the host commands, the resets, the pins and the timers keep, and the laws that every step keeps for
the stack, the send queue and the line, the reports and the configuration, the transfer list and the quiet states
(R69, R89, R90, R124, R128, R162, R168, R186, R195, R199 to R205). -/

namespace Sys2Proof.Machine

open Sys2Proof.Safety

/-! ## Answers (R165) -/

theorem respond_keeps (s : State) (bytes : List Byte) : Keeps s (s.respond bytes) :=
  ⟨⟨rfl, id, id, id, id, id, id⟩, .intro⟩

theorem answer_core (s : State) (c : ResultCode) : Core s (s.answer c) :=
  ⟨rfl, rfl, rfl, rfl, ⟨rfl, rfl⟩, rfl, id, id, id, id⟩

theorem answer_keeps (s : State) (c : ResultCode) : Keeps s (s.answer c) := respond_keeps s _

theorem answerData_keeps (s : State) (data : List Byte) : Keeps s (s.answerData data) := respond_keeps s _

theorem transferLaw_of_not_member {s t : State} (hst : s.ctl.station ≠ .member)
    (ht : t.table.transfers = s.table.transfers) (h : TransferLaw s) : TransferLaw t :=
  transferLaw_of_nil (ht.trans (not_not.mp (mt h.1 hst)))

/-! ## The host commands (R91 to R103, R168 to R181) -/

theorem configure_keeps {s : State} (hr : s.ctl.inReset = false) (a b c d e f : Byte) :
    Keeps s (s.configure a b c d e f) := by
  unfold State.configure
  split
  next hst =>
    split
    next hrange =>
      refine Keeps.trans (t := s.withCtl { s.ctl with
        station := .ready, proposed := Params.ofOperands a b c d e, retryLimit := orDefault f Config.defaultRetry })
        ⟨⟨rfl, id, id, fun _ => Bool.and_eq_true_iff.mp hrange, id,
          transferLaw_of_not_member (by rw [hst]; nofun) rfl, fun hq => ?_⟩, .intro⟩ (answer_keeps _ _)
      have hex := quietLaw_not_exhausted hq (by rw [hst]; nofun)
      obtain ⟨hquiet, hempty, -⟩ := hq
      exact ⟨fun _ => hquiet (by rw [hst]; rfl), fun _ => hempty (.inl hst),
        fun _ => (by rw [State.withCtl_stack, hempty (.inl hst)]; nofun),
        fun h => absurd (hex.symm.trans h) Bool.false_ne_true, nofun,
        fun h => absurd (hr.symm.trans h) Bool.false_ne_true⟩
    next => exact answer_keeps _ _
  next => exact answer_keeps _ _

theorem startJoining_keeps {s : State} (hr : s.ctl.inReset = false) (hst : s.ctl.station = .ready) (hempty : s.stack = []) :
    Keeps s s.startJoining := by
  have hfirst : Core s (((s.withCtl { s.ctl with station := .joining }).withTable
      { s.table with members := Vector.replicate 16 .absent }).loadPresence) :=
    (core_withCtl s .joining s.ctl.exhausted).trans <| (core_withTable _ _).trans
      (State.withTimer_inner _ _).core
  have hcore : Core s s.startJoining := by
    unfold State.startJoining
    dsimp only
    refine (hfirst.trans ?_).trans (State.placeHost_inner _ _).core
    split
    · exact (State.raise_inner _ _ (by nofun)).core
    · exact (Inner.refl _).core
  have hctl : s.startJoining.ctl = { s.ctl with station := .joining } := by
    unfold State.startJoining
    dsimp only
    split <;> simp
  have htable : s.startJoining.table.transfers = s.table.transfers := by
    unfold State.startJoining
    dsimp only
    split <;> simp
  have hstack : s.startJoining.stack = s.stack := by
    unfold State.startJoining
    dsimp only
    split <;> simp
  refine hcore.keeps (transferLaw_of_not_member (by rw [hst]; nofun) htable) fun hq => ?_
  refine quietLaw_of_listening (by rw [State.listening, hctl]; rfl) (by rw [hctl]; exact hr)
    (fun _ => by rw [hstack, hempty]) ?_
  rw [hctl]
  exact fun h => absurd ((quietLaw_not_exhausted hq (by rw [hst]; nofun)).symm.trans h) Bool.false_ne_true

theorem commandJoin_keeps {s : State} (hr : s.ctl.inReset = false) : Keeps s s.commandJoin := by
  unfold State.commandJoin
  split
  next h => exact (startJoining_keeps hr h.1 h.2).trans (answer_keeps _ _)
  next => exact answer_keeps _ _

theorem startLeaving_keeps {s : State} (hr : s.ctl.inReset = false) (hst : s.ctl.station = .member) :
    Keeps s s.startLeaving := by
  have hcore : Core s s.startLeaving :=
    (core_withCtl s .leaving s.ctl.exhausted).trans <| (State.evalGates_inner _ (by decide)).core.trans <|
      (abandonTransfers_core _).trans <| (State.stateCheck_inner _).core.trans (State.placeHost_inner _ _).core
  have hctl : s.startLeaving.ctl = { s.ctl with station := .leaving } := by simp [State.startLeaving]
  refine hcore.keeps (fun _ => transferLaw_of_nil (by simp [State.startLeaving])) fun hq => ?_
  refine quietLaw_of_listening (by rw [State.listening, hctl]; rfl) (by rw [hctl]; exact hr) (by rw [hctl]; nofun) ?_
  rw [hctl]
  exact fun h => absurd ((quietLaw_not_exhausted hq (by rw [hst]; nofun)).symm.trans h) Bool.false_ne_true

theorem commandLeave_keeps {s : State} (hr : s.ctl.inReset = false) : Keeps s s.commandLeave := by
  unfold State.commandLeave
  split
  next hst =>
    split
    · exact (startLeaving_keeps hr hst).trans (answer_keeps _ _)
    · exact answer_keeps _ _
  next => exact answer_keeps _ _

/-- A record above the top one of a stack with room, where the top one is not pending (R91). -/
theorem stackLaw_push {s : State} (h : StackLaw s) {r : Resource} (hc : s.claimCheck r = .ok) (k : Record)
    (hk : k.resource = r) : StackLaw (s.withStack (s.stack ++ [k])) := by
  obtain ⟨hlen, hrising, honly⟩ := h
  have hchecks : ¬Config.stackDepth ≤ s.stack.length ∧ s.aboveTop r = true ∧
      ¬s.top.any (fun k => k.state.isPending) = true := by
    revert hc
    unfold State.claimCheck
    split
    · nofun
    next hroom =>
      split
      · nofun
      next habove =>
        split
        · nofun
        next hpending => exact fun _ => ⟨hroom, by simpa using habove, hpending⟩
  obtain ⟨hroom, habove, hpending⟩ := hchecks
  have htop (x : Record) (hx : x ∈ s.stack) : x.resource < r := by
    cases htop : s.stack.getLast? with
    | none => simp [List.getLast?_eq_none_iff.mp htop] at hx
    | some y =>
      refine (resource_le_of_getLast hrising htop x hx).trans_lt ?_
      simpa [State.aboveTop, State.top, htop] using habove
  refine ⟨by simpa using Nat.not_le.mp hroom, ?_, ?_⟩
  · rw [State.withStack_stack, List.map_append, List.pairwise_append]
    refine ⟨hrising, List.pairwise_singleton _ _, fun a ha b hb => ?_⟩
    obtain ⟨x, hx, rfl⟩ := List.mem_map.mp ha
    rw [List.map_singleton, List.mem_singleton, hk] at hb
    exact hb ▸ htop x hx
  · rw [State.withStack_stack, List.dropLast_concat]
    intro x hx
    rcases List.eq_nil_or_concat s.stack with hnil | ⟨init, y, hsplit⟩
    · simp [hnil] at hx
    · rw [List.concat_eq_append] at hsplit
      rw [hsplit, List.dropLast_concat] at honly
      rw [hsplit, List.mem_append, List.mem_singleton] at hx
      rcases hx with hx | rfl
      · exact honly x hx
      · simpa [State.top, hsplit] using hpending

theorem commandClaim_keeps {s : State} (hr : s.ctl.inReset = false) (a b : Byte) : Keeps s (s.commandClaim a b) := by
  unfold State.commandClaim
  split
  next hst =>
    have hl : s.listening = true := by rw [State.listening, hst]; rfl
    split
    · exact answer_keeps _ _
    next r m p _ =>
      split
      next hc =>
        have hpush : Keeps s (s.withStack (s.stack ++ [{ resource := r, mode := m, policy := p, state := .sending }])) :=
          ⟨⟨rfl, fun h => stackLaw_push h hc _ rfl, id, id, id, id, fun hq => quietLaw_of_listening hl hr
            (fun hj => by cases hst.symm.trans hj) (quietLaw_exhausted (s := s) hq)⟩, .intro⟩
        exact (hpush.trans ((State.placeHost_inner _ _).keeps hl)).trans (answer_keeps _ _)
      next => exact answer_keeps _ _
  next => exact answer_keeps _ _

/-- RELEASE acts inside the station, and then answers. -/
theorem releaseTop_acts (s : State) : ∃ t c, Inner s t ∧ s.releaseTop = t.answer c := by
  unfold State.releaseTop
  split
  · exact ⟨s, _, .refl s, rfl⟩
  next k hk =>
    have htop (hs : StackLaw s) : ∀ x ∈ s.stack, x.resource ≤ k.resource := resource_le_of_getLast hs.2.1 hk
    split
    · split
      · exact ⟨_, _, ((s.setRecord_inner _ _ fun _ => htop).trans (State.evalResource_inner _ _ (by decide) _)).trans
          (State.placeHost_inner _ _), rfl⟩
      · exact ⟨s, _, .refl s, rfl⟩
    · exact ⟨_, _, s.setRecord_inner _ _ fun _ => htop, rfl⟩
    · exact ⟨_, _, s.popRecord_inner _, rfl⟩
    · exact ⟨s, _, .refl s, rfl⟩
    · exact ⟨s, _, .refl s, rfl⟩
    · exact ⟨s, _, .refl s, rfl⟩
    · exact ⟨s, _, .refl s, rfl⟩

/-- In READY, where every record is LAPSED, RELEASE pops one at most. -/
theorem releaseTop_quiet {s : State} (hst : s.ctl.station = .ready) (hq : QuietLaw s) : QuietLaw s.releaseTop := by
  unfold State.releaseTop
  split
  · exact hq
  next k hk =>
    obtain ⟨hquiet, hempty, hready, hrest⟩ := hq
    have hlapsed := hready hst k (List.mem_of_getLast? hk)
    obtain ⟨g, hg⟩ : ∃ g, k.state = .lapsed g := by
      unfold isLapsed at hlapsed
      split at hlapsed
      next g hg => exact ⟨g, hg⟩
      next => exact absurd hlapsed Bool.false_ne_true
    rw [hg]
    refine ⟨hquiet, fun h => ?_, fun _ x hx => hready hst x (List.mem_of_mem_filter hx), hrest⟩
    rw [show ((s.popRecord k.resource).answer .ok).ctl.station = s.ctl.station from rfl, hst] at h
    rcases h with h | h | h <;> cases h

theorem commandRelease_keeps (s : State) : Keeps s s.commandRelease := by
  obtain ⟨t, c, ht, heq⟩ := releaseTop_acts s
  have hkeeps (hl : s.listening = true) : Keeps s s.releaseTop := by
    rw [heq]
    exact (ht.keeps hl).trans (answer_keeps _ _)
  unfold State.commandRelease
  split
  next h => exact hkeeps (by rw [State.listening, h]; rfl)
  next h => exact hkeeps (by rw [State.listening, h]; rfl)
  next h =>
    refine Core.keeps ?_ ?_ (releaseTop_quiet h) <;> rw [heq]
    · exact ht.core.trans (answer_core t c)
    · exact ht.transfer
  all_goals exact answer_keeps _ _

/-- The host command's mark on the queued RENEW leaves every frame its place, its target and its phase. -/
theorem mergeRenew_keeps {s : State} (hl : s.listening = true) : Keeps s (s.withSendq s.sendq.mergeRenew) := by
  refine ⟨Rest.of_sendq hl _, fun hq hline =>
    ⟨queueLaw_map hq (fun f => by split <;> rfl) (fun f => by split <;> rfl), ?_⟩⟩
  have hlen : (s.sendq.mergeRenew.frames.filter fun f => !f.isQueued).length =
      (s.sendq.frames.filter fun f => !f.isQueued).length := by
    unfold SendQueue.mergeRenew
    rw [List.filter_map, List.length_map]
    refine congrArg List.length (List.filter_congr fun f _ => ?_)
    dsimp only [Function.comp]
    split <;> rfl
  unfold LineLaw
  rw [State.withSendq_sendq, hlen]
  exact hline

theorem renewHeld_keeps {s : State} (hl : s.listening = true) : Keeps s s.renewHeld := by
  unfold State.renewHeld
  split
  · exact answer_keeps _ _
  · split
    · exact (mergeRenew_keeps hl).trans (answer_keeps _ _)
    · split
      · exact ((s.placeHost_inner _).keeps hl).trans (answer_keeps _ _)
      · exact answer_keeps _ _

theorem withdrawTop_acts (s : State) : ∃ t c, Inner s t ∧ s.withdrawTop = t.answer c := by
  unfold State.withdrawTop
  split
  · exact ⟨s, _, .refl s, rfl⟩
  next k hk =>
    have htop (hs : StackLaw s) : ∀ x ∈ s.stack, x.resource ≤ k.resource := resource_le_of_getLast hs.2.1 hk
    split
    · split
      · exact ⟨_, _, (s.removeQueued_inner _).trans (State.popAndReport_inner _ _ (by nofun) _ _), rfl⟩
      · exact ⟨_, _, s.setRecord_inner _ _ fun _ => htop, rfl⟩
    · split
      · exact ⟨_, _, (s.setRecord_inner _ _ fun _ => htop).trans (State.placeHost_inner _ _), rfl⟩
      · exact ⟨s, _, .refl s, rfl⟩
    all_goals exact ⟨s, _, .refl s, rfl⟩

theorem keeps_of_acts {s u : State} (hl : s.listening = true) (h : ∃ t c, Inner s t ∧ u = t.answer c) : Keeps s u := by
  obtain ⟨t, c, ht, rfl⟩ := h
  exact (ht.keeps hl).trans (answer_keeps _ _)

theorem commandRenew_keeps (s : State) : Keeps s s.commandRenew := by
  unfold State.commandRenew
  split
  next h => exact renewHeld_keeps (by rw [State.listening, h]; rfl)
  next h => exact renewHeld_keeps (by rw [State.listening, h]; rfl)
  all_goals exact answer_keeps _ _

theorem commandWithdraw_keeps (s : State) : Keeps s s.commandWithdraw := by
  unfold State.commandWithdraw
  split
  next h => exact keeps_of_acts (by rw [State.listening, h]; rfl) (withdrawTop_acts s)
  next h => exact keeps_of_acts (by rw [State.listening, h]; rfl) (withdrawTop_acts s)
  all_goals exact answer_keeps _ _

theorem commandReadEntry_keeps (s : State) (b : Byte) : Keeps s (s.commandReadEntry b) := by
  unfold State.commandReadEntry
  split
  · split
    · split
      · exact answerData_keeps _ _
      · exact answer_keeps _ _
    · exact answer_keeps _ _
  · exact answer_keeps _ _

theorem commandTakeReport_keeps (s : State) : Keeps s s.commandTakeReport := by
  unfold State.commandTakeReport
  split
  · exact answer_keeps _ _
  next r rest hreports =>
    refine ⟨⟨rfl, id, fun ⟨hlen, _, hcut⟩ => ?_, id, id, id, id⟩, .intro⟩
    rw [hreports] at hlen hcut
    refine ⟨(Nat.le_succ _).trans hlen, fun hlost => ?_, fun x hx => hcut x (List.mem_cons_of_mem _ hx)⟩
    have hne : (!rest.isEmpty) = true := (Bool.and_eq_true_iff.mp hlost).2
    rintro (rfl : rest = [])
    cases hne

theorem commandSetMask_keeps (s : State) (v : BitVec 24) : Keeps s (s.commandSetMask v) := by
  unfold State.commandSetMask
  split
  · exact ⟨⟨rfl, id, id, id, id, id, id⟩, .intro⟩
  · exact answer_keeps _ _

theorem commandReset_keeps (s : State) : Keeps s s.commandReset := ⟨⟨rfl, id, id, id, id, id, id⟩, .intro⟩

/-! ## The resets (R182, R195 to R197) -/

/-- What the laws need of a state with every block cleared, its configuration in range. -/
theorem keeps_of_clear {s t : State} (hpending : t.pending = s.pending) (hstation : t.ctl.station = .offline ∨ t.ctl.station = .ready)
    (hconfig : ConfigLaw s → ConfigLaw t) (hex : t.ctl.exhausted = false) (htable : t.table = TableUnit.clear)
    (htimer : t.timer = TimerUnit.clear) (hsendq : t.sendq = SendQueue.clear) (hstack : t.stack = [])
    (hgate : t.gate = closedGates s.gate) (hline : LineReady t.line) (hinbound : t.line.inbound = [])
    (hreports : t.port.reports = [] ∧ t.port.lost = false)
    (hreset : t.ctl.inReset = true → t.ctl.station = .offline ∧ t.line = LineUnit.off) : Keeps s t := by
  have hclosed (n : Fin 8) : t.gate[n].opened = false ∧ t.gate[n].armed = false := by
    rw [hgate]
    exact closedGates_closed s.gate n
  refine ⟨⟨hpending, fun _ => ?_, fun _ => ?_, hconfig, fun _ n hn => ?_, fun _ => ?_, fun _ => ?_⟩, fun _ _ => ⟨?_, ?_⟩⟩
  · unfold StackLaw
    rw [hstack]
    exact ⟨Nat.zero_le _, List.Pairwise.nil, by nofun⟩
  · unfold ReportLaw
    rw [hreports.1, hreports.2]
    exact ⟨Nat.zero_le _, by nofun, by nofun⟩
  · exact absurd ((hclosed n).2.symm.trans hn) Bool.false_ne_true
  · exact transferLaw_of_nil (by rw [htable]; rfl)
  · refine ⟨fun _ => ⟨htable, htimer, hsendq, hinbound, hline.1, hline.2.1, fun n => (hclosed n).1⟩, fun _ => hstack,
      fun _ => by rw [hstack]; nofun, fun h => absurd (hex.symm.trans h) Bool.false_ne_true, fun h => ?_, hreset⟩
    rcases hstation with hst | hst <;> cases hst.symm.trans h
  · exact queueLaw_clear hsendq
  · exact lineLaw_of_ready hline (by rw [hsendq]; rfl)

theorem softReset_keeps {s : State} (hr : s.ctl.inReset = false) : Keeps s s.softReset :=
  keeps_of_clear rfl (.inr rfl) id rfl rfl rfl rfl rfl rfl lineReady_afterReset rfl ⟨rfl, rfl⟩
    fun h => absurd (hr.symm.trans h) Bool.false_ne_true

theorem configLaw_defaults : Params.defaults.inRange = true ∧ retryInRange Config.defaultRetry = true :=
  ⟨by decide, by decide⟩

theorem pinReset_keeps (s : State) (held : Bool) (n : Station) {l : LineUnit} (hl : LineReady l) (hin : l.inbound = [])
    (hheld : held = true → l = LineUnit.off) : Keeps s (s.pinReset held n l) :=
  keeps_of_clear rfl (.inl rfl) (fun _ => configLaw_defaults) rfl rfl rfl rfl rfl rfl hl hin ⟨rfl, rfl⟩
    fun h => ⟨rfl, hheld h⟩

/-! ## The inputs (R115, R117) -/

/-- A channel's input level or arming changes, the channel staying as open as it was. -/
theorem setChannel_keeps (s : State) (n : Fin 8) {c : Channel} (hopened : c.opened = s.gate[n].opened)
    (harmed : ArmedLaw s → c.armed = true → c.opened = true) : Keeps s (s.setChannel n c) := by
  have hgate (m : Fin 8) : (s.setChannel n c).gate[m] = if n = m then c else s.gate[m] := by
    show (s.gate.set n c)[m.val] = _
    rw [Vector.getElem_set]
    simp only [Fin.ext_iff]
    rfl
  refine ⟨⟨rfl, id, id, id, fun h m hm => ?_, id, fun ⟨hquiet, hrest⟩ => ⟨fun hst => ?_, hrest⟩⟩, .intro⟩
  · rw [hgate] at hm ⊢
    split at hm
    next hnm => rw [if_pos hnm]; exact harmed h hm
    next hnm => rw [if_neg hnm]; exact h m hm
  · obtain ⟨htable, htimer, hsendq, hinbound, hsending, hconf, hgates⟩ := hquiet hst
    refine ⟨htable, htimer, hsendq, hinbound, hsending, hconf, fun m => ?_⟩
    rw [hgate]
    split
    · exact hopened.trans (hgates n)
    · exact hgates m

theorem ginFalls_keeps (s : State) (n : Fin 8) : Keeps s (s.ginFalls n) := by
  unfold State.ginFalls
  split
  next h => exact setChannel_keeps s n rfl fun _ _ => h
  next h =>
    exact (setChannel_keeps s n (c := { s.gate[n] with ginLow := true }) rfl fun ha => ha n).trans
      (raise_keeps _ (by nofun))

/-! ## The timers (R48 to R66) -/

/-- In the states that follow no bank no timer runs, and no record wants a frame. -/
theorem quiet_of_followsNoBank {s : State} (hq : QuietLaw s) (hst : followsNoBank s.ctl.station = true) :
    s.timer = TimerUnit.clear ∧ ∀ k ∈ s.stack, isLapsed k = true := by
  refine ⟨(hq.1 hst).2.1, ?_⟩
  cases hstation : s.ctl.station <;> rw [hstation] at hst
  case offline => rw [hq.2.1 (.inl hstation)]; nofun
  case ready => exact hq.2.2.1 hstation
  case fault => rw [hq.2.1 (.inr (.inr hstation))]; nofun
  all_goals cases hst

theorem expireCountdown_keeps (s : State) (r : Resource) (h : Station) : Keeps s (s.expireCountdown r h) := by
  refine (s.expireCountdown_inner r h).keeps_of_quiet fun hq hst => ?_
  rw [State.expireCountdown, State.dueCountdown, (quiet_of_followsNoBank hq hst).1]
  rfl

theorem expirePresence_keeps (s : State) : Keeps s s.expirePresence := by
  refine s.expirePresence_inner.keeps_of_quiet fun hq hst => ?_
  rw [State.expirePresence, (quiet_of_followsNoBank hq hst).1]
  rfl

theorem silence_clear (p : Station) : TimerUnit.clear.silence[p] = .stopped := TimerUnit.clear_silence p

theorem expireSilence_keeps (s : State) (p : Station) : Keeps s (s.expireSilence p) := by
  refine (s.expireSilence_inner p).keeps_of_quiet fun hq hst => ?_
  rw [State.expireSilence, (quiet_of_followsNoBank hq hst).1, silence_clear]
  rfl

theorem expireJoinWait_keeps (s : State) : Keeps s s.expireJoinWait := by
  refine s.expireJoinWait_inner.keeps_of_quiet fun hq hst => ?_
  rw [State.expireJoinWait, (quiet_of_followsNoBank hq hst).1]
  rfl

theorem expireFoundWait_keeps (s : State) : Keeps s s.expireFoundWait := by
  refine s.expireFoundWait_inner.keeps_of_quiet fun hq hst => ?_
  rw [State.expireFoundWait, (quiet_of_followsNoBank hq hst).1]
  rfl

theorem joinExhausted_keeps {s : State} (hst : s.ctl.station = .joining) : Keeps s s.joinExhausted := by
  have hl : s.listening = true := by rw [State.listening, hst]; rfl
  exact (toReady_keeps hl (fun hq => by rw [quietLaw_joining_stack hq hst]; nofun) (by decide)).trans
    (raise_keeps _ (by nofun))

theorem expireImageWait_keeps (s : State) : Keeps s s.expireImageWait := by
  unfold State.expireImageWait
  split
  next hdue =>
    dsimp only
    have hwait (hl : s.listening = true) : Keeps s (s.withTimer { s.timer with imageWait := .expired }) :=
      (s.withTimer_inner _).keeps hl
    have hnone (hst : followsNoBank s.ctl.station = true) :
        Keeps s (s.withTimer { s.timer with imageWait := .expired }) :=
      (s.withTimer_inner _).keeps_of_quiet fun hq _ => by
        rw [(quiet_of_followsNoBank hq hst).1] at hdue
        cases hdue
    split
    next hst =>
      have hl : s.listening = true := by rw [State.listening, hst]; rfl
      split
      · exact (hwait hl).trans ((State.askJoin_inner _).keeps hl)
      · exact (hwait hl).trans (joinExhausted_keeps hst)
    next hst =>
      have hl : s.listening = true := by rw [State.listening, hst]; rfl
      split
      · exact (hwait hl).trans ((State.askSync_inner _).keeps hl)
      · refine ((hwait hl).trans (exhaust_keeps hst)).trans ((State.askLeave_inner _).keeps ?_)
        rw [State.listening, exhaust_ctl]
        exact hl
    next hst => exact hnone (by rw [hst]; rfl)
    next hst => exact hnone (by rw [hst]; rfl)
    next hst => exact hwait (by rw [State.listening, hst]; rfl)
    next hst => exact hwait (by rw [State.listening, hst]; rfl)
    next hst => exact hnone (by rw [hst]; rfl)
  next => exact .refl s

/-- The requests made again at a tick: each acts inside the station, and none is made in a state that follows no
bank. -/
theorem askLapseAgain_keeps (s : State) (r : Resource) (h : Station) : Keeps s (s.askLapseAgain r h) := by
  refine (s.askLapseAgain_inner r h).keeps_of_quiet fun hq hst => ?_
  rw [State.askLapseAgain, (quiet_of_followsNoBank hq hst).1]
  rfl

theorem askEvict_keeps (s : State) (p : Station) : Keeps s (s.askEvict p) := by
  refine (s.askEvict_inner p).keeps_of_quiet fun hq hst => if_neg ?_
  rw [State.evictWanted, (quiet_of_followsNoBank hq hst).1, silence_clear]
  nofun

theorem askPresence_keeps (s : State) : Keeps s s.askPresence := by
  refine s.askPresence_inner.keeps_of_quiet fun hq hst => if_neg ?_
  rw [State.presenceWanted, (quiet_of_followsNoBank hq hst).1]
  nofun

theorem askFound_keeps (s : State) : Keeps s s.askFound := by
  refine s.askFound_inner.keeps_of_quiet fun hq hst => if_neg ?_
  rw [State.foundWanted, (quiet_of_followsNoBank hq hst).1]
  nofun

theorem followsNoBank_ne {st : StationState} (h : followsNoBank st = true) :
    st ≠ .joining ∧ st ≠ .member ∧ st ≠ .resync := by
  refine ⟨?_, ?_, ?_⟩ <;> rintro rfl <;> cases h

theorem askJoin_keeps (s : State) : Keeps s s.askJoin := by
  refine s.askJoin_inner.keeps_of_quiet fun hq hst => ?_
  rw [State.askJoin, State.joinWanted, if_neg fun h => (followsNoBank_ne hst).1 h.2.1]

theorem askSync_keeps (s : State) : Keeps s s.askSync := by
  refine s.askSync_inner.keeps_of_quiet fun hq hst => ?_
  rw [State.askSync, State.syncWanted, if_neg (followsNoBank_ne hst).2.2]

theorem askLeave_keeps (s : State) : Keeps s s.askLeave := by
  refine s.askLeave_inner.keeps_of_quiet fun hq hst => if_neg ?_
  rw [State.leaveWanted, decide_eq_false (followsNoBank_ne hst).2.2]
  nofun

/-- A LAPSED record wants nothing. -/
theorem lapsed_wants_nothing {k : Record} (h : isLapsed k = true) (s : State) :
    k.renewalPending = false ∧ s.releaseWanted k = none := by
  unfold isLapsed at h
  unfold Record.renewalPending State.releaseWanted
  split at h
  next hk => rw [hk]; exact ⟨rfl, rfl⟩
  next => cases h

theorem askRenew_keeps (s : State) : Keeps s s.askRenew := by
  refine s.askRenew_inner.keeps_of_quiet fun hq hst => if_neg ?_
  have hnone : s.stack.any Record.renewalPending = false := List.any_eq_false.mpr fun k hk => by
    rw [(lapsed_wants_nothing ((quiet_of_followsNoBank hq hst).2 k hk) s).1]
    nofun
  rw [State.renewWanted, hnone]
  nofun

/-- A fold over records each of which leaves the state as it is. -/
theorem foldl_fixed {f : State → Record → State} {s : State} {l : List Record} (h : ∀ k ∈ l, f s k = s) :
    l.foldl f s = s := by
  induction l with
  | nil => rfl
  | cons k l ih => rw [List.foldl_cons, h k (by simp), ih fun k hk => h k (by simp [hk])]

theorem askOwedReleases_keeps (s : State) : Keeps s (s.stack.foldl State.askOwedRelease s) := by
  refine (Inner.foldl s.stack s fun s k => s.askOwedRelease_inner k).keeps_of_quiet fun hq hst => foldl_fixed fun k hk => ?_
  rw [State.askOwedRelease, (lapsed_wants_nothing ((quiet_of_followsNoBank hq hst).2 k hk) s).2]

theorem placeOwedWithdraws_keeps (s : State) : Keeps s (s.stack.foldl State.placeOwedWithdraw s) := by
  refine (Inner.foldl s.stack s fun s k => s.placeOwedWithdraw_inner k).keeps_of_quiet fun hq hst =>
    foldl_fixed fun k hk => ?_
  rw [State.placeOwedWithdraw, State.withdrawWanted, if_neg fun h => (followsNoBank_ne hst).2.1 h.2.1]

/-! ## Every command (R6, R196) -/

theorem awake_keeps {s : State} {f : State → State} (h : s.ctl.inReset = false → Keeps s (f s)) : Keeps s (s.awake f) := by
  unfold State.awake
  split
  · exact .refl s
  next hr => exact h (Bool.eq_false_iff.mpr hr)

theorem atPort_keeps {s : State} {f : State → State} (h : s.ctl.inReset = false → Keeps s (f s)) :
    Keeps s (s.atPort f) := by
  unfold State.atPort
  split
  · exact .refl s
  next hr => exact h (Bool.or_eq_false_iff.mp (Bool.eq_false_iff.mpr hr)).1

theorem exec_keeps {c : Instr} {s t : State} (h : exec c s = .next t) : Keeps s t := by
  obtain ⟨hclaim, hrelease, hwithdraw, hlapse, hrenew, hjoin, hsync, hfound, hleave, hevict, himage, hpresence⟩ :=
    applications_keep s
  cases c with
  | unknownCommandCode code =>
    rw [exec, execUnknownCommandCode] at h
    split at h <;> cases h
    exact atPort_keeps fun _ => answer_keeps s _
  | ginAsserted n =>
    cases h
    split
    · exact .refl s
    · split
      · exact setChannel_keeps s n rfl fun ha => ha n
      · exact ginFalls_keeps s n
  | ginReleased n =>
    cases h
    exact setChannel_keeps s n rfl fun ha => ha n
  | rstnAsserted =>
    cases h
    exact pinReset_keeps s true _ lineReady_off rfl fun _ => rfl
  | resetRelease straps =>
    cases h
    exact pinReset_keeps s false _ lineReady_afterReset rfl nofun
  | softReset =>
    cases h
    refine awake_keeps fun hr => ?_
    split
    · exact softReset_keeps hr
    · exact .refl s
  | configure a b c d e f => cases h; exact atPort_keeps fun hr => configure_keeps hr a b c d e f
  | join => cases h; exact atPort_keeps commandJoin_keeps
  | leave => cases h; exact atPort_keeps commandLeave_keeps
  | claim r m => cases h; exact atPort_keeps fun hr => commandClaim_keeps hr r m
  | release => cases h; exact atPort_keeps fun _ => commandRelease_keeps s
  | renew => cases h; exact atPort_keeps fun _ => commandRenew_keeps s
  | withdraw => cases h; exact atPort_keeps fun _ => commandWithdraw_keeps s
  | readStatus => cases h; exact atPort_keeps fun _ => answerData_keeps s _
  | readStack => cases h; exact atPort_keeps fun _ => answerData_keeps s _
  | readEntry r => cases h; exact atPort_keeps fun _ => commandReadEntry_keeps s r
  | readMembers => cases h; exact atPort_keeps fun _ => answerData_keeps s _
  | takeReport => cases h; exact atPort_keeps fun _ => commandTakeReport_keeps s
  | setMask v => cases h; exact atPort_keeps fun _ => commandSetMask_keeps s v
  | reset => cases h; exact atPort_keeps fun _ => commandReset_keeps s
  | offer => cases h; exact awake_keeps fun _ => offerHead_keeps s
  | arbitrationLost => cases h; exact awake_keeps fun _ => loseArbitration_keeps s
  | conflict => cases h; exact awake_keeps fun _ => stopAtConflict_keeps s
  | frameVetoed f => cases h; exact awake_keeps fun _ => veto_keeps s f
  | frameDelivered f => cases h; exact awake_keeps fun _ => deliver_keeps s f
  | frameTruncated => cases h; exact awake_keeps fun _ => truncate_keeps s
  | lineIdle => cases h; exact awake_keeps fun _ => lineBecomesIdle_keeps s
  | lineBlocked => cases h; exact awake_keeps fun _ => lineBecomesBlocked_keeps s
  | lineRestored => cases h; exact awake_keeps fun _ => lineIsRestored_keeps s
  | startCellSeen => cases h; exact awake_keeps fun _ => seeStartCell_keeps s
  | applyClaim => cases h; exact awake_keeps fun _ => hclaim
  | applyRelease => cases h; exact awake_keeps fun _ => hrelease
  | applyWithdraw => cases h; exact awake_keeps fun _ => hwithdraw
  | applyLapse => cases h; exact awake_keeps fun _ => hlapse
  | applyRenew => cases h; exact awake_keeps fun _ => hrenew
  | applyJoin => cases h; exact awake_keeps fun _ => hjoin
  | applySync => cases h; exact awake_keeps fun _ => hsync
  | applyFound => cases h; exact awake_keeps fun _ => hfound
  | applyLeave => cases h; exact awake_keeps fun _ => hleave
  | applyEvict => cases h; exact awake_keeps fun _ => hevict
  | applyImage => cases h; exact awake_keeps fun _ => himage
  | applyPresence => cases h; exact awake_keeps fun _ => hpresence
  | holdCountdownExpiry r p => cases h; exact awake_keeps fun _ => expireCountdown_keeps s r p
  | presenceTimerExpiry => cases h; exact awake_keeps fun _ => expirePresence_keeps s
  | silenceTimerExpiry p => cases h; exact awake_keeps fun _ => expireSilence_keeps s p
  | joinWaitExpiry => cases h; exact awake_keeps fun _ => expireJoinWait_keeps s
  | foundWaitExpiry => cases h; exact awake_keeps fun _ => expireFoundWait_keeps s
  | imageWaitExpiry => cases h; exact awake_keeps fun _ => expireImageWait_keeps s
  | lapseAskedAgain r p => cases h; exact awake_keeps fun _ => askLapseAgain_keeps s r p
  | evictAskedAgain p => cases h; exact awake_keeps fun _ => askEvict_keeps s p
  | presenceAskedAgain => cases h; exact awake_keeps fun _ => askPresence_keeps s
  | foundAskedAgain => cases h; exact awake_keeps fun _ => askFound_keeps s
  | joinAskedAgain => cases h; exact awake_keeps fun _ => askJoin_keeps s
  | syncAskedAgain => cases h; exact awake_keeps fun _ => askSync_keeps s
  | reconciliationRenewAsked => cases h; exact awake_keeps fun _ => askRenew_keeps s
  | owedReleaseAsked => cases h; exact awake_keeps fun _ => askOwedReleases_keeps s
  | exhaustedLeaveAsked => cases h; exact awake_keeps fun _ => askLeave_keeps s
  | owedWithdrawPlaced => cases h; exact awake_keeps fun _ => placeOwedWithdraws_keeps s

/-- Settles O3. -/
theorem commandsKeepTheQueue : Obligations.CommandsKeepTheQueue := fun _ _ _ h => (exec_keeps h).pending

/-! ## Every step (R48) -/

theorem advance_keeps (s : State) : Keeps s s.advance := by
  have hinner : Inner s s.advance := by
    unfold State.advance
    dsimp only
    split
    · exact s.withTimer_inner _
    · exact s.withTimer_inner _
  refine hinner.keeps_of_quiet fun hq hst => ?_
  have htimer := (quiet_of_followsNoBank hq hst).1
  have hsilence : (Vector.ofFn fun p : Fin 16 => (TimerUnit.clear.silence[p]).tick) = TimerUnit.clear.silence :=
    Vector.ext fun i hi => by simp [TimerUnit.clear, Timer.tick]
  unfold State.advance
  rw [htimer, hsilence]
  dsimp only
  split <;> exact (congrArg s.withTimer htimer).symm

/-- But for the waiting commands a step is a command or the tick, and keeps what they keep. -/
theorem step_keeps {s t : State} (h : step s = .next t) : ∃ p q u, Keeps (s.withPending p) u ∧ t = u.withPending q := by
  unfold step at h
  split at h
  · cases h
    unfold State.tick State.awake
    split
    · exact ⟨s.pending, s.pending, s, .refl s, rfl⟩
    · exact ⟨s.pending, _, s.advance, advance_keeps s, rfl⟩
  next c rest _ => exact ⟨rest, t.pending, t, exec_keeps h, rfl⟩

/-- Settles O8. -/
theorem stepKeepsTheStackLaw : Obligations.StepKeepsTheStackLaw := by
  intro s t hs h
  obtain ⟨p, q, u, hkeeps, rfl⟩ := step_keeps h
  exact hkeeps.stack hs

/-- Settles O10. -/
theorem stepKeepsTheQueueAndLineLaws : Obligations.StepKeepsTheQueueAndLineLaws := by
  intro s t hq hl h
  obtain ⟨p, q, u, hkeeps, rfl⟩ := step_keeps h
  exact hkeeps.queue hq hl

/-- Settles O11. -/
theorem stepKeepsTheReportAndConfigLaws : Obligations.StepKeepsTheReportAndConfigLaws := by
  intro s t hr hc h
  obtain ⟨p, q, u, hkeeps, rfl⟩ := step_keeps h
  exact ⟨hkeeps.report hr, hkeeps.config hc⟩

/-- Settles O12. -/
theorem stepKeepsTheTransferAndQuietLaws : Obligations.StepKeepsTheTransferAndQuietLaws := by
  intro s t h
  obtain ⟨p, q, u, hkeeps, rfl⟩ := step_keeps h
  exact ⟨hkeeps.transfer, hkeeps.quiet⟩

end Sys2Proof.Machine

/-! PROOFS. The law of the channels: open exactly while the condition of R113 holds (R112, R113). -/

namespace Sys2Proof.Machine

open Sys2Proof.Safety

/-! ## Open exactly while the condition holds -/

/-- Each channel is open exactly while its condition holds (R113). -/
def OpenLaw (s : State) : Prop := ∀ n : Fin 8, s.gate[n].opened = s.gateCondition n

theorem gateLaw_iff (s : State) : GateLaw s ↔ OpenLaw s ∧ ArmedLaw s := forall_and

theorem OpenLaw.congr {s t : State} (h : OpenLaw s) (hgate : t.gate = s.gate)
    (hcond : ∀ n, t.gateCondition n = s.gateCondition n) : OpenLaw t := fun n => by
  rw [hgate, hcond]
  exact h n

/-- What changes neither the channels nor what their conditions speak of. -/
theorem OpenLaw.of_same {s t : State} (h : OpenLaw s) (hgate : t.gate = s.gate) (hctl : t.ctl = s.ctl)
    (hstack : t.stack = s.stack) (hcountdowns : t.timer.countdowns = s.timer.countdowns) : OpenLaw t :=
  h.congr hgate fun n => State.gateCondition_congr (by rw [hctl]) (by rw [hctl]) hstack hcountdowns n

theorem openLaw_evalGates (s : State) (d : BitVec 4) : OpenLaw (s.evalGates d) := fun n => by
  rw [State.evalGates_gate]
  exact (State.gateCondition_congr (by simp) (by simp) (by simp) (by simp) n).symm

/-- A station that is no MEMBER with its gates closed. -/
theorem openLaw_of_not_member {s : State} (hst : s.ctl.station ≠ .member) (h : ∀ n : Fin 8, s.gate[n].opened = false) :
    OpenLaw s := fun n => by
  rw [h n, State.gateCondition, decide_eq_false hst]
  rfl

/-- No record of a resource is HELD, as R113 asks. -/
def NotHeld (s : State) (r : Resource) : Prop := ∀ k, s.recordOf r = some k → k.isHeld = false

theorem NotHeld.gateCondition {s : State} {n : Fin 8} (h : NotHeld s (channelResource n)) : s.gateCondition n = false := by
  rw [← Bool.not_eq_true, State.gateCondition_iff]
  rintro ⟨-, k, g, -, hk, hheld, -⟩
  have hnot := h k hk
  rw [Record.isHeld, hheld] at hnot
  cases hnot

/-- One resource's record changes: its channel's condition is evaluated again, or stays false. -/
theorem openLaw_record {s t : State} (h : OpenLaw s) (r : Resource) (hgate : t.gate = s.gate) (hctl : t.ctl = s.ctl)
    (hcountdowns : t.timer.countdowns = s.timer.countdowns) (hother : ∀ r', r' ≠ r → t.recordOf r' = s.recordOf r')
    (hs : NotHeld s r) (ht : NotHeld t r) : OpenLaw t := by
  refine h.congr hgate fun n => ?_
  by_cases hn : channelResource n = r
  · subst hn
    rw [hs.gateCondition, ht.gateCondition]
  · unfold State.gateCondition State.countdown State.self
    rw [hctl, hcountdowns, hother _ hn]

/-- The evaluation of a resource's channel, where every other channel stands right. -/
theorem openLaw_evalResource {s : State} {r : Resource}
    (h : ∀ n : Fin 8, channelResource n ≠ r → s.gate[n].opened = s.gateCondition n) (d : BitVec 4) (g : Grant) :
    OpenLaw (s.evalResource r d g) := fun n => by
  have hcond : (s.evalResource r d g).gateCondition n = s.gateCondition n :=
    State.gateCondition_congr (by simp) (by simp) (by simp) (by simp) n
  rw [hcond]
  by_cases hn : channelResource n = r
  · rw [← hn, State.evalResource_channel, State.evalChannel_gate_self]
  · rw [State.evalResource_gate_other _ hn]
    exact h n hn

/-! ## Records -/

theorem recordOf_popRecord_self (s : State) (r : Resource) : (s.popRecord r).recordOf r = none := by
  rw [State.recordOf_eq_none]
  intro k hk
  simpa [State.popRecord] using (List.mem_filter.mp hk).2

theorem recordOf_popRecord_other (s : State) {r r' : Resource} (h : r' ≠ r) :
    (s.popRecord r).recordOf r' = s.recordOf r' := by
  unfold State.recordOf State.popRecord
  rw [State.withStack_stack, List.find?_filter]
  refine congrArg (List.find? · s.stack) (funext fun k => ?_)
  by_cases hk : k.resource = r' <;> simp [hk, h]

theorem recordOf_setRecord (s : State) (r r' : Resource) (st : RecordState) :
    (s.setRecord r st).recordOf r' = (s.recordOf r').map fun k => if k.resource = r then { k with state := st } else k := by
  unfold State.recordOf State.setRecord
  rw [State.withStack_stack, List.find?_map]
  refine congrArg (Option.map _) (congrArg (List.find? · s.stack) (funext fun k => ?_))
  dsimp only [Function.comp]
  split <;> rfl

theorem recordOf_setRecord_other (s : State) {r r' : Resource} (h : r' ≠ r) (st : RecordState) :
    (s.setRecord r st).recordOf r' = s.recordOf r' := by
  rw [recordOf_setRecord]
  cases hk : s.recordOf r' with
  | none => rfl
  | some k =>
    rw [Option.map_some, if_neg (by rw [(State.mem_of_recordOf hk).2]; exact h)]

theorem notHeld_popRecord (s : State) (r : Resource) : NotHeld (s.popRecord r) r := fun k hk => by
  rw [recordOf_popRecord_self] at hk
  cases hk

theorem notHeld_setRecord (s : State) (r : Resource) {st : RecordState} (hst : ∀ g p, st ≠ .held g p) :
    NotHeld (s.setRecord r st) r := fun k hk => by
  rw [recordOf_setRecord] at hk
  obtain ⟨x, hx, rfl⟩ := Option.map_eq_some_iff.mp hk
  rw [if_pos (State.mem_of_recordOf hx).2, Record.isHeld]
  cases st with
  | held g p => exact absurd rfl (hst g p)
  | sending | waiting | withdrawing | expired | releasing | lapsed => rfl

/-- A record that is not HELD goes. -/
theorem openLaw_popRecord {s : State} (h : OpenLaw s) {r : Resource} (hr : NotHeld s r) : OpenLaw (s.popRecord r) :=
  openLaw_record h r rfl rfl rfl (fun _ hne => recordOf_popRecord_other s hne) hr (notHeld_popRecord s r)

/-- A record that is not HELD takes another state that is not. -/
theorem openLaw_setRecord {s : State} (h : OpenLaw s) {r : Resource} (hr : NotHeld s r) {st : RecordState}
    (hst : ∀ g p, st ≠ .held g p) : OpenLaw (s.setRecord r st) :=
  openLaw_record h r rfl rfl rfl (fun _ hne => recordOf_setRecord_other s hne st) hr (notHeld_setRecord s r hst)

theorem openLaw_raise {s : State} (h : OpenLaw s) (r : Report) : OpenLaw (s.raise r) :=
  h.of_same (by simp) (by simp) (by simp) (by simp)

theorem openLaw_withSendq {s : State} (h : OpenLaw s) (q : SendQueue) : OpenLaw (s.withSendq q) := h

theorem openLaw_withLine {s : State} (h : OpenLaw s) (l : LineUnit) : OpenLaw (s.withLine l) := h

theorem openLaw_respond {s : State} (h : OpenLaw s) (b : List Byte) : OpenLaw (s.respond b) := h

theorem openLaw_withTable {s : State} (h : OpenLaw s) (t : TableUnit) : OpenLaw (s.withTable t) := h

theorem openLaw_placeHost {s : State} (h : OpenLaw s) (b : QBody) : OpenLaw (s.placeHost b) := h

theorem openLaw_request {s : State} (h : OpenLaw s) (b : QBody) (p : Place) : OpenLaw (s.request b p) := h

/-! ## The applications (R6, R46) -/

theorem openLaw_teardownLeave (s : State) (d : BitVec 4) : OpenLaw (s.teardownLeave d) :=
  openLaw_raise (openLaw_evalGates _ _) _

theorem openLaw_teardownEvict (s : State) : OpenLaw s.teardownEvict := openLaw_raise (openLaw_evalGates _ _) _

/-- The effects of a notice leave the station listening, or put it to READY with its gates evaluated. -/
def Evaluated (s : State) : Prop := s.listening = true ∨ OpenLaw s

theorem openLaw_applyNotice {s : State} (h : OpenLaw s) (n : Notice) (rest : List Notice) {effects : State → State}
    (he : ∀ t : State, t.listening = true → Evaluated (effects t)) : OpenLaw (s.applyNotice n rest effects) := by
  unfold State.applyNotice
  dsimp only
  split
  next hl =>
    have hl' : ((s.takeNotice n rest).evidence n).listening = true := by
      rw [State.listening, (State.evidence_inner _ n).ctl]
      exact hl
    unfold State.finish
    split
    · exact openLaw_evalGates _ _
    next hlt => exact (he _ hl').resolve_left hlt
  next => exact h

theorem Inner.evaluated {s t : State} (h : Inner s t) (hl : s.listening = true) : Evaluated t :=
  .inl (by rw [State.listening, h.ctl]; exact hl)

theorem syncEffects_listening {s : State} (hl : s.listening = true) (u : Station) (b : Byte) :
    (s.syncEffects u b).listening = true := by
  unfold State.syncEffects
  split
  · split
    · dsimp only
      split
      · rw [State.listening, (State.takeTransfer_frame _ _ _ _).1]
        exact ownSyncApplied_listening (s := s.setMember u _) hl _ _
      · rw [State.listening, (State.takeTransfer_frame _ _ _ _).1]
        exact hl
    · exact hl
  · exact hl

theorem foundEffects_listening {s : State} (hl : s.listening = true) (u : Station) (p : Params) :
    (s.foundEffects u p).listening = true := by
  unfold State.foundEffects
  split
  · exact hl
  · dsimp only
    rw [State.listening, (State.reportJoined_inner _ s).ctl]
    split
    · exact becomeMember_listening _ _
    · exact hl

theorem leaveEffects_evaluated {s : State} (hl : s.listening = true) (u : Station) : Evaluated (s.leaveEffects u) := by
  unfold State.leaveEffects
  split
  · exact .inl hl
  · split
    · exact .inr (openLaw_teardownLeave s _)
    · exact (s.departure_inner u 0).evaluated hl

theorem evictEffects_evaluated {s : State} (hl : s.listening = true) (u : Station) (b : Byte) :
    Evaluated (s.evictEffects u b) := by
  unfold State.evictEffects
  split
  · split
    · exact .inl hl
    · split
      · exact .inr (openLaw_teardownEvict s)
      · exact (s.departure_inner _ 1).evaluated hl
  · exact .inl hl

theorem imageEffects_listening {s : State} (hl : s.listening = true) (u v : Station) (a : Fin 4) (last : Bool)
    (c : PartContent) : (s.imageEffects u v a last c).listening = true := by
  have hl' : (s.installPart v a last c).listening = true := by
    rw [State.listening, (s.installPart_inner v a last c).ctl]
    exact hl
  unfold State.imageEffects
  dsimp only
  rw [State.listening, (State.advanceTransfer_inner _ _ _ _ _ _).ctl]
  split
  · exact lastEffects_listening hl' v a
  · exact hl'

theorem presenceEffects_listening {s : State} (hl : s.listening = true) (u : Station) (v : Bool) (d : BitVec 16) :
    (s.presenceEffects u v d).listening = true := by
  unfold State.presenceEffects
  split
  · rw [State.listening, enterResync_ctl]
    rfl
  · exact hl

theorem openLaw_applications {s : State} (hs : OpenLaw s) :
    OpenLaw s.applyClaim ∧ OpenLaw s.applyRelease ∧ OpenLaw s.applyWithdraw ∧ OpenLaw s.applyLapse ∧
      OpenLaw s.applyRenew ∧ OpenLaw s.applyJoin ∧ OpenLaw s.applySync ∧ OpenLaw s.applyFound ∧
      OpenLaw s.applyLeave ∧ OpenLaw s.applyEvict ∧ OpenLaw s.applyImage ∧ OpenLaw s.applyPresence := by
  refine ⟨?_, ?_, ?_, ?_, ?_, ?_, ?_, ?_, ?_, ?_, ?_, ?_⟩
  · unfold State.applyClaim
    split
    · exact openLaw_applyNotice hs _ _ fun t ht => (t.claimEffects_inner ..).evaluated ht
    · exact hs
  · unfold State.applyRelease
    split
    · exact openLaw_applyNotice hs _ _ fun t ht => (t.holdEffects_inner ..).evaluated ht
    · exact hs
  · unfold State.applyWithdraw
    split
    · exact openLaw_applyNotice hs _ _ fun t ht => (t.withdrawEffects_inner ..).evaluated ht
    · exact hs
  · unfold State.applyLapse
    split
    · exact openLaw_applyNotice hs _ _ fun t ht => (t.lapseEffects_inner ..).evaluated ht
    · exact hs
  · unfold State.applyRenew
    split
    · exact openLaw_applyNotice hs _ _ fun t ht => (Inner.foldl _ t fun t i => t.renewItem_inner ..).evaluated ht
    · exact hs
  · unfold State.applyJoin
    split
    · exact openLaw_applyNotice hs _ _ fun t ht => (t.joinEffects_inner ..).evaluated ht
    · exact hs
  · unfold State.applySync
    split
    · exact openLaw_applyNotice hs _ _ fun t ht => .inl (syncEffects_listening ht _ _)
    · exact hs
  · unfold State.applyFound
    split
    · exact openLaw_applyNotice hs _ _ fun t ht => .inl (foundEffects_listening ht _ _)
    · exact hs
  · unfold State.applyLeave
    split
    · exact openLaw_applyNotice hs _ _ fun t ht => leaveEffects_evaluated ht _
    · exact hs
  · unfold State.applyEvict
    split
    · exact openLaw_applyNotice hs _ _ fun t ht => evictEffects_evaluated ht _ _
    · exact hs
  · unfold State.applyImage
    split
    · exact openLaw_applyNotice hs _ _ fun t ht => .inl (imageEffects_listening ht _ _ _ _ _)
    · exact hs
  · unfold State.applyPresence
    split
    · exact openLaw_applyNotice hs _ _ fun t ht => .inl (presenceEffects_listening ht _ _ _)
    · exact hs

/-! ## The line events (R130 to R133, R137, R149 to R160) -/

theorem NotHeld.of_record {s : State} {r : Resource} {k : Record} (hk : s.recordOf r = some k) (h : k.isHeld = false) :
    NotHeld s r := fun k' hk' => by
  rw [hk] at hk'
  cases hk'
  exact h

theorem openLaw_hostDrop {s : State} (h : OpenLaw s) (b : QBody) : OpenLaw (s.hostDrop b) := by
  unfold State.hostDrop
  split
  · split
    next hsending =>
      obtain ⟨k, hk, hkstate⟩ := State.recordOf_any hsending
      exact openLaw_popRecord h (.of_record hk (by rw [Record.isHeld, of_decide_eq_true hkstate]))
    next => exact h
  · split
    next howed =>
      obtain ⟨k, hk, hkstate⟩ := State.recordOf_any howed
      exact openLaw_setRecord h (.of_record hk (by rw [Record.isHeld, of_decide_eq_true hkstate])) nofun
    next => exact h
  · split
    · exact openLaw_evalGates _ _
    · exact h
  · split
    · exact openLaw_evalGates _ _
    · exact h
  · exact h

theorem openLaw_placeImage {s : State} (h : OpenLaw s) : OpenLaw s.placeImage := by
  unfold State.placeImage
  split <;> exact h

theorem openLaw_dropFrame {s : State} (h : OpenLaw s) (f : QFrame) : OpenLaw (s.dropFrame f) := by
  unfold State.dropFrame
  split
  · exact openLaw_hostDrop (openLaw_raise h _) _
  · split
    · exact openLaw_placeImage h
    · exact h

theorem openLaw_comeBack {s : State} (h : OpenLaw s) (counts : Bool) : OpenLaw (s.comeBack counts) := by
  unfold State.comeBack
  split
  · exact h
  next f _ =>
    split
    next hw =>
      obtain ⟨r, m, p, k, hb, hk, hkstate⟩ := (isWithdrawnClaim_iff s f.body).mp hw
      rw [hb]
      have hnot : NotHeld s r := .of_record hk (by rw [Record.isHeld, hkstate])
      exact openLaw_raise (openLaw_popRecord (openLaw_withSendq h s.sendq.removeOnLine) hnot) _
    · split
      · exact openLaw_dropFrame (openLaw_withSendq h s.sendq.removeOnLine) f
      · split <;> exact h

theorem openLaw_enterFault (s : State) : OpenLaw s.enterFault :=
  openLaw_of_not_member (fun h => (by cases h)) fun n => (closedGates_closed s.gate n).1

theorem openLaw_settleConflict {s : State} (h : OpenLaw s) : OpenLaw s.settleConflict := by
  unfold State.settleConflict
  split
  · split
    · exact openLaw_enterFault s
    · exact openLaw_comeBack (openLaw_withLine h _) true
  · exact h

theorem openLaw_loseArbitration {s : State} (h : OpenLaw s) : OpenLaw s.loseArbitration := by
  unfold State.loseArbitration
  split
  · exact openLaw_comeBack (openLaw_withLine h _) false
  · exact h

theorem openLaw_stopAtConflict {s : State} (h : OpenLaw s) : OpenLaw s.stopAtConflict := by
  unfold State.stopAtConflict
  split <;> exact h

theorem openLaw_veto {s : State} (h : OpenLaw s) (f : RxFrame) : OpenLaw (s.veto f) := by
  unfold State.veto
  split
  · exact openLaw_comeBack (s := s.frameEnded 0) h true
  · split
    · exact openLaw_settleConflict (s := s.frameEnded _) h
    · exact h

theorem openLaw_truncate {s : State} (h : OpenLaw s) : OpenLaw s.truncate := by
  unfold State.truncate
  split
  · exact openLaw_settleConflict (s := s.frameEnded 0) h
  · exact h

theorem openLaw_lineBecomesIdle {s : State} (h : OpenLaw s) : OpenLaw s.lineBecomesIdle := by
  unfold State.lineBecomesIdle
  split
  · dsimp only
    have hended : OpenLaw (if s.line.frameInHand || s.line.conflictPending then s.truncate else s) := by
      split
      · exact openLaw_truncate h
      · exact h
    generalize (if s.line.frameInHand || s.line.conflictPending then s.truncate else s) = s1 at hended
    split <;> exact hended
  · exact h

theorem openLaw_lineBecomesBlocked {s : State} (h : OpenLaw s) : OpenLaw s.lineBecomesBlocked := by
  unfold State.lineBecomesBlocked
  split
  · exact h
  · dsimp only
    have hblocked := openLaw_comeBack (s := s.withLine { s.line with
      state := some .blocked, frameInHand := false, conflictPending := false }) h false
    split
    · exact openLaw_raise hblocked _
    · exact hblocked

theorem openLaw_lineIsRestored {s : State} (h : OpenLaw s) : OpenLaw s.lineIsRestored := by
  unfold State.lineIsRestored
  split
  · dsimp only
    have hidle : OpenLaw ((s.reloadFrozen).withLine { s.line with state := some .idle }) := h
    split
    · exact openLaw_raise hidle _
    · exact hidle
  · exact h

theorem openLaw_seeStartCell {s : State} (h : OpenLaw s) : OpenLaw s.seeStartCell := by
  unfold State.seeStartCell
  split <;> exact h

theorem openLaw_offerFrom (n : Nat) {s : State} (h : OpenLaw s) : OpenLaw (State.offerFrom n s) := by
  induction n generalizing s with
  | zero => exact h
  | succ n ih =>
    rw [State.offerFrom]
    split
    · exact h
    · split
      · exact ih (s := s.withSendq _) h
      · exact h

theorem openLaw_offerHead {s : State} (h : OpenLaw s) : OpenLaw s.offerHead := by
  unfold State.offerHead
  split
  · exact openLaw_offerFrom _ h
  · exact h

theorem openLaw_heard {s : State} (h : OpenLaw s) (u : Station) : OpenLaw (s.heard u) := by
  unfold State.heard
  split
  · exact h
  · split <;> exact h

theorem openLaw_abandonTransfers {s : State} (h : OpenLaw s) : OpenLaw s.abandonTransfers := h

theorem openLaw_stateCheck {s : State} (h : OpenLaw s) : OpenLaw s.stateCheck := h

theorem openLaw_enterResync (s : State) (c : BitVec 4) : OpenLaw (s.enterResync c) :=
  openLaw_stateCheck (openLaw_abandonTransfers (openLaw_evalGates _ 3))

theorem openLaw_dropNotice {s : State} (h : OpenLaw s) : OpenLaw s.dropNotice := by
  unfold State.dropNotice
  split
  · exact openLaw_request (openLaw_enterResync s 1) _ _
  · exact openLaw_teardownLeave s 0
  · split <;> exact h
  · split <;> exact h
  · exact h
  · exact h
  · exact h

theorem openLaw_takeDelivery {s : State} (h : OpenLaw s) (n : Notice) : OpenLaw (s.takeDelivery n) := by
  unfold State.takeDelivery
  split
  · exact openLaw_dropNotice h
  · exact h

theorem openLaw_deliver {s : State} (h : OpenLaw s) (f : RxFrame) : OpenLaw (s.deliver f) := by
  unfold State.deliver
  split
  · split
    · split
      · exact openLaw_heard (openLaw_withLine (openLaw_withSendq (openLaw_withLine h _) _) _) _
      · exact h
    · exact h
  · split
    · unfold State.deliverReceived
      split
      · exact h
      · split
        · exact openLaw_settleConflict (openLaw_takeDelivery (openLaw_heard (s := s.frameEnded 0) h _) _)
        · exact openLaw_settleConflict (s := s.frameEnded 0) h
    · exact h

/-! ## The host commands (R91 to R103, R113, R168 to R174) -/

/-- A station outside MEMBER that goes to another such state. -/
theorem openLaw_withCtl {s : State} (h : OpenLaw s) (hst : s.ctl.station ≠ .member) {c : Controller}
    (hc : c.station ≠ .member) : OpenLaw (s.withCtl c) :=
  openLaw_of_not_member hc fun n => by
    have hopened := h n
    rwa [State.gateCondition, decide_eq_false hst, Bool.false_and] at hopened

theorem openLaw_configure {s : State} (h : OpenLaw s) (a b c d e f : Byte) : OpenLaw (s.configure a b c d e f) := by
  unfold State.configure
  split
  next hst =>
    split
    · exact openLaw_withCtl h (by rw [hst]; nofun) (fun h => (by cases h))
    · exact h
  next => exact h

theorem openLaw_commandJoin {s : State} (h : OpenLaw s) : OpenLaw s.commandJoin := by
  unfold State.commandJoin
  split
  next hst =>
    have hjoining : OpenLaw (((s.withCtl { s.ctl with station := .joining }).withTable
        { s.table with members := Vector.replicate 16 .absent }).loadPresence) :=
      openLaw_withCtl h (by rw [hst.1]; nofun) (fun h => (by cases h))
    show OpenLaw s.startJoining
    unfold State.startJoining
    dsimp only
    split
    · exact openLaw_raise hjoining _
    · exact hjoining
  next => exact h

theorem openLaw_commandLeave {s : State} (h : OpenLaw s) : OpenLaw s.commandLeave := by
  unfold State.commandLeave
  split
  · split
    · exact openLaw_respond (openLaw_placeHost (openLaw_stateCheck (openLaw_abandonTransfers (openLaw_evalGates _ 3))) _) _
    · exact h
  · exact h

/-- A new SENDING record opens no channel, and hides no other record. -/
theorem openLaw_push {s : State} (h : OpenLaw s) {k : Record} (hk : k.isHeld = false) :
    OpenLaw (s.withStack (s.stack ++ [k])) := by
  refine h.congr rfl fun n => ?_
  have hfind : (s.withStack (s.stack ++ [k])).recordOf (channelResource n) =
      (s.recordOf (channelResource n)).or (if k.resource = channelResource n then some k else none) := by
    unfold State.recordOf
    rw [State.withStack_stack, List.find?_append]
    refine congrArg _ ?_
    by_cases hr : k.resource = channelResource n <;> simp [hr]
  cases hs : s.recordOf (channelResource n) with
  | some x =>
    unfold State.gateCondition
    rw [hfind, hs]
    rfl
  | none =>
    rw [State.gateCondition_of_no_record hs]
    refine NotHeld.gateCondition fun x hx => ?_
    rw [hfind, hs, Option.none_or] at hx
    split at hx <;> cases hx
    exact hk

theorem openLaw_commandClaim {s : State} (h : OpenLaw s) (a b : Byte) : OpenLaw (s.commandClaim a b) := by
  unfold State.commandClaim
  split
  · split
    · exact h
    · split
      · exact openLaw_push (s := s) h rfl
      · exact h
  · exact h

/-- The top record of a lawful stack is the only one of its resource. -/
theorem recordOf_top {s : State} (hs : StackLaw s) {k : Record} (hk : s.top = some k) :
    s.recordOf k.resource = some k := by
  have hmem : k ∈ s.stack := List.mem_of_getLast? hk
  cases hfind : s.recordOf k.resource with
  | none => exact absurd rfl (State.recordOf_eq_none.mp hfind k hmem)
  | some x =>
    obtain ⟨hx, hres⟩ := State.mem_of_recordOf hfind
    exact congrArg some (List.inj_on_of_nodup_map (stackLaw_resource_nodup hs) hx hmem hres)

/-- Another record state at the evaluation of its channel. -/
theorem openLaw_setRecord_evalResource {s : State} (h : OpenLaw s) (r : Resource) (st : RecordState) (d : BitVec 4)
    (g : Grant) : OpenLaw ((s.setRecord r st).evalResource r d g) := by
  refine openLaw_evalResource (fun n hn => ?_) d g
  have hcond : (s.setRecord r st).gateCondition n = s.gateCondition n := by
    unfold State.gateCondition
    rw [recordOf_setRecord_other s hn]
    rfl
  rw [hcond]
  exact h n

theorem openLaw_commandRelease {s : State} (hs : StackLaw s) (h : OpenLaw s) : OpenLaw s.commandRelease := by
  have htop : OpenLaw s.releaseTop := by
    unfold State.releaseTop
    split
    · exact h
    next k hk =>
      have hrecord := recordOf_top hs hk
      split
      · split
        · exact openLaw_setRecord_evalResource h _ _ _ _
        · exact h
      next hst => exact openLaw_setRecord h (.of_record hrecord (by rw [Record.isHeld, hst])) nofun
      next hst => exact openLaw_popRecord h (.of_record hrecord (by rw [Record.isHeld, hst]))
      all_goals exact h
  unfold State.commandRelease
  split
  · exact htop
  · exact htop
  · exact htop
  all_goals exact h

theorem openLaw_commandRenew {s : State} (h : OpenLaw s) : OpenLaw s.commandRenew := by
  have hheld : OpenLaw s.renewHeld := by
    unfold State.renewHeld
    split
    · exact h
    · split
      · exact h
      · split <;> exact h
  unfold State.commandRenew
  split
  · exact hheld
  · exact hheld
  all_goals exact h

theorem openLaw_commandWithdraw {s : State} (hs : StackLaw s) (h : OpenLaw s) : OpenLaw s.commandWithdraw := by
  have htop : OpenLaw s.withdrawTop := by
    unfold State.withdrawTop
    split
    · exact h
    next k hk =>
      have hrecord := recordOf_top hs hk
      split
      next hst =>
        have hnot : NotHeld s k.resource := .of_record hrecord (by rw [Record.isHeld, hst])
        split
        · exact openLaw_respond (openLaw_raise (openLaw_popRecord
            (openLaw_withSendq h (s.sendq.removeQueued (QBody.isClaimOf k.resource))) hnot) _) _
        · exact openLaw_setRecord h hnot nofun
      next hst =>
        split
        · exact openLaw_setRecord h (.of_record hrecord (by rw [Record.isHeld, hst])) nofun
        · exact h
      all_goals exact h
  unfold State.commandWithdraw
  split
  · exact htop
  · exact htop
  all_goals exact h

theorem openLaw_commandReadEntry {s : State} (h : OpenLaw s) (b : Byte) : OpenLaw (s.commandReadEntry b) := by
  unfold State.commandReadEntry
  split
  · split
    · split <;> exact h
    · exact h
  · exact h

theorem openLaw_commandTakeReport {s : State} (h : OpenLaw s) : OpenLaw s.commandTakeReport := by
  unfold State.commandTakeReport
  split <;> exact h

theorem openLaw_commandSetMask {s : State} (h : OpenLaw s) (v : BitVec 24) : OpenLaw (s.commandSetMask v) := by
  unfold State.commandSetMask
  split <;> exact h

theorem openLaw_atPort {s : State} {f : State → State} (h : OpenLaw s) (hf : OpenLaw (f s)) : OpenLaw (s.atPort f) := by
  unfold State.atPort
  split
  · exact h
  · exact hf

theorem openLaw_awake {s : State} {f : State → State} (h : OpenLaw s) (hf : OpenLaw (f s)) : OpenLaw (s.awake f) := by
  unfold State.awake
  split
  · exact h
  · exact hf

/-! ## The resets and the inputs (R115 to R117, R182, R196) -/

theorem openLaw_setChannel {s : State} (h : OpenLaw s) (n : Fin 8) {c : Channel} (hc : c.opened = s.gate[n].opened) :
    OpenLaw (s.setChannel n c) := fun m => by
  have hcond : (s.setChannel n c).gateCondition m = s.gateCondition m := rfl
  rw [hcond, ← h m]
  show (s.gate.set n c)[m.val].opened = _
  rw [Vector.getElem_set]
  split
  next hnm => rw [hc]; exact congrArg (fun i : Fin 8 => s.gate[i].opened) (Fin.ext hnm)
  next => rfl

theorem openLaw_ginFalls {s : State} (h : OpenLaw s) (n : Fin 8) : OpenLaw (s.ginFalls n) := by
  unfold State.ginFalls
  split
  · exact openLaw_setChannel h n rfl
  · exact openLaw_raise (openLaw_setChannel h n (c := { s.gate[n] with ginLow := true }) rfl) _

/-! ## The timers (R48, R53) -/

/-- A countdown of this station's own hold runs out: the record of its resource is settled with it. -/
theorem openLaw_countdownExpires {s : State} (h : OpenLaw s) (c : Countdown) : OpenLaw (s.countdownExpires c) := by
  have hask (t : State) (ht : OpenLaw t) (c : Countdown) : OpenLaw (t.askLapse c) := by
    unfold State.askLapse
    split <;> exact ht
  unfold State.countdownExpires
  dsimp only
  refine hask _ ?_ _
  have hother (n : Fin 8) (hn : (channelResource n, s.self) ≠ (c.resource, c.holder)) :
      (s.setCountdown c.resource c.holder c.grant .expired).gateCondition n = s.gateCondition n := by
    have hcountdown (g : Grant) : (s.setCountdown c.resource c.holder c.grant .expired).countdown (channelResource n)
        s.self g = s.countdown (channelResource n) s.self g := by
      rw [State.countdown_setCountdown, if_neg]
      exact fun heq => hn (congrArg (fun x : Resource × Station × Grant => (x.1, x.2.1)) heq)
    unfold State.gateCondition
    simp only [show (s.setCountdown c.resource c.holder c.grant .expired).self = s.self from rfl, hcountdown]
    rfl
  split
  next hown =>
    have hne (n : Fin 8) (hn : channelResource n ≠ c.resource) : (channelResource n, s.self) ≠ (c.resource, c.holder) :=
      fun heq => hn (Prod.mk.inj heq).1
    unfold State.onCountdownExpired
    split
    next hnone =>
      refine h.congr rfl fun n => ?_
      by_cases hn : channelResource n = c.resource
      · have hs : s.recordOf (channelResource n) = none := hn ▸ hnone
        rw [State.gateCondition_of_no_record hs, State.gateCondition_of_no_record (s := State.setCountdown _ _ _ _ _) hs]
      · exact hother n (hne n hn)
    next k hk =>
      split
      · refine openLaw_evalResource (fun n hn => ?_) _ _
        have hcond : ((s.setCountdown c.resource c.holder c.grant .expired).setRecord c.resource (.expired ‹_›)).gateCondition
            n = (s.setCountdown c.resource c.holder c.grant .expired).gateCondition n := by
          unfold State.gateCondition
          rw [recordOf_setRecord_other _ hn]
          rfl
        rw [hcond, hother n (hne n hn)]
        exact h n
      next hnot =>
        refine h.congr rfl fun n => ?_
        by_cases hn : channelResource n = c.resource
        · have hs : s.recordOf (channelResource n) = some k := hn ▸ hk
          rw [State.gateCondition_of_not_held hs hnot,
            State.gateCondition_of_not_held (s := State.setCountdown _ _ _ _ _) hs hnot]
        · exact hother n (hne n hn)
  next hother' =>
    refine h.congr rfl fun n => ?_
    by_cases hn : (channelResource n, s.self) = (c.resource, c.holder)
    · have hst : s.ctl.station ≠ .member := fun hm => hother' ⟨(Prod.mk.inj hn).2.symm, by rw [hm]; rfl⟩
      unfold State.gateCondition
      rw [show (s.setCountdown c.resource c.holder c.grant .expired).ctl = s.ctl from rfl, decide_eq_false hst,
        Bool.false_and, Bool.false_and]
    · exact hother n hn

theorem openLaw_expireCountdown {s : State} (h : OpenLaw s) (r : Resource) (p : Station) :
    OpenLaw (s.expireCountdown r p) := by
  unfold State.expireCountdown
  split
  · exact openLaw_countdownExpires h _
  · exact h

theorem openLaw_askJoin {s : State} (h : OpenLaw s) : OpenLaw s.askJoin :=
  h.of_same (by simp) (by simp) (by simp) (by simp)

theorem openLaw_askSync {s : State} (h : OpenLaw s) : OpenLaw s.askSync :=
  h.of_same (by simp) (by simp) (by simp) (by simp)

theorem openLaw_askLeave {s : State} (h : OpenLaw s) : OpenLaw s.askLeave :=
  h.of_same (by simp) (by simp) (by simp) (by simp)

theorem openLaw_askPresence {s : State} (h : OpenLaw s) : OpenLaw s.askPresence :=
  h.of_same (by simp) (by simp) (by simp) (by simp)

theorem openLaw_askFound {s : State} (h : OpenLaw s) : OpenLaw s.askFound :=
  h.of_same (by simp) (by simp) (by simp) (by simp)

theorem openLaw_askEvict {s : State} (h : OpenLaw s) (p : Station) : OpenLaw (s.askEvict p) :=
  h.of_same (by simp) (by simp) (by simp) (by simp)

theorem openLaw_askRenew {s : State} (h : OpenLaw s) : OpenLaw s.askRenew :=
  h.of_same (by simp) (by simp) (by simp) (by simp)

/-- A fold of operations that each keep the law. -/
theorem openLaw_foldl {α : Type} {f : State → α → State} (hf : ∀ s a, OpenLaw s → OpenLaw (f s a)) (l : List α)
    {s : State} (h : OpenLaw s) : OpenLaw (l.foldl f s) :=
  foldl_keeps (R := fun s t => OpenLaw s → OpenLaw t) (fun _ => id) (fun h h' => h' ∘ h) hf l s h

theorem openLaw_askLapse {s : State} (h : OpenLaw s) (c : Countdown) : OpenLaw (s.askLapse c) :=
  h.of_same (by simp) (by simp) (by simp) (by simp)

theorem openLaw_askOwedRelease {s : State} (h : OpenLaw s) (k : Record) : OpenLaw (s.askOwedRelease k) :=
  h.of_same (by simp) (by simp) (by simp) (by simp)

theorem openLaw_placeOwedWithdraw {s : State} (h : OpenLaw s) (k : Record) : OpenLaw (s.placeOwedWithdraw k) :=
  h.of_same (by simp) (by simp) (by simp) (by simp)

theorem openLaw_expirePresence {s : State} (h : OpenLaw s) : OpenLaw s.expirePresence := by
  unfold State.expirePresence
  split
  · exact openLaw_askPresence (h.of_same rfl rfl rfl rfl)
  · exact h

theorem openLaw_expireSilence {s : State} (h : OpenLaw s) (p : Station) : OpenLaw (s.expireSilence p) := by
  unfold State.expireSilence
  split
  · refine openLaw_askEvict ?_ p
    exact h.of_same rfl rfl rfl rfl
  · exact h

theorem openLaw_expireFoundWait {s : State} (h : OpenLaw s) : OpenLaw s.expireFoundWait := by
  unfold State.expireFoundWait
  split
  · exact openLaw_askFound (h.of_same rfl rfl rfl rfl)
  · exact h

theorem openLaw_expireJoinWait {s : State} (h : OpenLaw s) : OpenLaw s.expireJoinWait := by
  unfold State.expireJoinWait
  split
  · split
    · split <;> exact h.of_same rfl rfl rfl rfl
    · exact h.of_same rfl rfl rfl rfl
  · exact h

theorem openLaw_exhaust {s : State} (h : OpenLaw s) : OpenLaw s.exhaust := by
  unfold State.exhaust
  split
  · exact h
  · exact h.congr rfl fun _ => rfl

theorem openLaw_expireImageWait {s : State} (h : OpenLaw s) : OpenLaw s.expireImageWait := by
  unfold State.expireImageWait
  split
  · dsimp only
    have hwait : OpenLaw (s.withTimer { s.timer with imageWait := .expired }) := h.of_same rfl rfl rfl rfl
    split
    · split
      · exact openLaw_askJoin hwait
      · exact openLaw_raise (openLaw_evalGates _ 3) _
    · split
      · exact openLaw_askSync hwait
      · exact openLaw_askLeave (openLaw_exhaust hwait)
    all_goals exact hwait
  · exact h

/-- A countdown that runs goes on running at a tick, however long it still has. -/
theorem openLaw_advance {s : State} (h : OpenLaw s) : OpenLaw s.advance := by
  have hcountdowns : s.advance.timer.countdowns = s.timer.countdowns.map fun c => { c with timer := c.timer.tick } := by
    unfold State.advance
    dsimp only
    split <;> rfl
  have hframe : s.advance.gate = s.gate ∧ s.advance.ctl = s.ctl ∧ s.advance.stack = s.stack := by
    unfold State.advance
    dsimp only
    split <;> exact ⟨rfl, rfl, rfl⟩
  obtain ⟨hgate, hctl, hstack⟩ := hframe
  have hcountdown (r : Resource) (p : Station) (g : Grant) :
      (s.advance.countdown r p g).isRunning = (s.countdown r p g).isRunning := by
    unfold State.countdown
    rw [hcountdowns, List.find?_map]
    have hsame : ((fun c : Countdown => c.isOf r p g) ∘ fun c : Countdown => { c with timer := c.timer.tick }) =
        fun c => c.isOf r p g := rfl
    rw [hsame]
    cases s.timer.countdowns.find? fun c => c.isOf r p g with
    | none => rfl
    | some c => cases hc : c.timer <;> simp [hc, Timer.tick, Timer.isRunning]
  refine h.congr hgate fun n => ?_
  unfold State.gateCondition State.recordOf State.self
  rw [hctl, hstack]
  simp only [hcountdown]

/-! ## Every command -/

theorem exec_openLaw {c : Instr} {s t : State} (h : exec c s = .next t) (hs : StackLaw s) (hopen : OpenLaw s) :
    OpenLaw t := by
  obtain ⟨hclaim, hrelease, hwithdraw, hlapse, hrenew, hjoin, hsync, hfound, hleave, hevict, himage, hpresence⟩ :=
    openLaw_applications hopen
  have hclosed (held : Bool) (number : Station) (l : LineUnit) : OpenLaw (s.pinReset held number l) :=
    openLaw_of_not_member (fun h => (by cases h)) fun n => (closedGates_closed s.gate n).1
  cases c with
  | unknownCommandCode code =>
    rw [exec, execUnknownCommandCode] at h
    split at h <;> cases h
    exact openLaw_atPort hopen hopen
  | ginAsserted n =>
    cases h
    split
    · exact hopen
    · split
      · exact openLaw_setChannel hopen n rfl
      · exact openLaw_ginFalls hopen n
  | ginReleased n => cases h; exact openLaw_setChannel hopen n rfl
  | rstnAsserted => cases h; exact hclosed true _ _
  | resetRelease straps => cases h; exact hclosed false _ _
  | softReset =>
    cases h
    refine openLaw_awake hopen ?_
    split
    · exact openLaw_of_not_member (fun h => (by cases h)) fun n => (closedGates_closed s.gate n).1
    · exact hopen
  | configure a b c d e f => cases h; exact openLaw_atPort hopen (openLaw_configure hopen a b c d e f)
  | join => cases h; exact openLaw_atPort hopen (openLaw_commandJoin hopen)
  | leave => cases h; exact openLaw_atPort hopen (openLaw_commandLeave hopen)
  | claim r m => cases h; exact openLaw_atPort hopen (openLaw_commandClaim hopen r m)
  | release => cases h; exact openLaw_atPort hopen (openLaw_commandRelease hs hopen)
  | renew => cases h; exact openLaw_atPort hopen (openLaw_commandRenew hopen)
  | withdraw => cases h; exact openLaw_atPort hopen (openLaw_commandWithdraw hs hopen)
  | readStatus => cases h; exact openLaw_atPort hopen hopen
  | readStack => cases h; exact openLaw_atPort hopen hopen
  | readEntry r => cases h; exact openLaw_atPort hopen (openLaw_commandReadEntry hopen r)
  | readMembers => cases h; exact openLaw_atPort hopen hopen
  | takeReport => cases h; exact openLaw_atPort hopen (openLaw_commandTakeReport hopen)
  | setMask v => cases h; exact openLaw_atPort hopen (openLaw_commandSetMask hopen v)
  | reset => cases h; exact openLaw_atPort hopen hopen
  | offer => cases h; exact openLaw_awake hopen (openLaw_offerHead hopen)
  | arbitrationLost => cases h; exact openLaw_awake hopen (openLaw_loseArbitration hopen)
  | conflict => cases h; exact openLaw_awake hopen (openLaw_stopAtConflict hopen)
  | frameVetoed f => cases h; exact openLaw_awake hopen (openLaw_veto hopen f)
  | frameDelivered f => cases h; exact openLaw_awake hopen (openLaw_deliver hopen f)
  | frameTruncated => cases h; exact openLaw_awake hopen (openLaw_truncate hopen)
  | lineIdle => cases h; exact openLaw_awake hopen (openLaw_lineBecomesIdle hopen)
  | lineBlocked => cases h; exact openLaw_awake hopen (openLaw_lineBecomesBlocked hopen)
  | lineRestored => cases h; exact openLaw_awake hopen (openLaw_lineIsRestored hopen)
  | startCellSeen => cases h; exact openLaw_awake hopen (openLaw_seeStartCell hopen)
  | applyClaim => cases h; exact openLaw_awake hopen hclaim
  | applyRelease => cases h; exact openLaw_awake hopen hrelease
  | applyWithdraw => cases h; exact openLaw_awake hopen hwithdraw
  | applyLapse => cases h; exact openLaw_awake hopen hlapse
  | applyRenew => cases h; exact openLaw_awake hopen hrenew
  | applyJoin => cases h; exact openLaw_awake hopen hjoin
  | applySync => cases h; exact openLaw_awake hopen hsync
  | applyFound => cases h; exact openLaw_awake hopen hfound
  | applyLeave => cases h; exact openLaw_awake hopen hleave
  | applyEvict => cases h; exact openLaw_awake hopen hevict
  | applyImage => cases h; exact openLaw_awake hopen himage
  | applyPresence => cases h; exact openLaw_awake hopen hpresence
  | holdCountdownExpiry r p => cases h; exact openLaw_awake hopen (openLaw_expireCountdown hopen r p)
  | presenceTimerExpiry => cases h; exact openLaw_awake hopen (openLaw_expirePresence hopen)
  | silenceTimerExpiry p => cases h; exact openLaw_awake hopen (openLaw_expireSilence hopen p)
  | joinWaitExpiry => cases h; exact openLaw_awake hopen (openLaw_expireJoinWait hopen)
  | foundWaitExpiry => cases h; exact openLaw_awake hopen (openLaw_expireFoundWait hopen)
  | imageWaitExpiry => cases h; exact openLaw_awake hopen (openLaw_expireImageWait hopen)
  | lapseAskedAgain r p => cases h; exact openLaw_awake hopen (openLaw_foldl (fun _ c ht => openLaw_askLapse ht c) _ hopen)
  | evictAskedAgain p => cases h; exact openLaw_awake hopen (openLaw_askEvict hopen p)
  | presenceAskedAgain => cases h; exact openLaw_awake hopen (openLaw_askPresence hopen)
  | foundAskedAgain => cases h; exact openLaw_awake hopen (openLaw_askFound hopen)
  | joinAskedAgain => cases h; exact openLaw_awake hopen (openLaw_askJoin hopen)
  | syncAskedAgain => cases h; exact openLaw_awake hopen (openLaw_askSync hopen)
  | reconciliationRenewAsked => cases h; exact openLaw_awake hopen (openLaw_askRenew hopen)
  | owedReleaseAsked =>
    cases h
    exact openLaw_awake hopen (openLaw_foldl (fun _ k ht => openLaw_askOwedRelease ht k) _ hopen)
  | exhaustedLeaveAsked => cases h; exact openLaw_awake hopen (openLaw_askLeave hopen)
  | owedWithdrawPlaced =>
    cases h
    exact openLaw_awake hopen (openLaw_foldl (fun _ k ht => openLaw_placeOwedWithdraw ht k) _ hopen)

/-- Settles O9: what is armed is open by the laws that every command keeps, and each command that changes a condition
evaluates its channel. -/
theorem stepKeepsTheGateLaw : Obligations.StepKeepsTheGateLaw := by
  intro s t hs hgate h
  obtain ⟨hopen, harmed⟩ := (gateLaw_iff s).mp hgate
  refine (gateLaw_iff t).mpr ⟨?_, ?_⟩
  · unfold step at h
    split at h
    · cases h
      unfold State.tick
      exact openLaw_awake hopen (openLaw_advance hopen)
    next c rest _ => exact exec_openLaw (s := s.withPending rest) h hs hopen
  · obtain ⟨p, q, u, hkeeps, rfl⟩ := step_keeps h
    exact hkeeps.armed harmed

end Sys2Proof.Machine

/-! PROOFS. The laws of one entry under granting, removal and promotion (R2, R3, R8, R12). -/

namespace Sys2Proof.Machine

open Sys2Proof.Safety

/-! ## The laws of one entry, but for its first waiter -/

/-- The laws of one entry but for R12: the state follows the holders (R2), no station stands in it twice (R3), the
grant numbers are not 0 and distinct (R8). -/
structure Entry.Sound (e : Entry) : Prop where
  state : e.stateAgrees = true
  stations : e.stations.Nodup
  grants : ∀ h ∈ e.holders, h.grant ≠ 0
  numbers : (e.holders.map (·.grant)).Nodup

/-- The first waiter is not grantable under the holders (R12). -/
def Entry.Stopped (e : Entry) : Prop := ∀ w rest, e.waiters = w :: rest → e.promotable w.mode = false

theorem Entry.lawful_iff (e : Entry) : e.lawful = true ↔ e.Sound ∧ e.Stopped := by
  unfold Entry.lawful
  rw [Bool.and_eq_true]
  refine and_congr ?_ ?_
  · simp only [Bool.and_eq_true, decide_eq_true_eq, List.all_eq_true]
    exact ⟨fun ⟨⟨⟨h1, h2⟩, h3⟩, h4⟩ => ⟨h1, h2, h3, h4⟩, fun ⟨h1, h2, h3, h4⟩ => ⟨⟨⟨h1, h2⟩, h3⟩, h4⟩⟩
  · unfold Entry.Stopped
    cases e.waiters <;> simp

theorem Entry.clear_lawful : Entry.clear.lawful = true := rfl

/-- The holders of a sound entry are distinct stations, sixteen at most. -/
theorem Entry.Sound.holders_nodup {e : Entry} (h : e.Sound) : (e.holders.map (·.station)).Nodup :=
  h.stations.sublist (List.sublist_append_left _ _)

theorem Entry.Sound.holders_length {e : Entry} (h : e.Sound) : e.holders.length < 65535 := by
  have hlen := h.holders_nodup.length_le_card
  rw [List.length_map, Fintype.card_fin] at hlen
  omega

theorem Entry.stateAgrees_iff (e : Entry) : e.stateAgrees = true ↔
    (e.state = .free ∧ e.holders = []) ∨
      (e.state = .exclusive ∧ e.holders.length = 1 ∧ ∀ h ∈ e.holders, h.mode = .exclusive) ∨
      (e.state = .shared ∧ e.holders ≠ [] ∧ ∀ h ∈ e.holders, h.mode = .shared) := by
  unfold Entry.stateAgrees
  cases e.state <;> simp

/-! ## Granting (R8, R9) -/

/-- The grant of the first waiter of a queue to an entry that it may enter. -/
theorem Entry.Sound.grant {e : Entry} {w : Waiter} {ws : List Waiter} (h : ({ e with waiters := w :: ws } : Entry).Sound)
    (hp : e.promotable w.mode = true) : ({ e.grant w.station w.mode with waiters := ws } : Entry).Sound := by
  have hlen : e.holders.length < 65535 := h.holders_length
  refine ⟨?_, ?_, e.grant_keeps_numbers_ne_zero _ _ h.grants, e.grant_keeps_numbers_nodup _ _ hlen h.numbers⟩
  · have hstate := (Entry.stateAgrees_iff _).mp h.state
    rw [Entry.stateAgrees_iff]
    simp only [Entry.grant_holders]
    obtain hfree | ⟨hshared, hm⟩ := (e.promotable_iff _).mp hp
    · have hnil : e.holders = [] := by
        rcases hstate with ⟨-, hnil⟩ | ⟨hst, -⟩ | ⟨hst, -⟩
        · exact hnil
        · exact absurd (hfree.symm.trans hst) (by decide)
        · exact absurd (hfree.symm.trans hst) (by decide)
      cases hm : w.mode
      · exact .inr (.inr ⟨by simp [Entry.grant, Mode.entryState], by simp, by simp [hnil]⟩)
      · exact .inr (.inl ⟨by simp [Entry.grant, Mode.entryState], by simp [hnil], by simp [hnil]⟩)
    · obtain ⟨hst, -⟩ | ⟨hst, -⟩ | ⟨-, hne, hall⟩ := hstate
      · exact absurd (hshared.symm.trans hst) (by decide)
      · exact absurd (hshared.symm.trans hst) (by decide)
      · refine .inr (.inr ⟨by simp [Entry.grant, Mode.entryState, hm], by simp, fun x hx => ?_⟩)
        rcases List.mem_append.mp hx with hx | hx
        · exact hall x hx
        · rw [List.mem_singleton.mp hx]; exact hm
  · have hstations := h.stations
    unfold Entry.stations at hstations ⊢
    simpa [Entry.grant_holders] using hstations

/-- A waiter, once granted, stands where it stood in the order of the stations. -/
theorem Entry.Sound.promoteOver {e : Entry} {ws : List Waiter} (h : ({ e with waiters := ws } : Entry).Sound) :
    (e.promoteOver ws).Sound := by
  induction ws generalizing e with
  | nil => exact h
  | cons w ws ih =>
    rw [Entry.promoteOver_cons]
    split
    next hp =>
      rw [← Entry.promoteOver_withWaiters _ ws]
      exact ih (h.grant hp)
    next => exact h

/-- Promotion makes a sound entry lawful (R12). -/
theorem Entry.Sound.promote_lawful {e : Entry} (h : e.Sound) : e.promote.lawful = true :=
  (Entry.lawful_iff _).mpr ⟨Entry.Sound.promoteOver (ws := e.waiters) h, (e.promoteOver_spec e.waiters).2⟩

/-! ## Removal (R10, R11) -/

theorem Entry.Sound.removeHold {e : Entry} (h : e.Sound) (u : Station) (g : Grant) : (e.removeHold u g).Sound := by
  have hsub : (e.removeHold u g).holders.Sublist e.holders := List.filter_sublist
  refine ⟨?_, h.stations.sublist ((hsub.map _).append_right _), fun x hx => h.grants x (hsub.subset hx),
    h.numbers.sublist (hsub.map _)⟩
  rw [Entry.stateAgrees_iff]
  cases hnil : (e.removeHold u g).holders with
  | nil =>
    refine .inl ⟨?_, rfl⟩
    show (if (e.removeHold u g).holders.isEmpty then _ else _) = _
    rw [hnil]
    rfl
  | cons x l =>
    have hstate : (e.removeHold u g).state = e.state := by
      show (if (e.removeHold u g).holders.isEmpty then _ else _) = _
      rw [hnil]
      rfl
    have hlen := hsub.length_le
    have hmem := hsub.subset
    rw [hnil] at hlen hmem
    obtain ⟨-, hempty⟩ | ⟨hst, hone, hall⟩ | ⟨hst, -, hall⟩ := (Entry.stateAgrees_iff _).mp h.state
    · rw [hempty] at hlen
      cases hlen
    · refine .inr (.inl ⟨hstate.trans hst, ?_, fun y hy => hall y (hmem hy)⟩)
      rw [hone] at hlen
      exact le_antisymm hlen (Nat.succ_le_succ (Nat.zero_le _))
    · exact .inr (.inr ⟨hstate.trans hst, by simp, fun y hy => hall y (hmem hy)⟩)

theorem Entry.Sound.removeWaiter {e : Entry} (h : e.Sound) (u : Station) : (e.removeWaiter u).Sound :=
  ⟨h.state, h.stations.sublist ((List.filter_sublist.map _).append_left _), h.grants, h.numbers⟩

/-! ## A claim (R7, R14, R15) -/

theorem Entry.not_mem_stations {e : Entry} {u : Station} (hh : e.hasHolder u = false) (hw : e.hasWaiter u = false) :
    u ∉ e.stations := by
  simp only [Entry.stations, List.mem_append, List.mem_map, not_or]
  refine ⟨fun ⟨x, hx, hxu⟩ => ?_, fun ⟨x, hx, hxu⟩ => ?_⟩
  · exact absurd (List.any_eq_true.mpr ⟨x, hx, decide_eq_true hxu⟩) (by rw [← Entry.hasHolder, hh]; nofun)
  · exact absurd (List.any_eq_true.mpr ⟨x, hx, decide_eq_true hxu⟩) (by rw [← Entry.hasWaiter, hw]; nofun)

/-- A claim that is grantable is so for the holders alone, and nobody waits (R7, R12). -/
theorem Entry.waiters_of_grantable {e : Entry} (h : e.Stopped) {m : Mode} (hg : e.grantable m = true) :
    e.waiters = [] ∧ e.promotable m = true := by
  obtain hfree | ⟨hshared, hm, hnil⟩ := (e.grantable_iff m).mp hg
  · refine ⟨?_, (e.promotable_iff m).mpr (.inl hfree)⟩
    cases hw : e.waiters with
    | nil => rfl
    | cons w ws => exact absurd (h w ws hw) (by rw [(e.promotable_iff _).mpr (.inl hfree)]; nofun)
  · exact ⟨hnil, (e.promotable_iff m).mpr (.inr ⟨hshared, hm⟩)⟩

theorem Entry.grant_lawful {e : Entry} (h : e.lawful = true) {u : Station} {m : Mode} (hg : e.grantable m = true)
    (hu : u ∉ e.stations) : (e.grant u m).lawful = true := by
  obtain ⟨hsound, hstop⟩ := e.lawful_iff.mp h
  obtain ⟨hnil, hp⟩ := Entry.waiters_of_grantable hstop hg
  have hqueued : ({ e with waiters := [{ station := u, mode := m }] } : Entry).Sound := by
    refine ⟨hsound.state, ?_, hsound.grants, hsound.numbers⟩
    have hholders : u ∉ e.holders.map (·.station) := fun hmem => hu (List.mem_append_left _ hmem)
    exact hsound.holders_nodup.append (List.nodup_singleton _) (List.disjoint_singleton.mpr hholders)
  have hgranted : (e.grant u m).Sound := by
    have := hqueued.grant hp
    rwa [show ({ e.grant u m with waiters := [] } : Entry) = e.grant u m by rw [← hnil]; rfl] at this
  refine (Entry.lawful_iff _).mpr ⟨hgranted, fun w rest hw => ?_⟩
  rw [show (e.grant u m).waiters = e.waiters from rfl, hnil] at hw
  cases hw

theorem Entry.wait_lawful {e : Entry} (h : e.lawful = true) {u : Station} {m : Mode} (hg : e.grantable m = false)
    (hu : u ∉ e.stations) :
    ({ e with waiters := e.waiters ++ [{ station := u, mode := m }] } : Entry).lawful = true := by
  obtain ⟨hsound, hstop⟩ := e.lawful_iff.mp h
  refine (Entry.lawful_iff _).mpr ⟨⟨hsound.state, ?_, hsound.grants, hsound.numbers⟩, fun w rest hw => ?_⟩
  · unfold Entry.stations
    rw [List.map_append, ← List.append_assoc]
    exact hsound.stations.append (List.nodup_singleton _) (List.disjoint_singleton.mpr hu)
  · show e.promotable w.mode = false
    cases hwaiters : e.waiters with
    | cons x l =>
      have hhead : x :: (l ++ [{ station := u, mode := m }]) = w :: rest := by rw [← hw, hwaiters]; rfl
      obtain ⟨rfl, -⟩ := List.cons.inj hhead
      exact hstop x l hwaiters
    | nil =>
      have hhead : [({ station := u, mode := m } : Waiter)] = w :: rest := by rw [← hw, hwaiters]; rfl
      obtain ⟨rfl, -⟩ := List.cons.inj hhead
      rw [← Bool.not_eq_true, e.promotable_iff]
      rw [← Bool.not_eq_true, e.grantable_iff] at hg
      exact fun hp => hg (hp.imp id fun ⟨hst, hm⟩ => ⟨hst, hm, hwaiters⟩)

/-! ## The holds of an entry (R25) -/

theorem Entry.holds_iff (e : Entry) (u : Station) (g : Grant) :
    e.holds u g = true ↔ ∃ h ∈ e.holders, h.station = u ∧ h.grant = g := by
  simp [Entry.holds]

theorem Entry.holds_removeHold (e : Entry) (u u' : Station) (g g' : Grant) :
    (e.removeHold u g).holds u' g' = (e.holds u' g' && !(decide (u' = u) && decide (g' = g))) := by
  rw [Bool.eq_iff_iff]
  simp only [Entry.holds_iff, Entry.removeHold, List.mem_filter, Bool.and_eq_true, Bool.not_eq_true', Entry.holds_iff]
  constructor
  · rintro ⟨h, ⟨hmem, hnot⟩, rfl, rfl⟩
    exact ⟨⟨h, hmem, rfl, rfl⟩, hnot⟩
  · rintro ⟨⟨h, hmem, rfl, rfl⟩, hnot⟩
    exact ⟨h, ⟨hmem, hnot⟩, rfl, rfl⟩

end Sys2Proof.Machine

/-! PROOFS. What the operations of the table unit do to the laws of the entries and of the countdowns (R1, R2, R3, R8,
R12, R25, R50). -/

namespace Sys2Proof.Machine

open Sys2Proof.Safety

/-! ## The countdowns (R25, R50) -/

/-- The keys of the countdowns: resource, holder and grant number. -/
def TimerUnit.keys (t : TimerUnit) : List (Resource × Station × Grant) :=
  t.countdowns.map fun c => (c.resource, c.holder, c.grant)

theorem any_isOf_iff (l : List Countdown) (r : Resource) (h : Station) (g : Grant) :
    l.any (fun c => c.isOf r h g) = true ↔ (r, h, g) ∈ l.map fun c => (c.resource, c.holder, c.grant) := by
  simp only [List.any_eq_true, Countdown.isOf_iff, List.mem_map]

/-- The law of the countdowns by their keys. -/
theorem countdownLaw_iff (s : State) : CountdownLaw s ↔
    (∀ r h g, (r, h, g) ∈ s.timer.keys ↔ (s.entry r).holds h g = true) ∧ s.timer.keys.Nodup := by
  unfold CountdownLaw
  refine and_congr_left fun _ => forall₃_congr fun r h g => ?_
  rw [Bool.eq_iff_iff, any_isOf_iff]
  rfl

theorem countdownLaw_congr {s t : State} (he : t.table.entries = s.table.entries)
    (hk : t.timer.keys = s.timer.keys) (h : CountdownLaw s) : CountdownLaw t := by
  rw [countdownLaw_iff] at h ⊢
  unfold State.entry at *
  rw [he, hk]
  exact h

theorem not_isOf_eq (c : Countdown) (r : Resource) (h : Station) (g : Grant) :
    (!c.isOf r h g) = decide ((c.resource, c.holder, c.grant) ≠ (r, h, g)) := by
  rw [Bool.eq_iff_iff, Bool.not_eq_true', ← Bool.not_eq_true, Countdown.isOf_iff, decide_eq_true_iff]

theorem keys_setCountdown (s : State) (r : Resource) (h : Station) (g : Grant) (t : Timer) :
    (s.setCountdown r h g t).timer.keys = s.timer.keys.filter (fun k => decide (k ≠ (r, h, g))) ++ [(r, h, g)] := by
  unfold State.setCountdown TimerUnit.keys
  rw [State.withTimer_timer, List.map_append, List.filter_map]
  exact congrArg₂ _ (congrArg _ (List.filter_congr fun c _ => not_isOf_eq c r h g)) rfl

theorem keys_discardCountdown (s : State) (r : Resource) (h : Station) (g : Grant) :
    (s.discardCountdown r h g).timer.keys = s.timer.keys.filter fun k => decide (k ≠ (r, h, g)) := by
  unfold State.discardCountdown TimerUnit.keys
  rw [State.withTimer_timer, List.filter_map]
  exact congrArg _ (List.filter_congr fun c _ => not_isOf_eq c r h g)

theorem nodup_setCountdown {s : State} (hs : s.timer.keys.Nodup) (r : Resource) (h : Station) (g : Grant) (t : Timer) :
    (s.setCountdown r h g t).timer.keys.Nodup := by
  rw [keys_setCountdown]
  exact (hs.filter _).append (List.nodup_singleton _) (List.disjoint_singleton.mpr (by simp))

theorem mem_keys_setCountdown {s : State} {r r' : Resource} {h h' : Station} {g g' : Grant} {t : Timer} :
    (r', h', g') ∈ (s.setCountdown r h g t).timer.keys ↔ (r', h', g') = (r, h, g) ∨ (r', h', g') ∈ s.timer.keys := by
  rw [keys_setCountdown, List.mem_append, List.mem_filter, List.mem_singleton, decide_eq_true_iff]
  constructor
  · exact fun hk => hk.elim (fun hk => .inr hk.1) .inl
  · intro hk
    by_cases heq : (r', h', g') = (r, h, g)
    · exact .inr heq
    · exact .inl ⟨hk.resolve_left heq, heq⟩

/-- A countdown that is there takes another value. -/
theorem countdownLaw_setCountdown {s : State} (hs : CountdownLaw s) {r : Resource} {h : Station} {g : Grant}
    (hold : (s.entry r).holds h g = true) (t : Timer) : CountdownLaw (s.setCountdown r h g t) := by
  rw [countdownLaw_iff] at hs ⊢
  obtain ⟨hkeys, hnodup⟩ := hs
  refine ⟨fun r' h' g' => ?_, nodup_setCountdown hnodup r h g t⟩
  rw [mem_keys_setCountdown, hkeys]
  show _ ↔ (s.entry r').holds h' g' = true
  constructor
  · rintro (heq | hk)
    · cases heq; exact hold
    · exact hk
  · exact .inr

/-! ## What changes one entry -/

/-- An operation on one entry: the other entries stand, and the countdowns follow. -/
structure AtEntry (r : Resource) (s t : State) : Prop where
  other : ∀ r', r' ≠ r → t.entry r' = s.entry r'
  members : t.table.members = s.table.members
  bank : t.table.bank = s.table.bank
  countdowns : CountdownLaw s → CountdownLaw t

theorem AtEntry.trans {r : Resource} {s t u : State} (h : AtEntry r s t) (h' : AtEntry r t u) : AtEntry r s u where
  other r' hr := (h'.other r' hr).trans (h.other r' hr)
  members := h'.members.trans h.members
  bank := h'.bank.trans h.bank
  countdowns := h'.countdowns ∘ h.countdowns

theorem entry_of_table {s t : State} (h : t.table = s.table) (r : Resource) : t.entry r = s.entry r := by
  rw [State.entry, h]
  rfl

/-- The entry that a table with one entry replaced shows. -/
theorem entry_of_setEntry {s t : State} {r : Resource} {e : Entry} (h : t.table = (s.setEntry r e).table) (r' : Resource) :
    t.entry r' = if r' = r then e else s.entry r' := (entry_of_table h r').trans (State.entry_setEntry ..)

section
variable (s : State) (r : Resource)

theorem dropHold_table (h : Station) (g : Grant) (b : Bool) :
    (s.dropHold r h g b).table = (s.setEntry r ((s.entry r).removeHold h g)).table := by
  unfold State.dropHold
  dsimp only
  split <;> simp

theorem dropHold_countdowns (h : Station) (g : Grant) (b : Bool) :
    (s.dropHold r h g b).timer.countdowns = (s.discardCountdown r h g).timer.countdowns := by
  unfold State.dropHold
  dsimp only
  split
  · rw [(State.onHoldRemoved_frame _ _ _ _).2.2.1]
    rfl
  · rfl

theorem dropHold_atEntry (h : Station) (g : Grant) (b : Bool) : AtEntry r s (s.dropHold r h g b) := by
  have hentry := entry_of_setEntry (dropHold_table s r h g b)
  refine ⟨fun r' hr => by rw [hentry, if_neg hr], by simp, by simp, fun hs => ?_⟩
  · have hkeys : (s.dropHold r h g b).timer.keys = s.timer.keys.filter fun k => decide (k ≠ (r, h, g)) := by
      rw [← keys_discardCountdown, TimerUnit.keys, dropHold_countdowns]
      rfl
    rw [countdownLaw_iff] at hs ⊢
    obtain ⟨hmem, hnodup⟩ := hs
    rw [hkeys]
    refine ⟨fun r' h' g' => ?_, hnodup.filter _⟩
    rw [List.mem_filter, hmem, hentry, decide_eq_true_iff]
    by_cases hr : r' = r
    · subst hr
      rw [if_pos rfl, Entry.holds_removeHold]
      simp [imp_iff_not_or]
    · rw [if_neg hr]
      exact ⟨fun hk => hk.1, fun hk => ⟨hk, fun heq => hr (congrArg Prod.fst heq)⟩⟩

theorem dropHold_sound {h : Station} {g : Grant} {b : Bool} (hs : (s.entry r).Sound) :
    ((s.dropHold r h g b).entry r).Sound := by
  rw [entry_of_setEntry (dropHold_table s r h g b), if_pos rfl]
  exact hs.removeHold h g

theorem dropWaiter_table (w : Station) :
    (s.dropWaiter r w).table = (s.setEntry r ((s.entry r).removeWaiter w)).table := by
  unfold State.dropWaiter
  dsimp only
  split <;> simp

theorem dropWaiter_atEntry (w : Station) : AtEntry r s (s.dropWaiter r w) := by
  have hentry := entry_of_setEntry (dropWaiter_table s r w)
  refine ⟨fun r' hr => by rw [hentry, if_neg hr], by simp, by simp, fun hs => ?_⟩
  · rw [countdownLaw_iff] at hs ⊢
    rw [show (s.dropWaiter r w).timer = s.timer by simp]
    refine ⟨fun r' h' g' => (hs.1 r' h' g').trans ?_, hs.2⟩
    rw [hentry]
    split
    next hr => rw [hr]; rfl
    next => rfl

theorem dropWaiter_sound {w : Station} (hs : (s.entry r).Sound) : ((s.dropWaiter r w).entry r).Sound := by
  rw [entry_of_setEntry (dropWaiter_table s r w), if_pos rfl]
  exact hs.removeWaiter w

/-! ### Grants -/

theorem holdGranted_countdowns (c : Bool) (h : Hold) :
    (s.holdGranted c r h).timer.countdowns = (s.loadCountdown r h.station h.grant).timer.countdowns := by
  unfold State.holdGranted
  split
  · rw [(State.onGranted_frame _ _ _ _ _).2.2.1]
  · rfl

theorem foldl_holdGranted_table (l : List Hold) (c : Bool) :
    (l.foldl (fun s h => s.holdGranted c r h) s).table = s.table :=
  foldl_keeps (R := fun s t => t.table = s.table) (fun _ => rfl) (fun h h' => h'.trans h) (fun s h => by simp) l s

/-- The countdowns after some holds of an entry have been granted. -/
theorem foldl_holdGranted_keys (l : List Hold) (c : Bool) (hs : s.timer.keys.Nodup) :
    (l.foldl (fun s h => s.holdGranted c r h) s).timer.keys.Nodup ∧
      ∀ k, k ∈ (l.foldl (fun s h => s.holdGranted c r h) s).timer.keys ↔
        k ∈ s.timer.keys ∨ ∃ h ∈ l, k = (r, h.station, h.grant) := by
  induction l generalizing s with
  | nil => exact ⟨hs, fun k => by simp⟩
  | cons h l ih =>
    have hkeys : (s.holdGranted c r h).timer.keys = (s.loadCountdown r h.station h.grant).timer.keys := by
      rw [TimerUnit.keys, holdGranted_countdowns]
      rfl
    obtain ⟨hnodup, hmem⟩ := ih (s.holdGranted c r h) (by rw [hkeys]; exact nodup_setCountdown hs _ _ _ _)
    refine ⟨hnodup, fun k => ?_⟩
    obtain ⟨r', h', g'⟩ := k
    rw [List.foldl_cons, hmem, hkeys, State.loadCountdown, mem_keys_setCountdown]
    simp only [List.mem_cons, exists_eq_or_imp]
    rw [or_comm (a := (r', h', g') = _), or_assoc]

theorem promoteAt_table : (s.promoteAt r).table = (s.setEntry r (s.entry r).promote).table := foldl_holdGranted_table ..

/-- The holders of an entry stay at promotion, and others come behind them (R12). -/
theorem Entry.promoteOver_holders (e : Entry) (ws : List Waiter) : e.holders <+: (e.promoteOver ws).holders := by
  induction ws generalizing e with
  | nil => exact List.prefix_refl _
  | cons w ws ih =>
    rw [Entry.promoteOver_cons]
    split
    · exact (List.prefix_append _ _).trans (ih (e.grant w.station w.mode))
    · exact List.prefix_refl _

theorem promoteAt_atEntry : AtEntry r s (s.promoteAt r) := by
  have hentry := entry_of_setEntry (promoteAt_table s r)
  refine ⟨fun r' hr => by rw [hentry, if_neg hr], by simp, by simp, fun hs => ?_⟩
  · rw [countdownLaw_iff] at hs ⊢
    obtain ⟨hmem, hnodup⟩ := hs
    obtain ⟨hnodup', hmem'⟩ := foldl_holdGranted_keys (s.setEntry r (s.entry r).promote) r
      ((s.entry r).promote.holders.drop (s.entry r).holders.length) false hnodup
    refine ⟨fun r' h' g' => (hmem' (r', h', g')).trans ?_, hnodup'⟩
    obtain ⟨new, hnew⟩ := (s.entry r).promoteOver_holders (s.entry r).waiters
    have hdrop : (s.entry r).promote.holders.drop (s.entry r).holders.length = new := by
      rw [Entry.promote, ← hnew, List.drop_left]
    rw [hdrop, hentry]
    show (r', h', g') ∈ s.timer.keys ∨ _ ↔ _
    rw [hmem]
    by_cases hr : r' = r
    · subst hr
      rw [if_pos rfl, Entry.holds_iff, Entry.holds_iff, Entry.promote, ← hnew]
      simp only [List.mem_append, or_and_right, exists_or, Prod.mk.injEq, true_and]
      refine or_congr_right (exists_congr fun h => and_congr_right fun _ => ?_)
      exact ⟨fun ⟨h1, h2⟩ => ⟨h1.symm, h2.symm⟩, fun ⟨h1, h2⟩ => ⟨h1.symm, h2.symm⟩⟩
    · rw [if_neg hr]
      refine ⟨fun hk => hk.elim id ?_, .inl⟩
      rintro ⟨h, -, heq⟩
      exact absurd (congrArg Prod.fst heq) hr

theorem promoteAt_lawful (h : (s.entry r).Sound) : ((s.promoteAt r).entry r).lawful = true := by
  rw [entry_of_setEntry (promoteAt_table s r), if_pos rfl]
  exact h.promote_lawful

end

/-! ## What the laws of the tables become -/

/-- The laws of the tables that an operation keeps, where P holds of what it takes in. -/
structure TableKeeps (P : Prop) (s t : State) : Prop where
  table : P → TableLaw s → TableLaw t
  unused : UnusedLaw s → UnusedLaw t
  countdowns : P → TableLaw s → CountdownLaw s → CountdownLaw t

theorem TableKeeps.refl (P : Prop) (s : State) : TableKeeps P s s := ⟨fun _ => id, id, fun _ _ => id⟩

theorem TableKeeps.trans {P : Prop} {s t u : State} (h : TableKeeps P s t) (h' : TableKeeps P t u) :
    TableKeeps P s u where
  table p hs := h'.table p (h.table p hs)
  unused := h'.unused ∘ h.unused
  countdowns p hs hc := h'.countdowns p (h.table p hs) (h.countdowns p hs hc)

theorem frameLawful_of_queued {f : QFrame} (h : f.isQueued = true) : frameLawful f = true := by
  cases hp : f.phase with
  | queued => rw [frameLawful, hp]
  | onLine c => rw [QFrame.isQueued, hp] at h; cases h

/-- The frames of a queue are lawful when those on the line are. -/
theorem frames_lawful_iff (q : SendQueue) : (∀ f ∈ q.frames, frameLawful f = true) ↔ ∀ f ∈ q.onLine, frameLawful f = true := by
  unfold SendQueue.onLine
  simp only [List.mem_filter, Bool.not_eq_true', and_imp]
  refine forall₂_congr fun f _ => ⟨fun h _ => h, fun h => ?_⟩
  cases hf : f.isQueued
  · exact h hf
  · exact frameLawful_of_queued hf

/-- What leaves the line and the frame on it. -/
theorem TableKeeps.of_tables {P : Prop} {s t : State} (hline : t.line.inbound = s.line.inbound)
    (hon : t.sendq.onLine = s.sendq.onLine)
    (htable : P → TableLaw s → (∀ r, (t.entry r).lawful = true) ∧ membersLawful t.table.members = true)
    (hunused : UnusedLaw s → UnusedLaw t) (hcountdowns : P → TableLaw s → CountdownLaw s → CountdownLaw t) :
    TableKeeps P s t := by
  refine ⟨fun p hs => ?_, hunused, hcountdowns⟩
  obtain ⟨hentries, hmembers⟩ := htable p hs
  obtain ⟨-, -, hinbound, hframes⟩ := hs
  refine ⟨hentries, hmembers, by rwa [hline], ?_⟩
  rw [frames_lawful_iff] at hframes ⊢
  rwa [hon]

theorem count_of_bank {s t : State} (h : t.table.bank = s.table.bank) : t.count = s.count := by
  unfold State.count
  rw [h]

/-- The tables and the keys of the countdowns stand. -/
theorem TableKeeps.of_same {P : Prop} {s t : State} (hline : t.line.inbound = s.line.inbound)
    (hon : t.sendq.onLine = s.sendq.onLine) (he : t.table.entries = s.table.entries)
    (hm : t.table.members = s.table.members) (hb : t.table.bank = s.table.bank) (hk : t.timer.keys = s.timer.keys) :
    TableKeeps P s t := by
  have hentry (r : Resource) : t.entry r = s.entry r := by unfold State.entry; rw [he]
  refine .of_tables hline hon (fun _ hs => ⟨fun r => by rw [hentry]; exact hs.1 r, by rw [hm]; exact hs.2.1⟩)
    (fun hs r hr => ?_) fun _ _ => countdownLaw_congr he hk
  rw [hentry]
  exact hs r (by rwa [← count_of_bank hb])

/-- One entry in use has changed, and is lawful again. -/
theorem TableKeeps.of_atEntry {P : Prop} {r : Resource} {s t : State} (h : AtEntry r s t) (hinner : Inner s t)
    (hr : r.val < s.count) (hlawful : P → TableLaw s → (t.entry r).lawful = true) : TableKeeps P s t := by
  refine .of_tables (by rw [hinner.line]) hinner.onLine (fun p hs => ⟨fun r' => ?_, by rw [h.members]; exact hs.2.1⟩)
    (fun hs r' hr' => ?_) fun _ _ => h.countdowns
  · by_cases hrr : r' = r
    · rw [hrr]; exact hlawful p hs
    · rw [h.other r' hrr]; exact hs.1 r'
  · rw [count_of_bank h.bank] at hr'
    have hrr : r' ≠ r := fun heq => by rw [heq] at hr'; omega
    rw [h.other r' hrr]
    exact hs r' hr'

/-- Everything is clear. -/
theorem TableKeeps.of_clear {P : Prop} {s t : State} (ht : t.table = TableUnit.clear) (hc : t.timer.countdowns = [])
    (hin : t.line.inbound = []) (hq : t.sendq.frames = []) : TableKeeps P s t := by
  obtain ⟨hentries, hmembers, hunused, hcountdowns⟩ := laws_of_clear ht hc
  exact ⟨fun _ _ => ⟨hentries, hmembers, by rw [hin]; exact List.forall_mem_nil _, by rw [hq]; exact List.forall_mem_nil _⟩, fun _ => hunused,
    fun _ _ _ => hcountdowns⟩

end Sys2Proof.Machine

/-! PROOFS. What the applications do to the laws of the tables and of the countdowns (R13 to R47, R51, R52, R74, R76). -/

namespace Sys2Proof.Machine

open Sys2Proof.Safety

/-! ## Operations that leave the tables or change one entry -/

section
variable {P : Prop} {s t : State}

theorem TableKeeps.of_core (h : Core s t) (he : t.table.entries = s.table.entries)
    (hm : t.table.members = s.table.members) (hb : t.table.bank = s.table.bank)
    (hc : t.timer.countdowns = s.timer.countdowns) : TableKeeps P s t :=
  .of_same (by rw [h.line]) h.onLine he hm hb (by rw [TimerUnit.keys, hc]; rfl)

theorem TableKeeps.of_inner (h : Inner s t) (he : t.table.entries = s.table.entries)
    (hm : t.table.members = s.table.members) (hb : t.table.bank = s.table.bank)
    (hc : t.timer.countdowns = s.timer.countdowns) : TableKeeps P s t := .of_core h.core he hm hb hc

/-- The membership records change, and stay lawful. -/
theorem TableKeeps.of_members (h : Core s t) (he : t.table.entries = s.table.entries)
    (hm : P → membersLawful s.table.members = true → membersLawful t.table.members = true)
    (hb : t.table.bank = s.table.bank) (hc : t.timer.countdowns = s.timer.countdowns) : TableKeeps P s t := by
  have hentry (r : Resource) : t.entry r = s.entry r := by unfold State.entry; rw [he]
  refine .of_tables (by rw [h.line]) h.onLine (fun p hs => ⟨fun r => by rw [hentry]; exact hs.1 r, hm p hs.2.1⟩)
    (fun hs r hr => ?_) fun _ _ => countdownLaw_congr he (by rw [TimerUnit.keys, hc]; rfl)
  rw [hentry]
  exact hs r (by rwa [← count_of_bank hb])

theorem TableKeeps.foldl {α : Type} {f : State → α → State} (l : List α) (s : State)
    (h : ∀ s a, TableKeeps P s (f s a)) : TableKeeps P s (l.foldl f s) :=
  foldl_keeps (TableKeeps.refl P) TableKeeps.trans h l s

end

theorem membersLawful_set {ms : Vector MemberRecord 16} (h : membersLawful ms = true) {p : Station} {m : MemberRecord}
    (hm : m.lawful p = true) : membersLawful (ms.set p m) = true := by
  rw [membersLawful_iff] at h ⊢
  intro q
  show ((ms.set p m)[q.val]).lawful q = true
  rw [Vector.getElem_set]
  split
  next hpq => rwa [← Fin.ext hpq]
  next => exact h q

section
variable {P : Prop} (s : State)

theorem setMember_tables (p : Station) {m : MemberRecord} (hm : m.lawful p = true) :
    TableKeeps P s (s.setMember p m) :=
  .of_members (s.setMember_inner p m).core rfl (fun _ h => membersLawful_set h hm) rfl rfl

theorem reportPeer_tables (k : ReportKind) (hk : k ≠ .cut) (p : Station) (d : BitVec 4) :
    TableKeeps P s (s.reportPeer k p d) := .of_inner (s.reportPeer_inner hk p d) (by simp) (by simp) (by simp) (by simp)

/-! ### Removal, promotion and purge (R10 to R12, R17 to R21) -/

theorem val_lt_of_takesEffects {r : Resource} (h : s.takesEffects r = true) : r.val < s.count :=
  of_decide_eq_true (Bool.and_eq_true_iff.mp h).1

theorem takesEffects_of_targetOf {b : Byte} {r : Resource} (h : s.targetOf b = some r) : s.takesEffects r = true := by
  unfold State.targetOf at h
  split at h
  · split at h
    next ht => cases h; exact ht
    next => cases h
  · cases h

theorem sound_of_tableLaw {r : Resource} (h : TableLaw s) : (s.entry r).Sound := ((Entry.lawful_iff _).mp (h.1 r)).1

theorem dropHold_promoteAt_tables {r : Resource} (hr : r.val < s.count) (h : Station) (g : Grant) (b : Bool) :
    TableKeeps P s ((s.dropHold r h g b).promoteAt r) :=
  .of_atEntry ((dropHold_atEntry s r h g b).trans (promoteAt_atEntry _ r))
    ((s.dropHold_inner r h g b).trans (State.promoteAt_inner _ r)) hr fun _ hs =>
    promoteAt_lawful _ r (dropHold_sound s r (sound_of_tableLaw s hs))

theorem dropWaiter_promoteAt_tables {r : Resource} (hr : r.val < s.count) (w : Station) :
    TableKeeps P s ((s.dropWaiter r w).promoteAt r) :=
  .of_atEntry ((dropWaiter_atEntry s r w).trans (promoteAt_atEntry _ r))
    ((s.dropWaiter_inner r w).trans (State.promoteAt_inner _ r)) hr fun _ hs =>
    promoteAt_lawful _ r (dropWaiter_sound s r (sound_of_tableLaw s hs))

theorem purgeAt_tables (p : Station) (r : Resource) : TableKeeps P s (s.purgeAt p r) := by
  unfold State.purgeAt
  split
  · exact .refl P s
  next htakes =>
    have hr : r.val < s.count := val_lt_of_takesEffects s (by simpa using htakes)
    split
    · exact .refl P s
    · exact dropHold_promoteAt_tables s hr _ _ _
    · exact dropWaiter_promoteAt_tables s hr _
    next h _ _ =>
      refine .of_atEntry (((dropHold_atEntry s r p h.grant false).trans (dropWaiter_atEntry _ r p)).trans
        (promoteAt_atEntry _ r)) (((s.dropHold_inner r p h.grant false).trans (State.dropWaiter_inner _ r p)).trans
        (State.promoteAt_inner _ r)) hr fun _ hs => promoteAt_lawful _ r ?_
      exact dropWaiter_sound _ r (dropHold_sound s r (sound_of_tableLaw s hs))

theorem purge_tables (p : Station) : TableKeeps P s (s.purge p) := .foldl _ s fun s r => purgeAt_tables s p r

theorem holdEffects_tables (b : Byte) (h : Station) (g : Grant) (t : Bool) :
    TableKeeps P s (s.holdEffects b h g t) := by
  unfold State.holdEffects
  split
  next r hr =>
    split
    · exact dropHold_promoteAt_tables s (val_lt_of_takesEffects s (takesEffects_of_targetOf s hr)) _ _ _
    · exact .refl P s
  next => exact .refl P s

theorem lapseEffects_tables (u : Station) (b h : Byte) (g : Grant) : TableKeeps P s (s.lapseEffects u b h g) := by
  unfold State.lapseEffects
  split
  · exact holdEffects_tables s ..
  · exact .refl P s

theorem withdrawEffects_tables (u : Station) (b : Byte) : TableKeeps P s (s.withdrawEffects u b) := by
  unfold State.withdrawEffects
  split
  next r hr =>
    split
    · exact dropWaiter_promoteAt_tables s (val_lt_of_takesEffects s (takesEffects_of_targetOf s hr)) _
    · exact .refl P s
  next => exact .refl P s

/-! ### CLAIM and RENEW (R13 to R16, R20) -/

theorem claimStale_tables (u : Station) (b : Byte) : TableKeeps P s (s.claimStale u b) :=
  .of_inner (s.claimStale_inner u b) (by simp) (by simp) (by simp) (by simp)

theorem claimGranted_atEntry (r : Resource) (u : Station) (m : Mode) :
    AtEntry r s ((s.setEntry r ((s.entry r).grant u m)).holdGranted true r
      { station := u, mode := m, grant := (s.entry r).nextGrant }) := by
  have hentry (r' : Resource) : ((s.setEntry r ((s.entry r).grant u m)).holdGranted true r
      { station := u, mode := m, grant := (s.entry r).nextGrant }).entry r' =
        if r' = r then (s.entry r).grant u m else s.entry r' :=
    entry_of_setEntry (by simp) r'
  refine ⟨fun r' hr => by rw [hentry, if_neg hr], by simp, by simp, fun hs => ?_⟩
  rw [countdownLaw_iff] at hs ⊢
  obtain ⟨hmem, hnodup⟩ := hs
  obtain ⟨hnodup', hmem'⟩ := foldl_holdGranted_keys (s.setEntry r ((s.entry r).grant u m)) r
    [{ station := u, mode := m, grant := (s.entry r).nextGrant }] true hnodup
  refine ⟨fun r' h' g' => (hmem' (r', h', g')).trans ?_, hnodup'⟩
  rw [hentry]
  show (r', h', g') ∈ s.timer.keys ∨ _ ↔ _
  rw [hmem]
  by_cases hr : r' = r
  · subst hr
    rw [if_pos rfl, Entry.holds_iff, Entry.holds_iff, Entry.grant_holders]
    simp only [List.mem_append, List.mem_singleton, or_and_right, exists_or, exists_eq_left, Prod.mk.injEq, true_and]
    exact or_congr_right (and_congr eq_comm eq_comm)
  · rw [if_neg hr]
    simp [hr]

theorem claimDecided_tables {u : Station} {r : Resource} {m : Mode} {p : Policy} (hr : r.val < s.count)
    (hu : u ∉ (s.entry r).stations) : TableKeeps P s (s.claimDecided u r m p) := by
  have hinner := s.claimDecided_inner u r m p
  unfold State.claimDecided at hinner ⊢
  split at hinner
  next hg =>
    rw [if_pos hg]
    refine .of_atEntry (claimGranted_atEntry s r u m) hinner hr fun _ hs => ?_
    rw [entry_of_setEntry (s := s) (r := r) (e := (s.entry r).grant u m) (by simp), if_pos rfl]
    exact Entry.grant_lawful (hs.1 r) hg hu
  next hg =>
    rw [if_neg hg]
    cases p with
    | wait =>
      dsimp only at hinner ⊢
      have htable : (if u = s.self then
          (s.setEntry r { s.entry r with waiters := (s.entry r).waiters ++ [{ station := u, mode := m }] }).onQueued r
          else s.setEntry r { s.entry r with waiters := (s.entry r).waiters ++ [{ station := u, mode := m }] }).table =
          (s.setEntry r { s.entry r with waiters := (s.entry r).waiters ++ [{ station := u, mode := m }] }).table := by
        split <;> simp
      have htimer : (if u = s.self then
          (s.setEntry r { s.entry r with waiters := (s.entry r).waiters ++ [{ station := u, mode := m }] }).onQueued r
          else s.setEntry r { s.entry r with waiters := (s.entry r).waiters ++ [{ station := u, mode := m }] }).timer =
          s.timer := by
        split <;> simp
      have hentry := entry_of_setEntry htable
      refine .of_atEntry ⟨fun r' hrr => by rw [hentry, if_neg hrr], by rw [htable]; rfl, by rw [htable]; rfl,
        fun hs => ?_⟩ hinner hr fun _ hs => ?_
      · rw [countdownLaw_iff] at hs ⊢
        rw [htimer]
        refine ⟨fun r' h' g' => (hs.1 r' h' g').trans ?_, hs.2⟩
        rw [hentry]
        split
        next hrr => rw [hrr]; rfl
        next => rfl
      · rw [hentry, if_pos rfl]
        exact Entry.wait_lawful (hs.1 r) (Bool.eq_false_iff.mpr hg) hu
    | tryOnce =>
      dsimp only at hinner ⊢
      split
      · exact .of_inner (s.onRefused_inner r 0) (by simp) (by simp) (by simp) (by simp)
      · exact .refl P s

theorem claimEffects_tables (u : Station) (b : Byte) (m p : BitVec 4) : TableKeeps P s (s.claimEffects u b m p) := by
  unfold State.claimEffects
  split
  next r m p hr _ _ =>
    split
    next hok =>
      simp only [Bool.and_eq_true, Bool.not_eq_true'] at hok
      obtain ⟨⟨⟨-, hholder⟩, hwaiter⟩, -⟩ := hok
      exact claimDecided_tables s (val_lt_of_takesEffects s (takesEffects_of_targetOf s hr))
        (Entry.not_mem_stations hholder hwaiter)
    next => exact claimStale_tables s u b
  next => exact claimStale_tables s u b

theorem renewItem_tables (u : Station) (x : Byte × Grant) : TableKeeps P s (s.renewItem u x) := by
  have hinner := s.renewItem_inner u x
  unfold State.renewItem at hinner ⊢
  split
  next r hr =>
    rw [hr] at hinner
    dsimp only at hinner
    split
    next hold =>
      rw [if_pos hold] at hinner
      have htable : (if u = s.self then (s.loadCountdown r u x.2).onRenewed r x.2 else s.loadCountdown r u x.2).table =
          s.table := by split <;> simp
      have htimer : (if u = s.self then (s.loadCountdown r u x.2).onRenewed r x.2 else s.loadCountdown r u x.2).timer =
          (s.loadCountdown r u x.2).timer := by split <;> simp
      refine .of_tables (by rw [hinner.line]) hinner.onLine
        (fun _ hs => ⟨fun r' => by rw [entry_of_table htable]; exact hs.1 r', by rw [htable]; exact hs.2.1⟩)
        (fun hs r' hr' => ?_) fun _ _ hs => ?_
      · rw [entry_of_table htable]
        have hcount := count_of_bank (congrArg TableUnit.bank htable)
        exact hs r' (hcount ▸ hr')
      · exact countdownLaw_congr (s := s.loadCountdown r u x.2) (by rw [htable]; rfl) (by rw [htimer])
          (countdownLaw_setCountdown hs hold _)
    next => exact .refl P s
  next => exact .refl P s

/-! ### The provisional view (R41) -/

theorem chooseSource_lawful {ms : Vector MemberRecord 16} {p : Station} (a : Fin 4) :
    chooseSource ms p a ≠ some p := fun h => (chooseSource_mem h).1 rfl

theorem viewGained_tables : TableKeeps P s s.viewGained := by
  have hinner : Inner s s.viewGained := .of_same (by simp [SameBlocks])
  refine .of_members hinner.core (by simp) (fun _ h => ?_) (by simp) (by simp)
  unfold State.viewGained
  split
  next t ht =>
    dsimp only
    have hown := (membersLawful_iff _).mp h s.self
    have hlawful : (MemberRecord.joining (some { t with
        source := chooseSource s.table.members s.self t.attempt })).lawful s.self = true := by
      have hrec : s.table.members[s.self] = .joining (some t) := ht
      rw [hrec] at hown
      have hattempt := (Bool.and_eq_true_iff.mp hown).1
      exact Bool.and_eq_true_iff.mpr ⟨hattempt, decide_eq_true (chooseSource_lawful _)⟩
    split <;> exact membersLawful_set h hlawful
  next => exact h

theorem evidence_tables (n : Notice) : TableKeeps P s (s.evidence n) := by
  unfold State.evidence
  split
  · exact .refl P s
  · split
    · split
      · exact setMember_tables s n.sender (by rfl)
      · exact .refl P s
    · split
      · exact (setMember_tables s n.sender (by rfl)).trans (viewGained_tables _)
      · exact .refl P s

/-! ### JOIN and SYNC (R34 to R37) -/

theorem attemptOf_le {b : Byte} {a : Fin 4} (h : attemptOf b = some a) : a.val ≤ Config.lastAttempt := by
  unfold attemptOf at h
  split at h
  · cases h; decide
  · split at h
    · cases h; decide
    · split at h <;> cases h
      decide

theorem takeTransfer_tables (p : Station) (a : Fin 4) (source : Option Station) (hp : source ≠ some p) :
    TableKeeps P s (s.takeTransfer p a source) :=
  .of_inner (s.takeTransfer_inner p a source hp) (by simp) (by simp) (by simp) (by simp)

theorem ownJoinApplied_tables (a : Fin 4) (source : Option Station) : TableKeeps P s (s.ownJoinApplied a source) := by
  unfold State.ownJoinApplied
  split
  · dsimp only
    have hfirst : Inner s (s.withTable { s.table with imagePending := some (ImagePending.fresh a) }) :=
      .of_same (by simp [SameBlocks])
    split
    · exact .of_inner (hfirst.trans (State.startImageWait_inner _)) rfl rfl rfl rfl
    · exact .of_inner (hfirst.trans (State.startJoinWait_inner _)) rfl rfl rfl rfl
  · exact .refl P s

/-- The record of a station whose JOIN or SYNC is taken. -/
theorem transfer_lawful {b : Byte} {a : Fin 4} (ha : attemptOf b = some a) (ms : Vector MemberRecord 16) (p : Station) :
    (MemberRecord.joining (some { attempt := a, source := chooseSource ms p a })).lawful p = true ∧
      (MemberRecord.member (if (chooseSource ms p a).isSome then some { attempt := a, source := chooseSource ms p a }
        else none)).lawful p = true := by
  have hattempt := decide_eq_true (attemptOf_le ha)
  have hsource := decide_eq_true (chooseSource_lawful (ms := ms) (p := p) a)
  refine ⟨Bool.and_eq_true_iff.mpr ⟨hattempt, hsource⟩, ?_⟩
  split
  next hsome => exact Bool.and_eq_true_iff.mpr ⟨Bool.and_eq_true_iff.mpr ⟨hattempt, hsome⟩, hsource⟩
  next => rfl

theorem joinEffects_tables (u : Station) (b : Byte) (p : Params) : TableKeeps P s (s.joinEffects u b p) := by
  unfold State.joinEffects
  split
  next a ha _ =>
    dsimp only
    refine TableKeeps.trans (t := if (s.recordOfStation u).isMember then
        (if u = s.self then s else s.reportPeer .peerGone u 2).purge u else s) ?_ ?_
    · split
      · refine TableKeeps.trans ?_ (purge_tables _ u)
        split
        · exact .refl P s
        · exact reportPeer_tables s _ (by nofun) _ _
      · exact .refl P s
    · generalize (if (s.recordOfStation u).isMember then _ else s) = s1
      have hlawful := (transfer_lawful ha s1.table.members u).1
      have hsource : chooseSource s1.table.members u a ≠ some u := chooseSource_lawful a
      generalize chooseSource s1.table.members u a = source at hlawful hsource
      have hset := setMember_tables (P := P) s1 u hlawful
      split
      · exact (hset.trans (ownJoinApplied_tables _ a source)).trans (takeTransfer_tables _ u a _ hsource)
      · exact hset.trans (takeTransfer_tables _ u a _ hsource)
  next => exact .refl P s

theorem exhaust_tables : TableKeeps P s s.exhaust := by
  refine .of_core (exhaust_core s) ?_ ?_ ?_ ?_ <;> unfold State.exhaust <;> split <;> rfl

theorem settleAll_tables : TableKeeps P s (s.stack.foldl State.settleRecord s) := by
  obtain ⟨-, htable, htimer⟩ := settleAll_frame s
  exact .of_core (settleAll_core s) (by rw [htable]) (by rw [htable]) (by rw [htable]) (by rw [htimer])

theorem reconcile_tables : TableKeeps P s s.reconcile := by
  obtain h | ⟨-, htable, htimer, hcore⟩ := reconcile_cases s
  · rw [h]
    exact (settleAll_tables s).trans (exhaust_tables _)
  · exact .of_core hcore (by rw [htable]) (by rw [htable]) (by rw [htable]) htimer

theorem ownSyncApplied_tables (a : Fin 4) (source : Option Station) : TableKeeps P s (s.ownSyncApplied a source) := by
  unfold State.ownSyncApplied
  split
  · split
    · have hfirst : Inner s (s.withTable { s.table with imagePending := some (ImagePending.fresh a) }) :=
        .of_same (by simp [SameBlocks])
      exact .of_inner (hfirst.trans (State.startImageWait_inner _)) rfl rfl rfl rfl
    · exact reconcile_tables s
  · exact .refl P s

theorem syncEffects_tables (u : Station) (b : Byte) : TableKeeps P s (s.syncEffects u b) := by
  unfold State.syncEffects
  split
  next a ha =>
    split
    · dsimp only
      have hlawful := (transfer_lawful ha s.table.members u).2
      have hsource : chooseSource s.table.members u a ≠ some u := chooseSource_lawful a
      generalize chooseSource s.table.members u a = source at hlawful hsource
      have hset := setMember_tables (P := P) s u hlawful
      split
      · exact (hset.trans (ownSyncApplied_tables _ a source)).trans (takeTransfer_tables _ u a _ hsource)
      · exact hset.trans (takeTransfer_tables _ u a _ hsource)
    · exact .refl P s
  next => exact .refl P s

/-! ### FOUND, LEAVE and EVICT (R38, R44, R45) -/

theorem becomeMember_tables (f : Bool) : TableKeeps P s (s.becomeMember f) :=
  .of_core (becomeMember_core s f) (by simp [State.becomeMember]) (by simp [State.becomeMember])
    (by simp [State.becomeMember]) (by simp [State.becomeMember])

theorem reportJoined_tables (s0 : State) : TableKeeps P s (State.reportJoined s0 s) :=
  .foldl _ s fun s p => by
    split
    · exact reportPeer_tables s _ (by nofun) p 0
    · exact .refl P s

theorem foundedMembers_lawful {ms : Vector MemberRecord 16} (h : membersLawful ms = true) :
    membersLawful (foundedMembers ms) = true := by
  rw [membersLawful_iff] at h ⊢
  intro p
  have hp : (foundedMembers ms)[p] = if ms[p].isJoining then .member none else ms[p] := by simp [foundedMembers]
  rw [hp]
  split
  · rfl
  · exact h p

theorem foundEffects_tables (u : Station) (p : Params) : TableKeeps P s (s.foundEffects u p) := by
  unfold State.foundEffects
  split
  · exact .refl P s
  · dsimp only
    have hfirst : TableKeeps P s ((s.withTable { s.table with
        entries := Vector.replicate 16 Entry.clear, members := foundedMembers s.table.members, bank := some p }).withTimer
        { s.timer with countdowns := [] }) := by
      have hentry (t : State) (ht : t.table.entries = Vector.replicate 16 Entry.clear) (r : Resource) :
          t.entry r = Entry.clear := by
        rw [State.entry, ht]
        exact Vector.getElem_replicate _
      refine .of_tables rfl rfl (fun _ hs => ⟨fun r => ?_, foundedMembers_lawful hs.2.1⟩) (fun _ r _ => hentry _ rfl r)
        fun _ _ _ => (countdownLaw_iff _).mpr ⟨fun r h g => ?_, List.nodup_nil⟩
      · rw [hentry _ rfl]; rfl
      · rw [hentry _ rfl]
        exact ⟨nofun, nofun⟩
    refine hfirst.trans ?_
    split
    · exact (becomeMember_tables _ true).trans (reportJoined_tables _ s)
    · exact reportJoined_tables _ s

theorem departure_tables (p : Station) (d : BitVec 4) : TableKeeps P s (s.departure p d) :=
  ((reportPeer_tables s _ (by nofun) p d).trans (setMember_tables _ p rfl)).trans (purge_tables _ p)

theorem toReady_tables (d : BitVec 4) : TableKeeps P s ((s.clearToReady).evalGates d) :=
  .of_clear (by simp [State.clearToReady]) (by simp [State.clearToReady, TimerUnit.clear])
    (by simp [State.clearToReady, LineUnit.release]) (by simp [State.clearToReady, SendQueue.clear])

theorem raise_tables (r : Report) (hr : r.kind = .cut → r.detail.toNat ≤ 3) : TableKeeps P s (s.raise r) :=
  .of_inner (s.raise_inner r hr) (by simp) (by simp) (by simp) (by simp)

/-- After a teardown everything is clear, whatever the records were. -/
theorem cleared_tables (t : State) (d : BitVec 4) (r : Report) :
    TableKeeps P s (((t.clearToReady).evalGates d).raise r) :=
  .of_clear (by simp [State.clearToReady]) (by simp [State.clearToReady, TimerUnit.clear])
    (by simp [State.clearToReady, LineUnit.release]) (by simp [State.clearToReady, SendQueue.clear])

theorem leaveEffects_tables (u : Station) : TableKeeps P s (s.leaveEffects u) := by
  unfold State.leaveEffects
  split
  · exact .refl P s
  · split
    · exact cleared_tables s _ _ _
    · exact departure_tables s u 0

theorem evictEffects_tables (u : Station) (b : Byte) : TableKeeps P s (s.evictEffects u b) := by
  unfold State.evictEffects
  split
  · split
    · exact .refl P s
    · split
      · exact cleared_tables s _ _ _
      · exact departure_tables s _ 1
  · exact .refl P s

/-! ### IMAGE and PRESENCE (R42, R43, R52, R74, R76, R78) -/

theorem enterResync_tables (c : BitVec 4) : TableKeeps P s (s.enterResync c) :=
  .of_core (enterResync_core s c) (by simp [State.enterResync]) (by simp [State.enterResync])
    (by simp [State.enterResync]) (by simp [State.enterResync])

theorem presenceEffects_tables (u : Station) (v : Bool) (d : BitVec 16) :
    TableKeeps P s (s.presenceEffects u v d) := by
  unfold State.presenceEffects
  split
  · exact enterResync_tables s 0
  · exact .refl P s

theorem updateImagePending_tables (f : ImagePending → ImagePending) : TableKeeps P s (s.updateImagePending f) :=
  .of_inner (s.updateImagePending_inner f) rfl rfl rfl rfl

theorem startImageWait_tables : TableKeeps P s s.startImageWait :=
  .of_inner s.startImageWait_inner (by simp) (by simp) (by simp) (by simp)

theorem stopWaits_tables : TableKeeps P s s.stopWaits :=
  .of_inner s.stopWaits_inner (by simp) (by simp) (by simp) (by simp)

/-- The membership part: entries at or above a lowered count are clear, and their countdowns go. -/
theorem installMembership_tables (ms : Vector MemberRecord 16) (p : Params) (hms : P → membersLawful ms = true) :
    TableKeeps P s (s.installMembership ms p) := by
  have hinner := s.installMembership_inner ms p
  have hentry (r : Resource) : (s.installMembership ms p).entry r =
      if decide (p.count.toNat < s.count) && decide (p.count.toNat ≤ r.val) then Entry.clear else s.entry r := by
    simp [State.installMembership, State.updateImagePending, State.entry]
  have hbank : (s.installMembership ms p).table.bank = some p := rfl
  refine .of_tables (by rw [hinner.line]) hinner.onLine (fun hp hs => ⟨fun r => ?_, hms hp⟩) (fun hs r hr => ?_)
    fun _ _ hs => ?_
  · rw [hentry]
    split
    · rfl
    · exact hs.1 r
  · rw [State.count, hbank] at hr
    rw [hentry]
    split
    · rfl
    next hnot =>
      refine hs r (Nat.le_of_not_lt fun hlt => hnot ?_)
      rw [Bool.and_eq_true, decide_eq_true_iff, decide_eq_true_iff]
      exact ⟨lt_of_le_of_lt hr hlt, hr⟩
  · rw [countdownLaw_iff] at hs ⊢
    obtain ⟨hmem, hnodup⟩ := hs
    have hkeys : (s.installMembership ms p).timer.keys =
        s.timer.keys.filter fun k => !(decide (p.count.toNat < s.count) && decide (p.count.toNat ≤ k.1.val)) := by
      unfold TimerUnit.keys
      rw [List.filter_map]
      rfl
    rw [hkeys]
    refine ⟨fun r h g => ?_, hnodup.filter _⟩
    rw [List.mem_filter, hmem, hentry]
    split
    next hc => rw [hc]; exact ⟨fun h => absurd h.2 (by decide), nofun⟩
    next hc => rw [Bool.eq_false_iff.mpr hc]; exact ⟨And.left, fun h => ⟨h, rfl⟩⟩

/-- An installed entry: each hold it carries has one countdown, the one it had or a new one (R52, R74). -/
theorem installEntry_tables {r : Resource} (e : Entry) (hr : r.val < s.count) (he : P → e.lawful = true) :
    TableKeeps P s (s.installEntry r e) := by
  have hinner := s.installEntry_inner r e
  have hentry : ∀ r', (s.installEntry r e).entry r' = if r' = r then e else s.entry r' := fun r' =>
    (show (s.installEntry r e).entry r' = (s.setEntry r e).entry r' from rfl).trans (State.entry_setEntry ..)
  refine .of_tables (by rw [hinner.line]) hinner.onLine (fun hp hs => ⟨fun r' => ?_, hs.2.1⟩) (fun hs r' hr' => ?_)
    fun hp _ hs => ?_
  · rw [hentry]
    split
    · exact he hp
    · exact hs.1 r'
  · have hne : r' ≠ r := fun heq => by
      rw [heq, show (s.installEntry r e).count = s.count from rfl] at hr'
      omega
    rw [hentry, if_neg hne]
    exact hs r' hr'
  · have hsound := ((Entry.lawful_iff e).mp (he hp)).1
    rw [countdownLaw_iff] at hs ⊢
    obtain ⟨hmem, hnodup⟩ := hs
    have hkeys : (s.installEntry r e).timer.keys =
        s.timer.keys.filter (fun k => decide (k.1 ≠ r) || (s.keepsCountdown r k.2.1 k.2.2 && e.holds k.2.1 k.2.2)) ++
          (e.holders.filter fun h => !s.keepsCountdown r h.station h.grant).map fun h => (r, h.station, h.grant) := by
      unfold TimerUnit.keys
      rw [List.filter_map]
      show List.map _ (_ ++ List.map _ _) = _
      rw [List.map_append, List.map_map]
      rfl
    have hkept {h : Station} {g : Grant} (hk : s.keepsCountdown r h g = true) : (r, h, g) ∈ s.timer.keys := by
      unfold State.keepsCountdown at hk
      exact (any_isOf_iff _ r h g).mp (Bool.and_eq_true_iff.mp hk).2
    rw [hkeys]
    refine ⟨fun r' h g => ?_, (hnodup.filter _).append ?_ ?_⟩
    · simp only [List.mem_append, List.mem_filter, List.mem_map, Bool.or_eq_true, Bool.and_eq_true, decide_eq_true_eq,
        Bool.not_eq_true', Prod.mk.injEq]
      rw [hentry]
      by_cases hrr : r' = r
      · subst hrr
        rw [if_pos rfl]
        constructor
        · rintro (⟨-, hne | ⟨-, hold⟩⟩ | ⟨x, ⟨hx, -⟩, -, rfl, rfl⟩)
          · exact absurd rfl hne
          · exact hold
          · exact (e.holds_iff _ _).mpr ⟨x, hx, rfl, rfl⟩
        · intro hold
          cases hk : s.keepsCountdown r' h g
          · obtain ⟨x, hx, rfl, rfl⟩ := (e.holds_iff _ _).mp hold
            exact .inr ⟨x, ⟨hx, hk⟩, rfl, rfl, rfl⟩
          · exact .inl ⟨hkept hk, .inr ⟨rfl, hold⟩⟩
      · rw [if_neg hrr, hmem]
        constructor
        · rintro (⟨hold, -⟩ | ⟨-, -, heq, -⟩)
          · exact hold
          · exact absurd heq.symm hrr
        · exact fun hold => .inl ⟨hold, .inl hrr⟩
    · refine (List.Nodup.of_map (·.station) ?_).filter _ |>.map_on ?_
      · exact hsound.holders_nodup
      · intro x hx y hy heq
        have hstation : x.station = y.station := congrArg (fun k : Resource × Station × Grant => k.2.1) heq
        exact List.inj_on_of_nodup_map hsound.holders_nodup (List.mem_of_mem_filter hx) (List.mem_of_mem_filter hy) hstation
    · intro k hk hk'
      obtain ⟨x, hx, rfl⟩ := List.mem_map.mp hk'
      have hnot := (List.mem_filter.mp hx).2
      have hkeep := (List.mem_filter.mp hk).2
      simp only [ne_eq, not_true_eq_false, decide_false, Bool.false_or, Bool.and_eq_true] at hkeep
      rw [hkeep.1] at hnot
      cases hnot

/-- The content of an image part keeps the laws of its table (R147). -/
def contentLawful (c : PartContent) : Prop := payloadLawful (.image 0 0 false c) = true

theorem installPart_tables (v : Station) (a : Fin 4) (last : Bool) (c : PartContent) (hc : P → contentLawful c) :
    TableKeeps P s (s.installPart v a last c) := by
  unfold State.installPart
  split
  · split
    · exact .refl P s
    · split
      · exact .refl P s
      · split
        · dsimp only
          split
          · exact installMembership_tables s _ _ hc
          · exact (installMembership_tables s _ _ hc).trans (startImageWait_tables _)
        · split
          · exact updateImagePending_tables s _
          · split
            next hr =>
              dsimp only
              split
              · exact installEntry_tables s _ hr hc
              · exact (installEntry_tables s _ hr hc).trans (startImageWait_tables _)
            next => exact .refl P s
  · exact .refl P s

theorem completeJoin_tables : TableKeeps P s s.completeJoin := by
  unfold State.completeJoin
  split
  · exact .refl P s
  · split
    · exact .refl P s
    · dsimp only
      have hmember := (setMember_tables (P := P) s s.self (m := .member none) rfl).trans (becomeMember_tables _ false)
      split
      · exact hmember.trans (enterResync_tables _ 1)
      · exact hmember

theorem completeResync_tables (a : Fin 4) : TableKeeps P s (s.completeResync a) := by
  unfold State.completeResync
  dsimp only
  have hfirst := (setMember_tables (P := P) s s.self (m := .member none) rfl).trans (stopWaits_tables _)
  split
  · exact hfirst
  · split
    · exact hfirst.trans (reconcile_tables _)
    · split
      · exact hfirst.trans (updateImagePending_tables _ _)
      · exact hfirst.trans (exhaust_tables _)

theorem lastEffects_tables (v : Station) (a : Fin 4) : TableKeeps P s (s.lastEffects v a) := by
  unfold State.lastEffects
  split
  · split
    · exact .refl P s
    · split
      · exact completeJoin_tables s
      · split
        · exact setMember_tables s v rfl
        · exact (setMember_tables s v rfl).trans (reportPeer_tables _ _ (by nofun) _ _)
  · split
    · exact .refl P s
    · split
      · exact completeResync_tables s a
      · exact setMember_tables s v rfl
  · exact .refl P s

theorem advanceTransfer_tables (u v : Station) (a : Fin 4) (last : Bool) (p : Part) :
    TableKeeps P s (s.advanceTransfer u v a last p) := by
  refine .of_inner (s.advanceTransfer_inner u v a last p) ?_ ?_ ?_ ?_ <;> unfold State.advanceTransfer <;> split <;> rfl

theorem imageEffects_tables (u v : Station) (a : Fin 4) (last : Bool) (c : PartContent) (hc : P → contentLawful c) :
    TableKeeps P s (s.imageEffects u v a last c) := by
  unfold State.imageEffects
  dsimp only
  split
  · exact ((installPart_tables s v a last c hc).trans (lastEffects_tables _ v a)).trans (advanceTransfer_tables _ ..)
  · exact (installPart_tables s v a last c hc).trans (advanceTransfer_tables _ ..)

end

/-! ## One application (R6) -/

section
variable {Q : Prop} {s : State}

theorem takeNotice_tables {n : Notice} {rest : List Notice} (h : s.line.inbound = n :: rest) :
    TableKeeps Q s (s.takeNotice n rest) := by
  refine ⟨fun _ ⟨hentries, hmembers, hinbound, hframes⟩ => ⟨hentries, hmembers, fun x hx => hinbound x ?_, hframes⟩, id,
    fun _ _ => id⟩
  rw [h]
  exact List.mem_cons_of_mem _ hx

theorem finish_tables (s0 : State) : TableKeeps Q s (State.finish s0 s) :=
  .of_inner (State.finish_inner s s0) (by simp) (by simp) (by simp) (by simp)

/-- An application keeps the laws of the tables when its effects do with a lawful notice. -/
theorem applyNotice_tables {n : Notice} {rest : List Notice} (h : s.line.inbound = n :: rest) {effects : State → State}
    (he : ∀ t : State, TableKeeps (payloadLawful n.body = true) t (effects t)) :
    TableKeeps Q s (s.applyNotice n rest effects) := by
  have hall : TableKeeps (payloadLawful n.body = true) s (s.applyNotice n rest effects) := by
    unfold State.applyNotice
    dsimp only
    split
    · exact (((takeNotice_tables h).trans (evidence_tables _ n)).trans (he _)).trans (finish_tables _)
    · exact takeNotice_tables h
  have hlawful (hs : TableLaw s) : payloadLawful n.body = true := hs.2.2.1 n (by rw [h]; simp)
  exact ⟨fun _ hs => hall.table (hlawful hs) hs, hall.unused, fun _ hs => hall.countdowns (hlawful hs) hs⟩

/-- The rows of the applications keep the laws of the tables. -/
theorem applications_tables (s : State) :
    TableKeeps Q s s.applyClaim ∧ TableKeeps Q s s.applyRelease ∧ TableKeeps Q s s.applyWithdraw ∧
      TableKeeps Q s s.applyLapse ∧ TableKeeps Q s s.applyRenew ∧ TableKeeps Q s s.applyJoin ∧
      TableKeeps Q s s.applySync ∧ TableKeeps Q s s.applyFound ∧ TableKeeps Q s s.applyLeave ∧
      TableKeeps Q s s.applyEvict ∧ TableKeeps Q s s.applyImage ∧ TableKeeps Q s s.applyPresence := by
  refine ⟨?_, ?_, ?_, ?_, ?_, ?_, ?_, ?_, ?_, ?_, ?_, ?_⟩
  · unfold State.applyClaim
    split
    next h => exact applyNotice_tables h fun t => claimEffects_tables t ..
    next => exact .refl Q s
  · unfold State.applyRelease
    split
    next h => exact applyNotice_tables h fun t => holdEffects_tables t ..
    next => exact .refl Q s
  · unfold State.applyWithdraw
    split
    next h => exact applyNotice_tables h fun t => withdrawEffects_tables t ..
    next => exact .refl Q s
  · unfold State.applyLapse
    split
    next h => exact applyNotice_tables h fun t => lapseEffects_tables t ..
    next => exact .refl Q s
  · unfold State.applyRenew
    split
    next h => exact applyNotice_tables h fun t => .foldl _ t fun t i => renewItem_tables t ..
    next => exact .refl Q s
  · unfold State.applyJoin
    split
    next h => exact applyNotice_tables h fun t => joinEffects_tables t ..
    next => exact .refl Q s
  · unfold State.applySync
    split
    next h => exact applyNotice_tables h fun t => syncEffects_tables t ..
    next => exact .refl Q s
  · unfold State.applyFound
    split
    next h => exact applyNotice_tables h fun t => foundEffects_tables t ..
    next => exact .refl Q s
  · unfold State.applyLeave
    split
    next h => exact applyNotice_tables h fun t => leaveEffects_tables t ..
    next => exact .refl Q s
  · unfold State.applyEvict
    split
    next h => exact applyNotice_tables h fun t => evictEffects_tables t ..
    next => exact .refl Q s
  · unfold State.applyImage
    split
    next u v a last c rest h =>
      exact applyNotice_tables h fun t => imageEffects_tables t u v a last c (by cases c <;> exact id)
    next => exact .refl Q s
  · unfold State.applyPresence
    split
    next h => exact applyNotice_tables h fun t => presenceEffects_tables t ..
    next => exact .refl Q s

end

end Sys2Proof.Machine

/-! PROOFS. What the other commands do to the laws of the tables and of the countdowns, and the steps that keep them
(R1 to R4, R8, R12, R25, R29, R33, R147). -/

namespace Sys2Proof.Machine

open Sys2Proof.Safety

/-! ## What a received frame carries (R147) -/

theorem readEntryBytes_lawful {bs : List Byte} {e : Entry} (h : readEntryBytes bs = some e) : e.lawful = true := by
  unfold readEntryBytes at h
  split at h
  · split at h
    · dsimp only at h
      split at h
      next hok => cases h; exact hok.2.2.2.2
      next => cases h
    · cases h
  · cases h

theorem readMembershipBytes_lawful {bs : List Byte} {mp : Vector MemberRecord 16 × Params}
    (h : readMembershipBytes bs = some mp) : membersLawful mp.1 = true := by
  unfold readMembershipBytes at h
  split at h
  · split at h
    · dsimp only at h
      split at h
      next hok => cases h; exact hok.2.2.2.2
      next => cases h
    · cases h
  · cases h

theorem readContent_lawful {k : Byte} {bs : List Byte} {c : PartContent} (h : readContent k bs = some c) :
    contentLawful c := by
  unfold readContent at h
  split at h
  · obtain ⟨mp, hmp, rfl⟩ := Option.map_eq_some_iff.mp h
    exact readMembershipBytes_lawful hmp
  · split at h
    next he => cases h; exact readEntryBytes_lawful he
    next => cases h

/-- A payload of a kind other than IMAGE carries no part of a table. -/
theorem readPayload_notImage {k : BitVec 4} (hk : k ≠ 0) {bs : List Byte} {p : Payload} (h : readPayload k bs = some p) :
    payloadLawful p = true := by
  unfold readPayload at h
  have hlt := k.isLt
  have hpos : 0 < k.toNat := Nat.pos_of_ne_zero fun h0 => hk (BitVec.eq_of_toNat_eq h0)
  generalize k.toNat = n at h hlt hpos
  have hkinds : n = 7 ∨ n = 11 ∨ 12 ≤ n ∨ n ≤ 6 ∨ 8 ≤ n ∧ n ≤ 10 := by omega
  rcases hkinds with rfl | rfl | hunknown | hfixed
  · rcases bs with _ | ⟨b0, bs⟩
    · cases h
    · change (if _ then _ else none) = some p at h
      split at h
      · obtain ⟨items, -, rfl⟩ := Option.map_eq_some_iff.mp h
        rfl
      · cases h
  · rcases bs with _ | ⟨b0, _ | ⟨b1, _ | ⟨b2, _ | ⟨b3, bs⟩⟩⟩⟩
    case cons.cons.cons.nil =>
      change (if _ then _ else if _ then _ else none) = some p at h
      split at h
      · cases h; rfl
      · split at h <;> cases h
        rfl
    all_goals cases h
  · interval_cases n <;> cases h
  · rcases hfixed with hlow | ⟨hlow, hhigh⟩ <;> interval_cases n
    all_goals
      rcases bs with _ | ⟨b0, _ | ⟨b1, _ | ⟨b2, _ | ⟨b3, _ | ⟨b4, _ | ⟨b5, _ | ⟨b6, bs⟩⟩⟩⟩⟩⟩⟩ <;> cases h
      rfl

theorem readPayload_lawful {k : BitVec 4} {bs : List Byte} {p : Payload} (h : readPayload k bs = some p) :
    payloadLawful p = true := by
  by_cases hk : k = 0
  · subst hk
    rcases bs with _ | ⟨b0, _ | ⟨b1, bs⟩⟩
    · cases h
    · cases h
    · change (readContent b1 bs).map _ = some p at h
      obtain ⟨c, hc, rfl⟩ := Option.map_eq_some_iff.mp h
      have hlawful := readContent_lawful hc
      cases c <;> exact hlawful
  · exact readPayload_notImage hk h

theorem receive_lawful {f : RxFrame} {n : Notice} (h : receive f = some n) : payloadLawful n.body = true := by
  unfold receive decodeFrame at h
  split at h
  · cases h
  · dsimp only at h
    split at h
    · obtain ⟨p, hp, rfl⟩ := Option.map_eq_some_iff.mp h
      exact readPayload_lawful hp
    · cases h

/-! ## The line events -/

section
variable {P : Prop} (s : State)

/-- Frames leave, or come back from the line: what is on the line afterwards was there before. -/
theorem TableKeeps.of_line {t : State} (htable : t.table = s.table) (htimer : t.timer.keys = s.timer.keys)
    (hin : t.line.inbound = s.line.inbound) (hon : ∀ f ∈ t.sendq.onLine, f ∈ s.sendq.onLine) : TableKeeps P s t := by
  have hentry (r : Resource) : t.entry r = s.entry r := entry_of_table htable r
  refine ⟨fun _ ⟨hentries, hmembers, hinbound, hframes⟩ => ⟨fun r => by rw [hentry]; exact hentries r,
    by rw [htable]; exact hmembers, by rwa [hin], ?_⟩, fun hs r hr => ?_,
    fun _ _ => countdownLaw_congr (by rw [htable]) htimer⟩
  · rw [frames_lawful_iff] at hframes ⊢
    exact fun f hf => hframes f (hon f hf)
  · rw [hentry]
    exact hs r (by rwa [count_of_bank (congrArg TableUnit.bank htable)] at hr)

theorem withLine_tables {l : LineUnit} (h : l.inbound = s.line.inbound) : TableKeeps P s (s.withLine l) :=
  .of_line s rfl rfl h fun _ => id

theorem removeOnLine_tables : TableKeeps P s (s.withSendq s.sendq.removeOnLine) :=
  .of_line s rfl rfl rfl fun f hf => by
    rw [State.withSendq_sendq, SendQueue.onLine_removeOnLine] at hf
    cases hf

theorem returnOnLine_tables (n : Nat) : TableKeeps P s (s.withSendq (s.sendq.returnOnLine n)) :=
  .of_line s rfl rfl rfl fun f hf => by
    rw [State.withSendq_sendq, SendQueue.onLine_returnOnLine] at hf
    cases hf

theorem hostDrop_tables (b : QBody) : TableKeeps P s (s.hostDrop b) := by
  unfold State.hostDrop
  split
  · split
    · exact .of_inner (s.popRecord_inner _) rfl rfl rfl rfl
    · exact .refl P s
  · split
    · exact .of_line s rfl rfl rfl fun _ => id
    · exact .refl P s
  · split
    · exact toReady_tables s 3
    · exact .refl P s
  · split
    · refine .of_core ((core_withCtl s .member s.ctl.exhausted).trans <|
        (State.stateCheck_inner _).core.trans (State.evalGates_inner _ (by decide)).core) ?_ ?_ ?_ ?_ <;> simp
    · exact .refl P s
  · exact .refl P s

theorem placeImage_tables : TableKeeps P s s.placeImage :=
  .of_inner s.placeImage_inner (by simp) (by simp) (by simp) (by simp)

theorem dropFrame_tables (f : QFrame) : TableKeeps P s (s.dropFrame f) := by
  unfold State.dropFrame
  split
  · exact (raise_tables s _ (by nofun)).trans (hostDrop_tables _ _)
  · split
    · exact .of_inner ((Inner.of_transfers _ (List.filter_sublist.map _)).trans (State.placeImage_inner _)) (by simp)
        (by simp) (by simp) (by simp)
    · exact .refl P s

theorem comeBack_tables (counts : Bool) : TableKeeps P s (s.comeBack counts) := by
  unfold State.comeBack
  split
  · exact .refl P s
  next f _ =>
    split
    · exact (removeOnLine_tables s).trans (.of_inner (State.popAndReport_inner _ _ (by nofun) _ _) (by simp) (by simp)
        (by simp) (by simp))
    · split
      · exact (removeOnLine_tables s).trans (dropFrame_tables _ f)
      · split
        · exact removeOnLine_tables s
        · exact returnOnLine_tables s _

theorem enterFault_tables : TableKeeps P s s.enterFault := .of_clear rfl rfl rfl rfl

theorem settleConflict_tables : TableKeeps P s s.settleConflict := by
  unfold State.settleConflict
  split
  · split
    · exact enterFault_tables s
    · refine TableKeeps.trans ?_ (comeBack_tables _ true)
      exact withLine_tables s rfl
  · exact .refl P s

theorem loseArbitration_tables : TableKeeps P s s.loseArbitration := by
  unfold State.loseArbitration
  split
  · refine TableKeeps.trans ?_ (comeBack_tables _ false)
    exact withLine_tables s rfl
  · exact .refl P s

theorem stopAtConflict_tables : TableKeeps P s s.stopAtConflict := by
  unfold State.stopAtConflict
  split
  · exact withLine_tables s rfl
  · exact .refl P s

theorem frameEnded_tables (n : Nat) : TableKeeps P s (s.frameEnded n) := withLine_tables s rfl

theorem veto_tables (f : RxFrame) : TableKeeps P s (s.veto f) := by
  unfold State.veto
  split
  · exact (frameEnded_tables s 0).trans (comeBack_tables _ true)
  · split
    · exact (frameEnded_tables s _).trans (settleConflict_tables _)
    · exact .refl P s

theorem truncate_tables : TableKeeps P s s.truncate := by
  unfold State.truncate
  split
  · exact (frameEnded_tables s 0).trans (settleConflict_tables _)
  · exact .refl P s

theorem lineBecomesIdle_tables : TableKeeps P s s.lineBecomesIdle := by
  unfold State.lineBecomesIdle
  split
  · dsimp only
    have hended : TableKeeps P s (if s.line.frameInHand || s.line.conflictPending then s.truncate else s) := by
      split
      · exact truncate_tables s
      · exact .refl P s
    generalize (if s.line.frameInHand || s.line.conflictPending then s.truncate else s) = s1 at hended
    split
    · exact hended.trans (withLine_tables s1 rfl)
    · exact hended
  · exact .refl P s

theorem seeStartCell_tables : TableKeeps P s s.seeStartCell := by
  unfold State.seeStartCell
  split
  · exact withLine_tables s rfl
  · exact .refl P s

theorem lineBecomesBlocked_tables : TableKeeps P s s.lineBecomesBlocked := by
  unfold State.lineBecomesBlocked
  split
  · exact .refl P s
  · dsimp only
    have hblocked : TableKeeps P s ((s.withLine { s.line with
        state := some .blocked, frameInHand := false, conflictPending := false }).comeBack false) := by
      refine TableKeeps.trans ?_ (comeBack_tables _ false)
      exact withLine_tables s rfl
    split
    · exact hblocked.trans (raise_tables _ _ (by nofun))
    · exact hblocked

theorem lineIsRestored_tables : TableKeeps P s s.lineIsRestored := by
  unfold State.lineIsRestored
  split
  · dsimp only
    have hidle : TableKeeps P s ((s.reloadFrozen).withLine { s.line with state := some .idle }) :=
      .of_line s rfl rfl rfl fun _ => id
    split
    · exact hidle.trans (raise_tables _ _ (by nofun))
    · exact hidle
  · exact .refl P s

/-! ### Offering (R68, R71, R128) -/

/-- What a frame is offered with comes from lawful tables (R71). -/
theorem offered_lawful (h : TableLaw s) (b : QBody) : payloadLawful (s.offered b) = true := by
  cases b with
  | image t a p =>
    cases p with
    | membership => exact h.2.1
    | resource r => exact h.1 r
  | presence =>
    show payloadLawful (if _ then Payload.presence true s.digest else Payload.presence false 0) = true
    split <;> rfl
  | _ => rfl

theorem startSending_tables (f : QFrame) : TableKeeps P s (s.startSending f) := by
  refine ⟨fun _ hs => ⟨hs.1, hs.2.1, hs.2.2.1, fun x hx => ?_⟩, id, fun _ _ => id⟩
  obtain ⟨y, hy, rfl⟩ := List.mem_map.mp hx
  split
  · exact offered_lawful s hs f.body
  · exact hs.2.2.2 y hy

theorem offerFrom_tables (n : Nat) : TableKeeps P s (State.offerFrom n s) := by
  induction n generalizing s with
  | zero => exact .refl P s
  | succ n ih =>
    rw [State.offerFrom]
    split
    · exact .refl P s
    · split
      · exact (TableKeeps.of_inner (s.removeQueued_inner _) rfl rfl rfl rfl).trans (ih _)
      · exact startSending_tables s _

theorem offerHead_tables : TableKeeps P s s.offerHead := by
  unfold State.offerHead
  split
  · exact offerFrom_tables s _
  · exact .refl P s

/-! ### Delivery (R130, R152, R156) -/

theorem heard_tables (u : Station) : TableKeeps P s (s.heard u) :=
  .of_inner (s.heard_inner u) (by simp) (by simp) (by simp) (by simp)

theorem deliverOwn_tables {f : QFrame} {c : Payload} (hf : s.onLineFrame = some f) (hphase : f.phase = .onLine c) :
    TableKeeps P s (s.deliverOwn f c) := by
  refine TableKeeps.trans ?_ (heard_tables _ _)
  refine ⟨fun _ ⟨hentries, hmembers, hinbound, hframes⟩ => ⟨hentries, hmembers, fun n hn => ?_, fun x hx => ?_⟩, id,
    fun _ _ => id⟩
  · rcases List.mem_append.mp hn with hn | hn
    · exact hinbound n hn
    · have hlawful := hframes f (List.mem_of_find?_eq_some hf)
      rw [frameLawful, hphase] at hlawful
      rw [List.mem_singleton.mp hn]
      exact hlawful
  · exact hframes x (List.mem_of_mem_filter hx)

theorem dropNotice_tables : TableKeeps P s s.dropNotice := by
  unfold State.dropNotice
  split
  · exact (enterResync_tables s 1).trans (.of_inner (State.request_inner _ _ _) (by simp) (by simp) (by simp) (by simp))
  · exact cleared_tables s _ _ _
  · split
    · exact updateImagePending_tables s _
    · exact .refl P s
  · split
    · exact updateImagePending_tables s _
    · exact .refl P s
  · exact .refl P s
  · exact .refl P s
  · exact .refl P s

theorem takeDelivery_tables {n : Notice} (hn : payloadLawful n.body = true) : TableKeeps P s (s.takeDelivery n) := by
  unfold State.takeDelivery
  split
  · exact dropNotice_tables s
  · refine ⟨fun _ ⟨hentries, hmembers, hinbound, hframes⟩ => ⟨hentries, hmembers, fun x hx => ?_, hframes⟩, id,
      fun _ _ => id⟩
    rcases List.mem_append.mp hx with hx | hx
    · exact hinbound x hx
    · rw [List.mem_singleton.mp hx]
      exact hn

theorem deliverReceived_tables (f : RxFrame) : TableKeeps P s (s.deliverReceived f) := by
  unfold State.deliverReceived
  split
  · exact .refl P s
  · split
    next n hn =>
      have hlawful : payloadLawful n.body = true := by
        split at hn
        · exact receive_lawful hn
        · cases hn
      exact (((frameEnded_tables s 0).trans (heard_tables _ _)).trans (takeDelivery_tables _ hlawful)).trans
        (settleConflict_tables _)
    next => exact (frameEnded_tables s 0).trans (settleConflict_tables _)

theorem deliver_tables (f : RxFrame) : TableKeeps P s (s.deliver f) := by
  unfold State.deliver
  split
  · split
    next q hq =>
      split
      next c hc => exact deliverOwn_tables s hq hc
      next => exact .refl P s
    next => exact .refl P s
  · split
    · exact deliverReceived_tables s f
    · exact .refl P s

/-! ## The host commands -/

theorem respond_tables (b : List Byte) : TableKeeps P s (s.respond b) := .of_line s rfl rfl rfl fun _ => id

theorem answer_tables (c : ResultCode) : TableKeeps P s (s.answer c) := respond_tables s _

theorem answerData_tables (data : List Byte) : TableKeeps P s (s.answerData data) := respond_tables s _

theorem configure_tables (a b c d e f : Byte) : TableKeeps P s (s.configure a b c d e f) := by
  unfold State.configure
  split
  · split
    · exact .of_line s rfl rfl rfl fun _ => id
    · exact answer_tables s _
  · exact answer_tables s _

theorem placeHost_tables (b : QBody) : TableKeeps P s (s.placeHost b) := .of_inner (s.placeHost_inner b) rfl rfl rfl rfl

theorem commandJoin_tables : TableKeeps P s s.commandJoin := by
  unfold State.commandJoin
  split
  · have hview : TableKeeps P s (((s.withCtl { s.ctl with station := .joining }).withTable
        { s.table with members := Vector.replicate 16 .absent }).loadPresence) :=
      .of_members ((core_withCtl s .joining s.ctl.exhausted).trans <| (core_withTable _ _).trans
        (State.withTimer_inner _ _).core) rfl (fun _ _ => membersLawful_clear) rfl rfl
    refine TableKeeps.trans ?_ (answer_tables _ _)
    unfold State.startJoining
    dsimp only
    refine TableKeeps.trans ?_ (placeHost_tables _ _)
    split
    · exact hview.trans (raise_tables _ _ (by nofun))
    · exact hview
  · exact answer_tables s _

theorem commandLeave_tables : TableKeeps P s s.commandLeave := by
  unfold State.commandLeave
  split
  · split
    · refine TableKeeps.trans ?_ (answer_tables _ _)
      have hcore : Core s s.startLeaving :=
        (core_withCtl s .leaving s.ctl.exhausted).trans <| (State.evalGates_inner _ (by decide)).core.trans <|
          (abandonTransfers_core _).trans <| (State.stateCheck_inner _).core.trans (State.placeHost_inner _ _).core
      exact .of_core hcore (by simp [State.startLeaving]) (by simp [State.startLeaving]) (by simp [State.startLeaving])
        (by simp [State.startLeaving])
    · exact answer_tables s _
  · exact answer_tables s _

/-- A command that acts inside the station and leaves its tables alone, and then answers. -/
theorem answered_tables {t u : State} {c : ResultCode} (h : Inner s t) (ht : t.table = s.table) (hc : t.timer = s.timer)
    (hu : u = t.answer c) : TableKeeps P s u := by
  rw [hu]
  exact (TableKeeps.of_inner h (by rw [ht]) (by rw [ht]) (by rw [ht]) (by rw [hc])).trans (answer_tables _ _)

/-- A command that acts in the stack, the send queue or the port alone. -/
theorem commandRelease_tables : TableKeeps P s s.commandRelease := by
  have htop : TableKeeps P s s.releaseTop := by
    unfold State.releaseTop
    split
    · exact answer_tables s _
    · split
      · split
        · refine TableKeeps.trans ?_ (answer_tables _ _)
          refine .of_line s (by simp) (by simp) (by simp) fun f hf => ?_
          rw [(State.placeHost_inner _ _).onLine] at hf
          simpa using hf
        · exact answer_tables s _
      · exact .of_line s rfl rfl rfl fun _ => id
      · exact .of_line s rfl rfl rfl fun _ => id
      all_goals exact answer_tables s _
  unfold State.commandRelease
  split
  · exact htop
  · exact htop
  · exact htop
  all_goals exact answer_tables s _

theorem commandRenew_tables : TableKeeps P s s.commandRenew := by
  have hheld : TableKeeps P s s.renewHeld := by
    unfold State.renewHeld
    split
    · exact answer_tables s _
    · split
      · refine TableKeeps.trans ?_ (answer_tables _ _)
        refine ⟨fun _ ⟨hentries, hmembers, hinbound, hframes⟩ => ⟨hentries, hmembers, hinbound, fun f hf => ?_⟩, id,
          fun _ _ => id⟩
        obtain ⟨x, hx, rfl⟩ := List.mem_map.mp hf
        split
        · exact hframes x hx
        · exact hframes x hx
      · split
        · exact (placeHost_tables s _).trans (answer_tables _ _)
        · exact answer_tables s _
  unfold State.commandRenew
  split
  · exact hheld
  · exact hheld
  all_goals exact answer_tables s _

theorem commandWithdraw_tables : TableKeeps P s s.commandWithdraw := by
  have htop : TableKeeps P s s.withdrawTop := by
    unfold State.withdrawTop
    split
    · exact answer_tables s _
    · split
      · split
        · refine TableKeeps.trans ?_ (answer_tables _ _)
          exact .of_inner ((s.removeQueued_inner _).trans (State.popAndReport_inner _ _ (by nofun) _ _)) (by simp)
            (by simp) (by simp) (by simp)
        · exact .of_line s rfl rfl rfl fun _ => id
      · split
        · refine TableKeeps.trans ?_ (answer_tables _ _)
          refine TableKeeps.trans ?_ (placeHost_tables _ _)
          exact .of_line s rfl rfl rfl fun _ => id
        · exact answer_tables s _
      all_goals exact answer_tables s _
  unfold State.commandWithdraw
  split
  · exact htop
  · exact htop
  all_goals exact answer_tables s _

theorem commandClaim_tables (a b : Byte) : TableKeeps P s (s.commandClaim a b) := by
  unfold State.commandClaim
  split
  · split
    · exact answer_tables s _
    · split
      · refine TableKeeps.trans ?_ (answer_tables _ _)
        refine TableKeeps.trans ?_ (placeHost_tables _ _)
        exact .of_line s rfl rfl rfl fun _ => id
      · exact answer_tables s _
  · exact answer_tables s _

theorem commandReadEntry_tables (b : Byte) : TableKeeps P s (s.commandReadEntry b) := by
  unfold State.commandReadEntry
  split
  · split
    · split
      · exact answerData_tables s _
      · exact answer_tables s _
    · exact answer_tables s _
  · exact answer_tables s _

theorem commandTakeReport_tables : TableKeeps P s s.commandTakeReport := by
  unfold State.commandTakeReport
  split
  · exact answer_tables s _
  · exact .of_line s rfl rfl rfl fun _ => id

theorem commandSetMask_tables (v : BitVec 24) : TableKeeps P s (s.commandSetMask v) := by
  unfold State.commandSetMask
  split
  · exact .of_line s rfl rfl rfl fun _ => id
  · exact answer_tables s _

/-! ## The inputs and the timers -/

theorem setChannel_tables (n : Fin 8) (c : Channel) : TableKeeps P s (s.setChannel n c) :=
  .of_line s rfl rfl rfl fun _ => id

theorem ginFalls_tables (n : Fin 8) : TableKeeps P s (s.ginFalls n) := by
  unfold State.ginFalls
  split
  · exact setChannel_tables s n _
  · refine TableKeeps.trans ?_ (raise_tables _ _ (by nofun))
    exact setChannel_tables s n _

/-- The countdown that expires is there, and stays there as expired (R53). -/
theorem countdownExpires_tables {c : Countdown} (hc : c ∈ s.timer.countdowns) : TableKeeps P s (s.countdownExpires c) := by
  unfold State.countdownExpires
  dsimp only
  refine TableKeeps.trans ?_ (.of_inner (State.askLapse_inner _ _) (by simp) (by simp) (by simp) (by simp))
  have hset : TableKeeps P s (s.setCountdown c.resource c.holder c.grant .expired) := by
    refine .of_tables rfl rfl (fun _ hs => ⟨hs.1, hs.2.1⟩) id fun _ _ hs => countdownLaw_setCountdown hs ?_ _
    exact (((countdownLaw_iff s).mp hs).1 _ _ _).mp (List.mem_map_of_mem (f := fun c => (c.resource, c.holder, c.grant)) hc)
  split
  · exact hset.trans (.of_inner (State.onCountdownExpired_inner _ _) (by simp) (by simp) (by simp) (by simp))
  · exact hset

theorem expireCountdown_tables (r : Resource) (p : Station) : TableKeeps P s (s.expireCountdown r p) := by
  unfold State.expireCountdown
  split
  next c hc => exact countdownExpires_tables s (List.mem_of_find?_eq_some hc)
  next => exact .refl P s

/-- An operation that leaves the tables and the countdowns. -/
theorem TableKeeps.of_ask {t : State} (h : Inner s t) (ht : t.table = s.table) (hc : t.timer = s.timer) :
    TableKeeps P s t := .of_inner h (by rw [ht]) (by rw [ht]) (by rw [ht]) (by rw [hc])

theorem withTimer_tables {t : TimerUnit} (h : t.countdowns = s.timer.countdowns) : TableKeeps P s (s.withTimer t) :=
  .of_inner (s.withTimer_inner t) rfl rfl rfl h

theorem expirePresence_tables : TableKeeps P s s.expirePresence := by
  unfold State.expirePresence
  split
  · refine TableKeeps.trans ?_ (.of_ask _ (State.askPresence_inner _) (by simp) (by simp))
    exact withTimer_tables s rfl
  · exact .refl P s

theorem expireSilence_tables (p : Station) : TableKeeps P s (s.expireSilence p) := by
  unfold State.expireSilence
  split
  · refine TableKeeps.trans ?_ (.of_ask _ (State.askEvict_inner _ p) (by simp) (by simp))
    exact withTimer_tables s rfl
  · exact .refl P s

theorem expireFoundWait_tables : TableKeeps P s s.expireFoundWait := by
  unfold State.expireFoundWait
  split
  · refine TableKeeps.trans ?_ (.of_ask _ (State.askFound_inner _) (by simp) (by simp))
    exact withTimer_tables s rfl
  · exact .refl P s

theorem expireJoinWait_tables : TableKeeps P s s.expireJoinWait := by
  unfold State.expireJoinWait
  split
  · split
    · split <;> exact withTimer_tables s rfl
    · exact withTimer_tables s rfl
  · exact .refl P s

theorem expireImageWait_tables : TableKeeps P s s.expireImageWait := by
  unfold State.expireImageWait
  split
  · dsimp only
    have hwait : TableKeeps P s (s.withTimer { s.timer with imageWait := .expired }) := withTimer_tables s rfl
    split
    · split
      · exact hwait.trans (.of_ask _ (State.askJoin_inner _) (by simp) (by simp))
      · exact cleared_tables s _ _ _
    · split
      · exact hwait.trans (.of_ask _ (State.askSync_inner _) (by simp) (by simp))
      · exact (hwait.trans (exhaust_tables _)).trans (.of_ask _ (State.askLeave_inner _) (by simp) (by simp))
    all_goals exact hwait
  · exact .refl P s

theorem advance_tables : TableKeeps P s s.advance := by
  have hkeys : s.advance.timer.keys = s.timer.keys := by
    unfold State.advance TimerUnit.keys
    dsimp only
    split
    · rw [State.withTimer_timer, List.map_map]
      rfl
    · rw [State.withTimer_timer, List.map_map]
      rfl
  refine .of_line s ?_ hkeys ?_ ?_ <;> unfold State.advance <;> dsimp only <;> split
  · rfl
  · rfl
  · rfl
  · rfl
  · exact fun _ => id
  · exact fun _ => id

/-! ## Every command and every step -/

theorem awake_tables {f : State → State} (h : TableKeeps P s (f s)) : TableKeeps P s (s.awake f) := by
  unfold State.awake
  split
  · exact .refl P s
  · exact h

theorem atPort_tables {f : State → State} (h : TableKeeps P s (f s)) : TableKeeps P s (s.atPort f) := by
  unfold State.atPort
  split
  · exact .refl P s
  · exact h

end

theorem exec_tables {c : Instr} {s t : State} (h : exec c s = .next t) : TableKeeps True s t := by
  obtain ⟨hclaim, hrelease, hwithdraw, hlapse, hrenew, hjoin, hsync, hfound, hleave, hevict, himage, hpresence⟩ :=
    applications_tables (Q := True) s
  have hclear (u : State) (ht : u.table = TableUnit.clear) (hc : u.timer = TimerUnit.clear) (hin : u.line.inbound = [])
      (hq : u.sendq = SendQueue.clear) : TableKeeps True s u :=
    .of_clear ht (by rw [hc]; rfl) hin (by rw [hq]; rfl)
  cases c with
  | unknownCommandCode code =>
    rw [exec, execUnknownCommandCode] at h
    split at h <;> cases h
    exact atPort_tables s (answer_tables s _)
  | ginAsserted n =>
    cases h
    split
    · exact .refl True s
    · split
      · exact setChannel_tables s n _
      · exact ginFalls_tables s n
  | ginReleased n => cases h; exact setChannel_tables s n _
  | rstnAsserted => cases h; exact hclear _ rfl rfl rfl rfl
  | resetRelease straps => cases h; exact hclear _ rfl rfl rfl rfl
  | softReset =>
    cases h
    refine awake_tables s ?_
    split
    · exact hclear _ rfl rfl rfl rfl
    · exact .refl True s
  | configure a b c d e f => cases h; exact atPort_tables s (configure_tables s a b c d e f)
  | join => cases h; exact atPort_tables s (commandJoin_tables s)
  | leave => cases h; exact atPort_tables s (commandLeave_tables s)
  | claim r m => cases h; exact atPort_tables s (commandClaim_tables s r m)
  | release => cases h; exact atPort_tables s (commandRelease_tables s)
  | renew => cases h; exact atPort_tables s (commandRenew_tables s)
  | withdraw => cases h; exact atPort_tables s (commandWithdraw_tables s)
  | readStatus => cases h; exact atPort_tables s (answerData_tables s _)
  | readStack => cases h; exact atPort_tables s (answerData_tables s _)
  | readEntry r => cases h; exact atPort_tables s (commandReadEntry_tables s r)
  | readMembers => cases h; exact atPort_tables s (answerData_tables s _)
  | takeReport => cases h; exact atPort_tables s (commandTakeReport_tables s)
  | setMask v => cases h; exact atPort_tables s (commandSetMask_tables s v)
  | reset => cases h; exact atPort_tables s (.of_line s rfl rfl rfl fun _ => id)
  | offer => cases h; exact awake_tables s (offerHead_tables s)
  | arbitrationLost => cases h; exact awake_tables s (loseArbitration_tables s)
  | conflict => cases h; exact awake_tables s (stopAtConflict_tables s)
  | frameVetoed f => cases h; exact awake_tables s (veto_tables s f)
  | frameDelivered f => cases h; exact awake_tables s (deliver_tables s f)
  | frameTruncated => cases h; exact awake_tables s (truncate_tables s)
  | lineIdle => cases h; exact awake_tables s (lineBecomesIdle_tables s)
  | lineBlocked => cases h; exact awake_tables s (lineBecomesBlocked_tables s)
  | lineRestored => cases h; exact awake_tables s (lineIsRestored_tables s)
  | startCellSeen => cases h; exact awake_tables s (seeStartCell_tables s)
  | applyClaim => cases h; exact awake_tables s hclaim
  | applyRelease => cases h; exact awake_tables s hrelease
  | applyWithdraw => cases h; exact awake_tables s hwithdraw
  | applyLapse => cases h; exact awake_tables s hlapse
  | applyRenew => cases h; exact awake_tables s hrenew
  | applyJoin => cases h; exact awake_tables s hjoin
  | applySync => cases h; exact awake_tables s hsync
  | applyFound => cases h; exact awake_tables s hfound
  | applyLeave => cases h; exact awake_tables s hleave
  | applyEvict => cases h; exact awake_tables s hevict
  | applyImage => cases h; exact awake_tables s himage
  | applyPresence => cases h; exact awake_tables s hpresence
  | holdCountdownExpiry r p => cases h; exact awake_tables s (expireCountdown_tables s r p)
  | presenceTimerExpiry => cases h; exact awake_tables s (expirePresence_tables s)
  | silenceTimerExpiry p => cases h; exact awake_tables s (expireSilence_tables s p)
  | joinWaitExpiry => cases h; exact awake_tables s (expireJoinWait_tables s)
  | foundWaitExpiry => cases h; exact awake_tables s (expireFoundWait_tables s)
  | imageWaitExpiry => cases h; exact awake_tables s (expireImageWait_tables s)
  | lapseAskedAgain r p =>
    cases h
    exact awake_tables s (.foldl _ s fun s c => .of_ask s (s.askLapse_inner c) (by simp) (by simp))
  | evictAskedAgain p => cases h; exact awake_tables s (.of_ask s (s.askEvict_inner p) (by simp) (by simp))
  | presenceAskedAgain => cases h; exact awake_tables s (.of_ask s s.askPresence_inner (by simp) (by simp))
  | foundAskedAgain => cases h; exact awake_tables s (.of_ask s s.askFound_inner (by simp) (by simp))
  | joinAskedAgain => cases h; exact awake_tables s (.of_ask s s.askJoin_inner (by simp) (by simp))
  | syncAskedAgain => cases h; exact awake_tables s (.of_ask s s.askSync_inner (by simp) (by simp))
  | reconciliationRenewAsked => cases h; exact awake_tables s (.of_ask s s.askRenew_inner (by simp) (by simp))
  | owedReleaseAsked =>
    cases h
    exact awake_tables s (.foldl _ s fun s k => .of_ask s (s.askOwedRelease_inner k) (by simp) (by simp))
  | exhaustedLeaveAsked => cases h; exact awake_tables s (.of_ask s s.askLeave_inner (by simp) (by simp))
  | owedWithdrawPlaced =>
    cases h
    exact awake_tables s (.foldl _ s fun s k => .of_ask s (s.placeOwedWithdraw_inner k) (by simp) (by simp))

/-- But for the waiting commands a step is a command or the tick. -/
theorem step_tables {s t : State} (h : step s = .next t) :
    ∃ p q u, TableKeeps True (s.withPending p) u ∧ t = u.withPending q := by
  unfold step at h
  split at h
  · cases h
    unfold State.tick State.awake
    split
    · exact ⟨s.pending, s.pending, s, .refl True s, rfl⟩
    · exact ⟨s.pending, _, s.advance, advance_tables s, rfl⟩
  next c rest _ => exact ⟨rest, t.pending, t, exec_tables h, rfl⟩

/-- Settles O5. -/
theorem stepKeepsTheTableLaw : Obligations.StepKeepsTheTableLaw := by
  intro s t hs h
  obtain ⟨p, q, u, hkeeps, rfl⟩ := step_tables h
  exact hkeeps.table trivial hs

/-- Settles O6. -/
theorem stepKeepsTheUnusedLaw : Obligations.StepKeepsTheUnusedLaw := by
  intro s t hs h
  obtain ⟨p, q, u, hkeeps, rfl⟩ := step_tables h
  exact hkeeps.unused hs

/-- Settles O7. -/
theorem stepKeepsTheCountdownLaw : Obligations.StepKeepsTheCountdownLaw := by
  intro s t hs hc h
  obtain ⟨p, q, u, hkeeps, rfl⟩ := step_tables h
  exact hkeeps.countdowns trivial hs hc

end Sys2Proof.Machine

/-! PROOFS. The requests made again at a tick, and the expiries of the timers (R48, R53 to R67, R81, R85, R96, R97,
R201, R204). -/

namespace Sys2Proof.Machine

open Sys2Proof.Safety

/-! ## What a request adds (R125) -/

/-- Only the send queue changes, by new frames at its end. -/
def AddsFrames (s t : State) : Prop :=
  ∃ added, t = { s with sendq := { s.sendq with frames := s.sendq.frames ++ added } } ∧
    ∀ f ∈ added, f.retries = 0 ∧ f.phase = .queued

theorem AddsFrames.refl (s : State) : AddsFrames s s := ⟨[], by simp, by simp⟩

theorem AddsFrames.trans {s t u : State} (h : AddsFrames s t) (h' : AddsFrames t u) : AddsFrames s u := by
  obtain ⟨xs, rfl, hxs⟩ := h
  obtain ⟨ys, rfl, hys⟩ := h'
  refine ⟨xs ++ ys, by simp, fun f hf => ?_⟩
  rcases List.mem_append.mp hf with hf | hf
  · exact hxs f hf
  · exact hys f hf

theorem AddsFrames.foldl {α : Type} {f : State → α → State} (l : List α) (s : State) (h : ∀ s a, AddsFrames s (f s a)) :
    AddsFrames s (l.foldl f s) := foldl_keeps AddsFrames.refl AddsFrames.trans h l s

section
variable (s : State)

theorem State.request_addsFrames (b : QBody) (p : Place) : AddsFrames s (s.request b p) := by
  unfold State.request
  rcases s.sendq.request_adds b p with h | h <;> rw [h]
  · exact .refl s
  · exact ⟨[_], rfl, by simp⟩

theorem State.askLapse_addsFrames (c : Countdown) : AddsFrames s (s.askLapse c) := by
  unfold State.askLapse
  split
  · exact s.request_addsFrames ..
  · exact .refl s

theorem State.askEvict_addsFrames (p : Station) : AddsFrames s (s.askEvict p) := by
  unfold State.askEvict
  split
  · exact s.request_addsFrames ..
  · exact .refl s

theorem State.askPresence_addsFrames : AddsFrames s s.askPresence := by
  unfold State.askPresence
  split
  · exact s.request_addsFrames ..
  · exact .refl s

theorem State.askFound_addsFrames : AddsFrames s s.askFound := by
  unfold State.askFound
  split
  · exact s.request_addsFrames ..
  · exact .refl s

theorem State.askJoin_addsFrames : AddsFrames s s.askJoin := by
  unfold State.askJoin
  split
  · exact s.request_addsFrames ..
  · exact .refl s

theorem State.askSync_addsFrames : AddsFrames s s.askSync := by
  unfold State.askSync
  split
  · exact s.request_addsFrames ..
  · exact .refl s

theorem State.askLeave_addsFrames : AddsFrames s s.askLeave := by
  unfold State.askLeave
  split
  · exact s.request_addsFrames ..
  · exact .refl s

theorem State.askRenew_addsFrames : AddsFrames s s.askRenew := by
  unfold State.askRenew
  split
  · exact s.request_addsFrames ..
  · exact .refl s

theorem State.askOwedRelease_addsFrames (k : Record) : AddsFrames s (s.askOwedRelease k) := by
  unfold State.askOwedRelease
  split
  · exact s.request_addsFrames ..
  · exact .refl s

theorem State.placeOwedWithdraw_addsFrames (k : Record) : AddsFrames s (s.placeOwedWithdraw k) := by
  unfold State.placeOwedWithdraw
  split
  · exact s.request_addsFrames ..
  · exact .refl s

end

/-! ## The conditions of the requests (R53 to R66, R81, R85, R96, R97, R204) -/

section
variable {s : State}

theorem StationState.listening_iff_inBank_or_joining (st : StationState) :
    st.listening = true ↔ st = .joining ∨ st.inBank = true := by
  cases st <;> decide

/-- A LAPSE is asked for by its own station in the bank, and by every other one in MEMBER. -/
theorem State.askLapse_enters {r : Resource} {h : Station} {g : Grant}
    (hst : if h = s.self then s.ctl.station.inBank = true else s.ctl.station = .member)
    (hroom : GeneralRoom s (.lapse r h g)) :
    s.askLapse { resource := r, holder := h, grant := g, timer := .expired } =
      queuedLast s (generalFrame (.lapse r h g)) := by
  have hwanted : s.lapseWanted { resource := r, holder := h, grant := g, timer := .expired } = true := by
    unfold State.lapseWanted
    dsimp only
    rw [generalRoom_queued hroom]
    split at hst
    next hown => simpa [Timer.isExpired, hown] using hst
    next hother => simpa [Timer.isExpired, hother] using hst
  rw [State.askLapse, if_pos hwanted]
  exact State.request_general hroom

theorem State.askLapse_unwanted {c : Countdown} (hother : c.holder ≠ s.self) (hst : s.ctl.station ≠ .member) :
    s.askLapse c = s := by
  rw [State.askLapse, State.lapseWanted, if_neg hother, decide_eq_false hst, Bool.and_false]
  rfl

theorem MemberRecord.isAbsent_iff (m : MemberRecord) : m.isAbsent = true ↔ m = .absent := by
  cases m <;> simp [MemberRecord.isAbsent]

theorem State.askEvict_enters {p : Station} (htimer : s.timer.silence[p] = .expired) (hst : s.ctl.station = .member)
    (hp : s.table.members[p] ≠ .absent) (hroom : GeneralRoom s (.evict p)) :
    s.askEvict p = queuedLast s (generalFrame (.evict p)) := by
  have hpresent : (s.recordOfStation p).isAbsent = false :=
    Bool.eq_false_iff.mpr (mt (MemberRecord.isAbsent_iff _).mp hp)
  have hwanted : s.evictWanted p = true := by
    rw [State.evictWanted, htimer, generalRoom_queued hroom, hpresent, decide_eq_true hst]
    rfl
  rw [State.askEvict, if_pos hwanted]
  exact State.request_general hroom

theorem QBody.target_presence_iff (b : QBody) : b.target = QBody.presence.target ↔ b = .presence := by
  cases b <;> simp [QBody.target, QBody.kind]

theorem State.askPresence_enters (htimer : s.timer.presence = .expired) (hlisten : s.listening = true)
    (hplace : ∀ f ∈ s.sendq.frames, f.place ≠ .presence) (hnone : NoneQueued s 11)
    (hawait : ∀ f, s.sendq.awaiting = some f → f.body ≠ .presence) :
    s.askPresence = queuedLast s
      { body := .presence, place := .presence, retries := 0, hostMark := false, phase := .queued } := by
  have hframes : ∀ f ∈ s.sendq.frames, f.body.target ≠ QBody.presence.target := fun f hf h =>
    hnone f hf (by rw [f.body.target_presence_iff.mp h]; rfl)
  have hqueued : s.sendq.queued .presence = false := by
    rw [← Bool.not_eq_true, SendQueue.queued_iff]
    simpa using hframes
  have hroom : s.sendq.hasRoom .presence = true :=
    (s.sendq.hasRoom_iff .presence).mpr (by simpa [SendQueue.inPlace] using hplace)
  have hwanted : s.presenceWanted = true := by
    rw [State.presenceWanted, htimer, hqueued, hlisten]
    rfl
  rw [State.askPresence, if_pos hwanted, State.request, SendQueue.request_enters _ _ _ hframes
    (fun f hf => mt f.body.target_presence_iff.mp (hawait f hf)) hroom]
  rfl

theorem State.anyMember_iff (s : State) : s.anyMember = true ↔ ∃ p : Station, s.table.members[p].isMember = true := by
  simp [State.anyMember, mem_all16]

theorem State.askFound_enters (htimer : s.timer.foundWait = .expired) (hst : s.ctl.station = .joining)
    (hnone : ∀ p : Station, s.table.members[p].isMember = false) (hroom : GeneralRoom s (.found s.ctl.proposed)) :
    s.askFound = queuedLast s (generalFrame (.found s.ctl.proposed)) := by
  have hmember : s.anyMember = false := by
    rw [← Bool.not_eq_true, State.anyMember_iff]
    rintro ⟨p, hp⟩
    exact absurd ((hnone p).symm.trans hp) nofun
  have hwanted : s.foundWanted = true := by
    rw [State.foundWanted, htimer, decide_eq_true hst, hmember, generalRoom_queued hroom]
    rfl
  rw [State.askFound, if_pos hwanted]
  exact State.request_general hroom

theorem State.ownAttempt_of_transfer {tr : Transfer} (h : s.table.members[s.self].transfer = some tr) :
    s.ownAttempt = tr.attempt := by
  have hown : s.ownTransfer = some tr := h
  rw [State.ownAttempt, hown]

theorem State.askJoin_enters {tr : Transfer} (htimer : s.timer.imageWait = .expired) (hst : s.ctl.station = .joining)
    (htr : s.table.members[s.self].transfer = some tr) (ha : tr.attempt.val < 2)
    (hroom : GeneralRoom s (.join (tr.attempt + 1) s.ctl.proposed)) :
    s.askJoin = queuedLast s (generalFrame (.join (tr.attempt + 1) s.ctl.proposed)) := by
  have hwanted : s.joinWanted = some (tr.attempt + 1) := by
    rw [State.joinWanted, State.ownAttempt_of_transfer htr, if_pos ⟨by rw [htimer]; rfl, hst, ha⟩]
    rfl
  rw [State.askJoin, hwanted]
  exact State.request_general hroom

theorem State.askSync_first (hst : s.ctl.station = .resync) (hex : s.ctl.exhausted = false)
    (hip : s.table.imagePending = none) (hroom : GeneralRoom s (.sync 0)) :
    s.askSync = queuedLast s (generalFrame (.sync 0)) := by
  have hwanted : s.syncWanted = some 0 := by
    rw [State.syncWanted, if_pos hst, hip, hex]
    rfl
  rw [State.askSync, hwanted]
  exact State.request_general hroom

theorem State.askSync_next {tr : Transfer} {ip : ImagePending} (htimer : s.timer.imageWait = .expired)
    (hst : s.ctl.station = .resync) (hip : s.table.imagePending = some ip)
    (htr : s.table.members[s.self].transfer = some tr) (ha : tr.attempt.val < 2)
    (hroom : GeneralRoom s (.sync (tr.attempt + 1))) :
    s.askSync = queuedLast s (generalFrame (.sync (tr.attempt + 1))) := by
  have hown : s.ownTransfer = some tr := htr
  have hwanted : s.syncWanted = some (tr.attempt + 1) := by
    rw [State.syncWanted, if_pos hst, hip, hown]
    exact if_pos ⟨by rw [htimer]; rfl, ha⟩
  rw [State.askSync, hwanted]
  exact State.request_general hroom

theorem State.askRenew_enters {k : Record} {g : Grant} (hk : k ∈ s.stack) (hheld : k.state = .held g true)
    (hroom : GeneralRoom s .renew) : s.askRenew = queuedLast s (generalFrame .renew) := by
  have hany : s.stack.any Record.renewalPending = true :=
    List.any_eq_true.mpr ⟨k, hk, by rw [Record.renewalPending, hheld]⟩
  have hwanted : s.renewWanted = true := by
    rw [State.renewWanted, hany, generalRoom_queued hroom]
    rfl
  rw [State.askRenew, if_pos hwanted]
  exact State.request_general hroom

theorem State.askLeave_enters (hst : s.ctl.station = .resync) (hex : s.ctl.exhausted = true)
    (hroom : GeneralRoom s .leave) : s.askLeave = queuedLast s (generalFrame .leave) := by
  have hwanted : s.leaveWanted = true := by
    rw [State.leaveWanted, decide_eq_true hst, hex, generalRoom_queued hroom]
    rfl
  rw [State.askLeave, if_pos hwanted]
  exact State.request_general hroom

/-- Only a pending record owes a frame. -/
theorem State.askOwedRelease_settled {k : Record} (hk : k.state.isPending = false) : s.askOwedRelease k = s := by
  unfold State.askOwedRelease State.releaseWanted
  cases h : k.state with
  | releasing g w => rw [h] at hk; cases hk
  | _ => rfl

theorem State.placeOwedWithdraw_settled {k : Record} (hk : k.state.isPending = false) : s.placeOwedWithdraw k = s := by
  have howes : k.owesWithdraw = false := decide_eq_false fun h => by rw [h] at hk; cases hk
  rw [State.placeOwedWithdraw, State.withdrawWanted, howes, if_neg (by simp)]

/-- Of a stack whose top alone is pending, the fold acts on the top alone. -/
theorem foldl_top {f : State → Record → State} {below : List Record} {k : Record}
    (hstack : s.stack = below ++ [k]) (hbelow : ∀ x ∈ below, x.state.isPending = false)
    (hf : ∀ x : Record, x.state.isPending = false → f s x = s) : s.stack.foldl f s = f s k := by
  rw [hstack, List.foldl_append, foldl_fixed fun x hx => hf x (hbelow x hx)]
  rfl

theorem State.askOwedRelease_enters {k : Record} {g : Grant} {ms : Nat} (hk : k.state = .releasing g true)
    (htimer : s.countdown k.resource s.self g = .running ms)
    (hst : s.ctl.station = .member ∨ s.ctl.station = .resync) (hroom : GeneralRoom s (.release k.resource g)) :
    s.askOwedRelease k = queuedLast s (generalFrame (.release k.resource g)) := by
  have hwanted : s.releaseWanted k = some (.release k.resource g) := by
    unfold State.releaseWanted
    rw [hk]
    exact if_pos ⟨by rw [htimer]; rfl, hst, by rw [generalRoom_queued hroom]; rfl⟩
  rw [State.askOwedRelease, hwanted]
  exact State.request_general hroom

theorem State.placeOwedWithdraw_enters {k : Record} (hk : k.state = .withdrawing .withdrawOwed)
    (hst : s.ctl.station = .member) (hslot : SlotFree s)
    (hframes : ∀ f ∈ s.sendq.frames, f.body ≠ .withdraw k.resource)
    (hawait : ∀ f, s.sendq.awaiting = some f → f.body ≠ .withdraw k.resource) :
    s.placeOwedWithdraw k = queuedLast s (hostFrame (.withdraw k.resource)) := by
  have hnone : ∀ f ∈ s.sendq.frames, f.body.target ≠ (QBody.withdraw k.resource).target := fun f hf =>
    mt (f.body.target_withdraw_iff _).mp (hframes f hf)
  have hqueued : s.sendq.queued (.withdraw k.resource) = false := by
    rw [← Bool.not_eq_true, SendQueue.queued_iff]
    simpa using hnone
  have hwanted : s.withdrawWanted k = some (.withdraw k.resource) :=
    if_pos ⟨decide_eq_true hk, hst, by rw [hqueued]; rfl⟩
  rw [State.placeOwedWithdraw, hwanted]
  dsimp only
  rw [State.request, SendQueue.request_enters _ _ _ hnone
    (fun f hf => mt (f.body.target_withdraw_iff _).mp (hawait f hf)) ((SendQueue.hasRoom_hostSlot s).mpr hslot)]
  rfl

end

/-! ## The rows of a tick -/

/-- A row that acts out of reset. -/
theorem exec_awake {c : Instr} {s : State} (hr : s.ctl.inReset = false) (f : State → State)
    (h : exec c s = .next (s.awake f)) : exec c s = .next (f s) := h.trans (congrArg _ (State.awake_of hr f))

/-- Settles O60: each row is a request or a run of requests, and its condition is the one the statement gives. -/
theorem requestsAreMadeAgain : Obligations.RequestsAreMadeAgain := by
  intro s hr
  refine ⟨fun c hc => ?adds, fun r h g hfilter hst hroom => ?lapse, fun p htimer hst hp hroom => ?evict,
    fun htimer hlisten hplace hnone hawait => ?presence, fun htimer hst hnone hroom => ?found,
    fun tr htimer hst htr ha hroom => ?join, fun hst hex hip hroom => ?sync,
    fun tr ip htimer hst hip htr ha hroom => ?again, fun k hk g hheld hroom => ?renew,
    fun below k g ms hstack hbelow hk htimer hst hroom => ?release, fun hst hex hroom => ?leave,
    fun below k hstack hbelow hk hst hslot hframes hawait => ?withdraw⟩
  case adds =>
    have adds {f : State → State} (hrow : exec c s = .next (s.awake f)) (hf : AddsFrames s (f s)) :
        ∃ added, exec c s = .next { s with sendq := { s.sendq with frames := s.sendq.frames ++ added } } ∧
          ∀ f ∈ added, f.retries = 0 ∧ f.phase = .queued := by
      obtain ⟨added, h, hadded⟩ := hf
      exact ⟨added, (exec_awake hr f hrow).trans (congrArg _ h), hadded⟩
    rcases hc with ⟨r, h, rfl⟩ | ⟨p, rfl⟩ | rfl | rfl | rfl | rfl | rfl | rfl | rfl | rfl
    · exact adds rfl (AddsFrames.foldl _ s fun s c => s.askLapse_addsFrames c)
    · exact adds rfl (s.askEvict_addsFrames p)
    · exact adds rfl s.askPresence_addsFrames
    · exact adds rfl s.askFound_addsFrames
    · exact adds rfl s.askJoin_addsFrames
    · exact adds rfl s.askSync_addsFrames
    · exact adds rfl s.askRenew_addsFrames
    · exact adds rfl (AddsFrames.foldl _ s fun s k => s.askOwedRelease_addsFrames k)
    · exact adds rfl s.askLeave_addsFrames
    · exact adds rfl (AddsFrames.foldl _ s fun s k => s.placeOwedWithdraw_addsFrames k)
  case lapse =>
    rw [exec_awake hr (fun s => s.askLapseAgain r h) rfl, State.askLapseAgain, hfilter]
    exact congrArg _ (State.askLapse_enters hst hroom)
  case evict => exact (exec_awake hr _ rfl).trans (congrArg _ (State.askEvict_enters htimer hst hp hroom))
  case presence =>
    exact (exec_awake hr _ rfl).trans (congrArg _ (State.askPresence_enters htimer hlisten hplace hnone hawait))
  case found => exact (exec_awake hr _ rfl).trans (congrArg _ (State.askFound_enters htimer hst hnone hroom))
  case join => exact (exec_awake hr _ rfl).trans (congrArg _ (State.askJoin_enters htimer hst htr ha hroom))
  case sync => exact (exec_awake hr _ rfl).trans (congrArg _ (State.askSync_first hst hex hip hroom))
  case again => exact (exec_awake hr _ rfl).trans (congrArg _ (State.askSync_next htimer hst hip htr ha hroom))
  case renew => exact (exec_awake hr _ rfl).trans (congrArg _ (State.askRenew_enters hk hheld hroom))
  case release =>
    rw [exec_awake hr (fun s => s.stack.foldl State.askOwedRelease s) rfl,
      foldl_top hstack hbelow fun x hx => State.askOwedRelease_settled hx]
    exact congrArg _ (State.askOwedRelease_enters hk htimer hst hroom)
  case leave => exact (exec_awake hr _ rfl).trans (congrArg _ (State.askLeave_enters hst hex hroom))
  case withdraw =>
    rw [exec_awake hr (fun s => s.stack.foldl State.placeOwedWithdraw s) rfl,
      foldl_top hstack hbelow fun x hx => State.placeOwedWithdraw_settled hx]
    exact congrArg _ (State.placeOwedWithdraw_enters hk hst hslot hframes hawait)

/-! ## The expiries of the presence timer, the silence timers and the waits (R48, R57, R60 to R67) -/

section
variable {s : State}

theorem State.isDue_iff (s : State) (t : Timer) : s.isDue t = true ↔ t = .running 0 ∧ s.line.state ≠ some .blocked := by
  simp [State.isDue, Timer.due, State.frozen]

theorem State.timeParams_joining (hst : s.ctl.station = .joining) : s.timeParams = s.ctl.proposed := if_pos hst

theorem State.foundRank_eq (s : State) : s.foundRank =
    ((List.finRange 16).filter fun q => decide (q < s.self) && s.table.members[q].isJoining).length := by
  rw [State.foundRank, all16_eq_finRange]

/-- What an expiry row does where its timer is not due: nothing. -/
theorem State.expire_not_due (hline : s.line.state = some .blocked) (t : Timer) : s.isDue t = false := by
  rw [← Bool.not_eq_true, State.isDue_iff]
  exact fun h => h.2 hline

theorem State.not_isDue {t : Timer} (h : t ≠ .running 0) : s.isDue t = false := by
  rw [← Bool.not_eq_true, State.isDue_iff]
  exact fun h' => h h'.1

theorem State.expirePresence_not_due (h : s.isDue s.timer.presence = false) : s.expirePresence = s :=
  if_neg (by simp [h])

theorem State.expireSilence_not_due {p : Station} (h : s.isDue s.timer.silence[p] = false) : s.expireSilence p = s :=
  if_neg (by simpa using h)

theorem State.expireJoinWait_not_due (h : s.isDue s.timer.joinWait = false) : s.expireJoinWait = s :=
  if_neg (by simp [h])

theorem State.expireFoundWait_not_due (h : s.isDue s.timer.foundWait = false) : s.expireFoundWait = s :=
  if_neg (by simp [h])

theorem State.expireImageWait_not_due (h : s.isDue s.timer.imageWait = false) : s.expireImageWait = s :=
  if_neg (by simp [h])

theorem State.gateCondition_of_not_member (hst : s.ctl.station ≠ .member) (n : Fin 8) : s.gateCondition n = false := by
  rw [State.gateCondition, decide_eq_false hst, Bool.false_and]

/-- The found wait with its rank where no source is recorded (R62, R63). -/
theorem State.expireJoinWait_no_source (hdue : s.isDue s.timer.joinWait = true) (hst : s.ctl.station = .joining)
    (hsrc : ∀ tr, s.table.members[s.self].transfer = some tr → tr.source = none) :
    s.expireJoinWait = { s with timer := { s.timer with
      joinWait := .expired, foundRank := s.foundRank,
      foundWait := .running (s.ctl.proposed.joinWaitMs * (1 + s.foundRank)) } } := by
  have hnone : s.ownSource = none := by
    unfold State.ownSource State.ownTransfer
    cases h : s.ownRecord.transfer with
    | none => rfl
    | some tr => exact hsrc tr h
  rw [State.expireJoinWait, if_pos hdue, if_pos hst, hnone, Option.isNone_none, if_pos rfl, State.timeParams_joining hst]
  rfl

/-- The image wait where a source is recorded (R62). -/
theorem State.expireJoinWait_source (hdue : s.isDue s.timer.joinWait = true) (hst : s.ctl.station = .joining)
    {tr : Transfer} {q : Station} (htr : s.table.members[s.self].transfer = some tr) (hq : tr.source = some q) :
    s.expireJoinWait = { s with timer := { s.timer with
      joinWait := .expired, imageWait := .running s.ctl.proposed.imageWaitMs } } := by
  have hsome : s.ownSource = some q := by
    have hown : s.ownTransfer = some tr := htr
    rw [State.ownSource, hown]
    exact hq
  rw [State.expireJoinWait, if_pos hdue, if_pos hst, hsome, if_neg (by simp), State.timeParams_joining hst]
  rfl

theorem State.expireImageWait_joining (hdue : s.isDue s.timer.imageWait = true) (hst : s.ctl.station = .joining) :
    s.expireImageWait =
      if s.ownAttempt.val < Config.lastAttempt then (s.withTimer { s.timer with imageWait := .expired }).askJoin
      else (s.withTimer { s.timer with imageWait := .expired }).joinExhausted := by
  rw [State.expireImageWait, if_pos hdue]
  dsimp only
  rw [hst]

theorem State.expireImageWait_resync (hdue : s.isDue s.timer.imageWait = true) (hst : s.ctl.station = .resync) :
    s.expireImageWait =
      if s.ownAttempt.val < Config.lastAttempt then (s.withTimer { s.timer with imageWait := .expired }).askSync
      else ((s.withTimer { s.timer with imageWait := .expired }).exhaust).askLeave := by
  rw [State.expireImageWait, if_pos hdue]
  dsimp only
  rw [hst]

/-- A JOINING station that is past its last attempt is READY and clear, its gates as they stand (R201). -/
theorem State.returnToReady_of_joining (hst : s.ctl.station = .joining) (hg : GateLaw s) :
    s.returnToReady = s.clearToReady := by
  refine State.evalGates_of_lawful _ _ fun n => ?_
  have hclosed : s.gateCondition n = false := State.gateCondition_of_not_member (by rw [hst]; nofun) n
  have hclosed' : s.clearToReady.gateCondition n = false := State.gateCondition_of_not_member (fun h => by cases h) n
  rw [hclosed', ← hclosed]
  exact (hg n).1

theorem State.exhaust_of_fresh {ip : ImagePending} (hex : s.ctl.exhausted = false)
    (hip : s.table.imagePending = some ip) : s.exhaust = { s with
      ctl := { s.ctl with exhausted := true },
      table := { s.table with imagePending := some { ip with spoiled := true } } } := by
  rw [State.exhaust, hex, if_neg (by nofun), hip]
  rfl

end

/-- Settles O59: the row of a timer that is not due does nothing, and that of a timer that is due asks as its row made
again at a tick does. -/
theorem otherTimersExpire : Obligations.OtherTimersExpire := by
  intro s hr
  have unchanged {c : Instr} {f : State → State} (hrow : exec c s = .next (s.awake f)) (hf : f s = s) :
      exec c s = .next s := (exec_awake hr f hrow).trans (congrArg _ hf)
  refine ⟨fun hline => ?blocked,
    fun h => unchanged rfl (State.expirePresence_not_due (State.not_isDue h)),
    fun p h => unchanged rfl (State.expireSilence_not_due (State.not_isDue h)),
    fun h => unchanged rfl (State.expireJoinWait_not_due (State.not_isDue h)),
    fun h => unchanged rfl (State.expireFoundWait_not_due (State.not_isDue h)),
    fun h => unchanged rfl (State.expireImageWait_not_due (State.not_isDue h)), fun hline => ?running⟩
  case blocked =>
    have frozen := s.expire_not_due hline
    exact ⟨unchanged rfl (State.expirePresence_not_due (frozen _)),
      fun p => unchanged rfl (State.expireSilence_not_due (frozen _)),
      unchanged rfl (State.expireJoinWait_not_due (frozen _)),
      unchanged rfl (State.expireFoundWait_not_due (frozen _)),
      unchanged rfl (State.expireImageWait_not_due (frozen _))⟩
  case running =>
    have due {t : Timer} (h : t = .running 0) : s.isDue t = true := (s.isDue_iff t).mpr ⟨h, hline⟩
    refine ⟨fun htimer hlisten hplace hnone hawait => ?presence, fun p htimer hst hp hroom => ?silence,
      fun htimer hst => ⟨fun hsrc => ?noSource, fun tr q htr hq => ?source⟩,
      fun htimer hst => ⟨fun hnone hroom => ?found, fun hsome => ?member⟩, fun tr htimer htr => ?image⟩
    case presence =>
      rw [exec_awake hr State.expirePresence rfl, State.expirePresence, if_pos (due htimer)]
      exact congrArg _ (State.askPresence_enters (s := s.withTimer { s.timer with presence := .expired }) rfl hlisten
        hplace hnone hawait)
    case silence =>
      rw [exec_awake hr (fun s => s.expireSilence p) rfl, State.expireSilence, if_pos (due htimer)]
      exact congrArg _ (State.askEvict_enters
        (s := s.withTimer { s.timer with silence := s.timer.silence.set p .expired }) (by simp) hst hp hroom)
    case noSource =>
      rw [exec_awake hr State.expireJoinWait rfl, State.expireJoinWait_no_source (due htimer) hst hsrc,
        State.foundRank_eq]
    case source =>
      exact (exec_awake hr _ rfl).trans (congrArg _ (State.expireJoinWait_source (due htimer) hst htr hq))
    case found =>
      rw [exec_awake hr State.expireFoundWait rfl, State.expireFoundWait, if_pos (due htimer)]
      exact congrArg _ (State.askFound_enters (s := s.withTimer { s.timer with foundWait := .expired }) rfl hst hnone hroom)
    case member =>
      rw [exec_awake hr State.expireFoundWait rfl, State.expireFoundWait, if_pos (due htimer)]
      have hmember : (s.withTimer { s.timer with foundWait := .expired }).anyMember = true :=
        (State.anyMember_iff _).mpr hsome
      rw [State.askFound, State.foundWanted, hmember, if_neg (by simp)]
      rfl
    case image =>
      have hattempt := State.ownAttempt_of_transfer htr
      have hlast : Config.lastAttempt = 2 := rfl
      refine ⟨fun hst ha hroom => ?_, fun hst ha hg => ?_, fun ip hst hip => ⟨fun ha hroom => ?_, fun ha hex hroom => ?_⟩⟩
      · rw [exec_awake hr _ rfl, State.expireImageWait_joining (due htimer) hst, hattempt, hlast, if_pos ha]
        exact congrArg _ (State.askJoin_enters (s := s.withTimer { s.timer with imageWait := .expired }) rfl hst htr ha hroom)
      · have hreturn := State.returnToReady_of_joining (s := s.withTimer { s.timer with imageWait := .expired }) hst hg
        rw [exec_awake hr _ rfl, State.expireImageWait_joining (due htimer) hst, hattempt, hlast, if_neg (by omega),
          State.joinExhausted, hreturn]
        refine ⟨_, rfl, ?_⟩
        have hport := State.raise_port_congr (s := (s.withTimer { s.timer with imageWait := .expired }).clearToReady)
          (t := s) rfl { kind := .joinFailed, subject := 0, grant := 0, detail := 0 }
        rw [State.raise_eq]
        exact ⟨rfl, rfl, rfl, rfl, rfl, rfl, rfl, hport⟩
      · rw [exec_awake hr _ rfl, State.expireImageWait_resync (due htimer) hst, hattempt, hlast, if_pos ha]
        exact congrArg _
          (State.askSync_next (s := s.withTimer { s.timer with imageWait := .expired }) rfl hst hip htr ha hroom)
      · rw [exec_awake hr _ rfl, State.expireImageWait_resync (due htimer) hst, hattempt, hlast, if_neg (by omega),
          State.exhaust_of_fresh (s := s.withTimer { s.timer with imageWait := .expired }) hex hip]
        exact congrArg _ (State.askLeave_enters hst rfl hroom)

/-! ## The expiry of a hold countdown (R48, R53, R54, R114) -/

section
variable {s : State} {r : Resource} {h : Station} {g : Grant} {before after : List Countdown}

theorem State.dueCountdown_none (hnone : ∀ c ∈ s.timer.countdowns, c.resource = r → c.holder = h → c.timer ≠ .running 0) :
    s.dueCountdown r h = none := by
  rw [State.dueCountdown, List.find?_eq_none]
  intro c hc
  simpa [Timer.due] using hnone c hc

variable (hcs : s.timer.countdowns = before ++ { resource := r, holder := h, grant := g, timer := .running 0 } :: after)
  (hother : ∀ x ∈ before ++ after, ¬(x.resource = r ∧ x.holder = h))
include hcs hother

theorem State.dueCountdown_only :
    s.dueCountdown r h = some { resource := r, holder := h, grant := g, timer := .running 0 } := by
  have hbefore : before.find? (fun c => decide (c.resource = r) && decide (c.holder = h) && c.timer.due) = none :=
    List.find?_eq_none.mpr fun x hx => by
      have := hother x (by simp [hx])
      simp only [Bool.and_eq_true, decide_eq_true_eq]
      exact fun hx => this hx.1
  rw [State.dueCountdown, hcs, List.find?_append, hbefore, List.find?_cons_of_pos (by simp [Timer.due])]
  rfl

/-- The only countdown of the hold stands last, expired. -/
theorem State.setCountdown_only : s.setCountdown r h g .expired = { s with timer := { s.timer with
    countdowns := before ++ after ++ [{ resource := r, holder := h, grant := g, timer := .expired }] } } := by
  have hkeep (l : List Countdown) (hl : ∀ x ∈ l, x ∈ before ++ after) : l.filter (fun c => !c.isOf r h g) = l :=
    List.filter_eq_self.mpr fun x hx => by
      have := hother x (hl x hx)
      simp only [Countdown.isOf, Bool.not_eq_true', Bool.and_eq_false_iff, decide_eq_false_iff_not]
      tauto
  rw [State.setCountdown, hcs, List.filter_append, List.filter_cons_of_neg (by simp [Countdown.isOf]),
    hkeep before fun x hx => by simp [hx], hkeep after fun x hx => by simp [hx]]
  rfl

end

/-- A countdown that expires closes the gate of its HELD record (R53, R98, R114). -/
theorem State.onCountdownExpired_held {s : State} {below above : List Record} {k : Record} {g : Grant} {p : Bool}
    (hstack : OnlyRecord s below k above) (hheld : k.state = .held g p) : s.onCountdownExpired k.resource =
      (s.withStack (below ++ { k with state := .expired g } :: above)).evalResource k.resource 0 g := by
  rw [State.onCountdownExpired, State.recordOf_only hstack]
  simp only [hheld, State.setRecord_only hstack]

theorem State.eq_of_blocks {s t : State} (hctl : t.ctl = s.ctl) (htable : t.table = s.table) (htimer : t.timer = s.timer)
    (hsendq : t.sendq = s.sendq) (hstack : t.stack = s.stack) (hgate : t.gate = s.gate) (hline : t.line = s.line)
    (hport : t.port = s.port) (hpending : t.pending = s.pending) : t = s := by
  cases s
  cases t
  dsimp only at *
  subst_vars
  rfl

/-- What the evaluation of a resource changes: the gates and the host port. -/
theorem State.evalResource_blocks (s : State) (r : Resource) (d : BitVec 4) (g : Grant) :
    s.evalResource r d g = { s with gate := (s.evalResource r d g).gate, port := (s.evalResource r d g).port } := by
  obtain ⟨hctl, htable, htimer, hsendq, hstack, -, hline, -, -, -, -, hpending⟩ := s.evalResource_frame r d g
  exact State.eq_of_blocks hctl htable htimer hsendq hstack rfl hline rfl hpending

/-- Settles O58: the countdown stands expired, then the claim stack unit and the request act. -/
theorem holdCountdownExpires : Obligations.HoldCountdownExpires := by
  refine ⟨fun s r h hr hnone => ?_, fun s r h g before after hr hcs hother => ?_⟩
  · rw [exec_awake hr (fun s => s.expireCountdown r h) rfl, State.expireCountdown, State.dueCountdown_none hnone]
  · rw [exec_awake hr (fun s => s.expireCountdown r h) rfl, State.expireCountdown, State.dueCountdown_only hcs hother]
    dsimp only [State.countdownExpires]
    rw [State.setCountdown_only hcs hother]
    generalize hu : ({ s with timer := { s.timer with countdowns :=
      before ++ after ++ [{ resource := r, holder := h, grant := g, timer := .expired }] } } : State) = u
    have huctl : u.ctl = s.ctl := by rw [← hu]
    have huself : u.self = s.self := congrArg (·.number) huctl
    have husendq : u.sendq = s.sendq := by rw [← hu]
    refine ⟨fun hh hst => ?_, fun hh hst hroom => ?_, fun hh hst hroom below k above p hstack hk hheld => ?_⟩
    · rw [if_neg fun h' => hh h'.1]
      exact congrArg _ (State.askLapse_unwanted (huself ▸ hh) (huctl ▸ hst))
    · rw [if_neg fun h' => hh h'.1]
      exact congrArg _ (State.askLapse_enters (by rw [huself, if_neg hh, huctl, hst])
        (generalRoom_congr hroom husendq))
    · subst hk
      have hstack' : OnlyRecord u below k above := by rw [← hu]; exact hstack
      rw [if_pos ⟨hh, hst⟩, State.onCountdownExpired_held hstack' hheld]
      generalize hv : u.withStack (below ++ { k with state := .expired g } :: above) = v
      have hvctl : v.ctl = s.ctl := by rw [← hv]; exact huctl
      have hvself : v.self = s.self := congrArg (·.number) hvctl
      obtain ⟨ectl, -, -, esendq, -⟩ := v.evalResource_frame k.resource 0 g
      have hask := State.askLapse_enters (s := v.evalResource k.resource 0 g) (r := k.resource) (h := h) (g := g)
        (by rw [State.self, ectl, hvctl, ← State.self, if_pos hh]; exact hst)
        (generalRoom_congr hroom (esendq.trans (by rw [← hv]; exact husendq)))
      have hvrec : v.recordOf k.resource = some { k with state := .expired g } :=
        State.recordOf_only (k := { k with state := .expired g }) (below := below) (above := above)
          ⟨by rw [← hv]; rfl, hstack'.2⟩
      have hvgate : v.gate = s.gate := by rw [← hv, ← hu]; rfl
      have hvport : v.port = s.port := by rw [← hv, ← hu]; rfl
      refine ⟨(v.evalResource k.resource 0 g).gate, (v.evalResource k.resource 0 g).port, ?_, fun n hn => ?_,
        fun h8 => ?_, fun n hn => ?_⟩
      · rw [hask, v.evalResource_blocks k.resource 0 g, ← hv, ← hu]
        rfl
      · rw [v.evalResource_gate_other hn, hvgate]
      · rw [State.evalResource_no_channel h8, hvport]
      · obtain ⟨hopen, hgin, -, hlow, hhigh⟩ := State.evalResource_closes
          (State.gateCondition_of_not_held (n := n) (hn ▸ hvrec) (by simp)) 0 g
        rw [hn, hvgate] at hlow hhigh hgin
        rw [hn] at hopen
        exact ⟨hopen, hgin, fun h => (hlow h).trans (State.raise_port_congr hvport _),
          fun h => (hhigh h).trans hvport⟩

end Sys2Proof.Machine

/-! PROOFS. The end of an application: the silence timers, the transfers that stand, the staleness check, and the
requests made together; and what the entry effects of a notice leave alone (R6, R24, R27, R46, R59, R72, R125, R134,
R135). -/

namespace Sys2Proof.Machine

open Sys2Proof.Safety

/-! ## Reports and frames are added only (R125, R186) -/

/-- Reports are added at the end of the report queue, and requests at the end of the send queue. -/
structure Grows (s t : State) : Prop where
  reports : s.port.reports <+: t.port.reports
  awaiting : t.sendq.awaiting = s.sendq.awaiting
  frames : ∃ added, t.sendq.frames = s.sendq.frames ++ added ∧ ∀ f ∈ added, f.retries = 0 ∧ f.phase = .queued

theorem Grows.of_same {s t : State} (hport : t.port = s.port) (hsendq : t.sendq = s.sendq) : Grows s t :=
  ⟨by rw [hport], by rw [hsendq], [], by simp [hsendq], by simp⟩

theorem Grows.refl (s : State) : Grows s s := .of_same rfl rfl

theorem Grows.trans {s t u : State} (h : Grows s t) (h' : Grows t u) : Grows s u := by
  obtain ⟨xs, hxs, hx⟩ := h.frames
  obtain ⟨ys, hys, hy⟩ := h'.frames
  refine ⟨h.reports.trans h'.reports, h'.awaiting.trans h.awaiting, xs ++ ys, by rw [hys, hxs, List.append_assoc], ?_⟩
  intro f hf
  rcases List.mem_append.mp hf with hf | hf
  · exact hx f hf
  · exact hy f hf

theorem Grows.foldl {α : Type} {f : State → α → State} (l : List α) (s : State) (h : ∀ s a, Grows s (f s a)) :
    Grows s (l.foldl f s) := foldl_keeps Grows.refl Grows.trans h l s

theorem AddsFrames.grows {s t : State} (h : AddsFrames s t) : Grows s t := by
  obtain ⟨added, rfl, hadded⟩ := h
  exact ⟨List.prefix_rfl, rfl, added, rfl, hadded⟩

section
variable (s : State)

theorem State.raise_grows (r : Report) : Grows s (s.raise r) :=
  ⟨s.reports_prefix_raise r, by simp, [], by simp, by simp⟩

theorem State.report_grows (k : ReportKind) (r : Resource) (g : Grant) (d : BitVec 4) : Grows s (s.report k r g d) :=
  s.raise_grows _

theorem State.reportPeer_grows (k : ReportKind) (p : Station) (d : BitVec 4) : Grows s (s.reportPeer k p d) := by
  unfold State.reportPeer
  split
  · exact s.raise_grows _
  · exact .refl s

theorem State.evalResource_grows (r : Resource) (d : BitVec 4) (g : Grant) : Grows s (s.evalResource r d g) := by
  unfold State.evalResource
  split
  · exact ⟨s.reports_prefix_evalChannel _ d g, by simp, [], by simp, by simp⟩
  · exact .refl s

theorem State.evalGates_grows (d : BitVec 4) : Grows s (s.evalGates d) :=
  ⟨s.reports_prefix_evalGates d, by simp, [], by simp, by simp⟩

theorem State.setRecord_grows (r : Resource) (st : RecordState) : Grows s (s.setRecord r st) := .of_same rfl rfl

theorem State.popRecord_grows (r : Resource) : Grows s (s.popRecord r) := .of_same rfl rfl

theorem State.setEntry_grows (r : Resource) (e : Entry) : Grows s (s.setEntry r e) := .of_same rfl rfl

theorem State.loadCountdown_grows (r : Resource) (h : Station) (g : Grant) : Grows s (s.loadCountdown r h g) :=
  .of_same rfl rfl

theorem State.setAndReport_grows (r : Resource) (st : RecordState) (k : ReportKind) (g : Grant) (d : BitVec 4) :
    Grows s ((s.setRecord r st).report k r g d) := (s.setRecord_grows r st).trans (State.report_grows ..)

theorem State.popAndReport_grows (r : Resource) (k : ReportKind) (g : Grant) (d : BitVec 4) :
    Grows s ((s.popRecord r).report k r g d) := (s.popRecord_grows r).trans (State.report_grows ..)

theorem State.onGranted_grows (c : Bool) (r : Resource) (m : Mode) (g : Grant) : Grows s (s.onGranted c r m g) := by
  have granted : Grows s (((s.setRecord r (.held g false)).report .granted r g m.detail).evalResource r 2 g) :=
    (s.setAndReport_grows ..).trans (State.evalResource_grows ..)
  unfold State.onGranted
  split
  · exact .refl s
  · split
    · exact granted
    · exact granted
    · exact s.setRecord_grows ..
    · exact s.setRecord_grows ..
    · exact .refl s

theorem State.onQueued_grows (r : Resource) : Grows s (s.onQueued r) := by
  unfold State.onQueued
  split
  · exact .refl s
  · split
    · exact s.setRecord_grows ..
    · exact (s.setRecord_grows ..).trans (State.request_addsFrames ..).grows
    · exact .refl s

theorem State.onRefused_grows (r : Resource) (c : BitVec 4) : Grows s (s.onRefused r c) := by
  unfold State.onRefused
  split
  · exact .refl s
  · split
    · exact s.popAndReport_grows ..
    · exact s.popAndReport_grows ..
    · exact .refl s

theorem State.onWaiterRemoved_grows (r : Resource) : Grows s (s.onWaiterRemoved r) := by
  unfold State.onWaiterRemoved
  split
  · exact .refl s
  · split
    · exact s.popAndReport_grows ..
    · exact s.popAndReport_grows ..
    · exact .refl s

theorem State.onHoldRemoved_grows (r : Resource) (g : Grant) (b : Bool) : Grows s (s.onHoldRemoved r g b) := by
  unfold State.onHoldRemoved
  split
  · exact .refl s
  · split
    · split
      · exact (s.setAndReport_grows ..).trans (State.evalResource_grows ..)
      · exact .refl s
    · exact s.setAndReport_grows ..
    · split
      · exact s.popAndReport_grows ..
      · exact .refl s
    · exact .refl s

theorem State.onRenewed_grows (r : Resource) (g : Grant) : Grows s (s.onRenewed r g) := by
  unfold State.onRenewed
  split
  · exact .refl s
  · split
    · split
      · exact (s.setAndReport_grows ..).trans (State.evalResource_grows ..)
      · exact .refl s
    · exact .refl s

theorem State.holdGranted_grows (c : Bool) (r : Resource) (h : Hold) : Grows s (s.holdGranted c r h) := by
  unfold State.holdGranted
  split
  · exact (s.loadCountdown_grows ..).trans (State.onGranted_grows ..)
  · exact s.loadCountdown_grows ..

theorem State.promoteAt_grows (r : Resource) : Grows s (s.promoteAt r) :=
  (s.setEntry_grows ..).trans (Grows.foldl _ _ fun s h => s.holdGranted_grows false r h)

theorem State.dropHold_grows (r : Resource) (h : Station) (g : Grant) (b : Bool) : Grows s (s.dropHold r h g b) := by
  have hfirst : Grows s ((s.setEntry r ((s.entry r).removeHold h g)).discardCountdown r h g) := .of_same rfl rfl
  unfold State.dropHold
  dsimp only
  split
  · exact hfirst.trans (State.onHoldRemoved_grows ..)
  · exact hfirst

theorem State.dropWaiter_grows (r : Resource) (w : Station) : Grows s (s.dropWaiter r w) := by
  unfold State.dropWaiter
  dsimp only
  split
  · exact (s.setEntry_grows ..).trans (State.onWaiterRemoved_grows ..)
  · exact s.setEntry_grows ..

theorem State.purgeAt_grows (p : Station) (r : Resource) : Grows s (s.purgeAt p r) := by
  unfold State.purgeAt
  split
  · exact .refl s
  · split
    · exact .refl s
    · exact (s.dropHold_grows ..).trans (State.promoteAt_grows ..)
    · exact (s.dropWaiter_grows ..).trans (State.promoteAt_grows ..)
    · exact ((s.dropHold_grows ..).trans (State.dropWaiter_grows ..)).trans (State.promoteAt_grows ..)

theorem State.purge_grows (p : Station) : Grows s (s.purge p) := Grows.foldl _ s fun s r => s.purgeAt_grows p r

theorem State.claimStale_grows (u : Station) (b : Byte) : Grows s (s.claimStale u b) := by
  unfold State.claimStale
  split
  · split
    · exact s.onRefused_grows ..
    · exact .refl s
  · exact .refl s

theorem State.claimDecided_grows (u : Station) (r : Resource) (m : Mode) (p : Policy) :
    Grows s (s.claimDecided u r m p) := by
  unfold State.claimDecided
  split
  · exact (s.setEntry_grows ..).trans (State.holdGranted_grows ..)
  · split
    · dsimp only
      split
      · exact (s.setEntry_grows ..).trans (State.onQueued_grows ..)
      · exact s.setEntry_grows ..
    · split
      · exact s.onRefused_grows ..
      · exact .refl s

theorem State.claimEffects_grows (u : Station) (b : Byte) (m p : BitVec 4) : Grows s (s.claimEffects u b m p) := by
  unfold State.claimEffects
  split
  · split
    · exact s.claimDecided_grows ..
    · exact s.claimStale_grows ..
  · exact s.claimStale_grows ..

theorem State.holdEffects_grows (b : Byte) (h : Station) (g : Grant) (t : Bool) : Grows s (s.holdEffects b h g t) := by
  unfold State.holdEffects
  split
  · split
    · exact (s.dropHold_grows ..).trans (State.promoteAt_grows ..)
    · exact .refl s
  · exact .refl s

theorem State.lapseEffects_grows (u : Station) (b h : Byte) (g : Grant) : Grows s (s.lapseEffects u b h g) := by
  unfold State.lapseEffects
  split
  · exact s.holdEffects_grows ..
  · exact .refl s

theorem State.withdrawEffects_grows (u : Station) (b : Byte) : Grows s (s.withdrawEffects u b) := by
  unfold State.withdrawEffects
  split
  · split
    · exact (s.dropWaiter_grows ..).trans (State.promoteAt_grows ..)
    · exact .refl s
  · exact .refl s

theorem State.renewItem_grows (u : Station) (x : Byte × Grant) : Grows s (s.renewItem u x) := by
  unfold State.renewItem
  split
  · split
    · split
      · exact (s.loadCountdown_grows ..).trans (State.onRenewed_grows ..)
      · exact s.loadCountdown_grows ..
    · exact .refl s
  · exact .refl s

/-! ## The requests made together (R125) -/

theorem State.askExpired_addsFrames : AddsFrames s s.askExpired :=
  (AddsFrames.foldl _ s fun s p => s.askEvict_addsFrames p).trans
    (AddsFrames.foldl _ _ fun s c => s.askLapse_addsFrames c)

theorem State.askExpiredAfter_addsFrames (s0 : State) : AddsFrames s (State.askExpiredAfter s0 s) := by
  unfold State.askExpiredAfter
  split
  · exact AddsFrames.foldl _ s fun s c => s.askLapse_addsFrames c
  · exact s.askExpired_addsFrames

theorem State.placeImage_addsFrames : AddsFrames s s.placeImage := by
  unfold State.placeImage
  split
  · exact .refl s
  · exact s.request_addsFrames ..

theorem State.askNewRelease_addsFrames (s0 : State) (k : Record) : AddsFrames s (State.askNewRelease s0 s k) := by
  unfold State.askNewRelease
  split
  · split
    · exact .refl s
    · exact s.request_addsFrames ..
  · exact .refl s

theorem State.askNewLeave_addsFrames (s0 : State) : AddsFrames s (State.askNewLeave s0 s) := by
  unfold State.askNewLeave
  split
  · exact s.request_addsFrames ..
  · exact .refl s

theorem State.askNewRenew_addsFrames (s0 : State) : AddsFrames s (State.askNewRenew s0 s) := by
  unfold State.askNewRenew
  split
  · exact s.request_addsFrames ..
  · exact .refl s

theorem State.askNewSync_addsFrames (s0 : State) : AddsFrames s (State.askNewSync s0 s) := by
  unfold State.askNewSync
  split
  · split
    · exact s.request_addsFrames ..
    · exact .refl s
  · exact .refl s

end

/-- The owed RELEASEs of the records that an application has made RELEASING. -/
def State.askNewReleases (s0 s : State) : State := s.stack.foldl (fun s k => State.askNewRelease s0 s k) s

theorem State.askNewReleases_addsFrames (s0 s : State) : AddsFrames s (State.askNewReleases s0 s) :=
  AddsFrames.foldl _ s fun s k => s.askNewRelease_addsFrames s0 k

theorem State.askAfter_eq (s0 s : State) : State.askAfter s0 s =
    State.askNewSync s0 (State.askNewRenew s0 (State.askNewLeave s0
      (State.askNewReleases s0 (State.askExpiredAfter s0 s.placeImage)))) := rfl

theorem State.askAfter_addsFrames (s0 s : State) : AddsFrames s (State.askAfter s0 s) :=
  s.placeImage_addsFrames.trans <| (State.askExpiredAfter_addsFrames _ s0).trans <|
    (State.askNewReleases_addsFrames s0 _).trans <| (State.askNewLeave_addsFrames _ s0).trans <|
      (State.askNewRenew_addsFrames _ s0).trans <| State.askNewSync_addsFrames _ s0

/-! ## What an application ends with (R27, R46, R59, R72, R134, R135) -/

/-- The tests that come before the requests: silence timers, transfers, staleness. -/
def State.tested (s0 s : State) : State := ((State.updateSilence s0 s).testTransfers).staleCheck

@[simp] theorem State.tested_frame (s0 s : State) :
    (State.tested s0 s).ctl = s.ctl ∧ (State.tested s0 s).table.entries = s.table.entries ∧
    (State.tested s0 s).table.members = s.table.members ∧ (State.tested s0 s).table.bank = s.table.bank ∧
    (State.tested s0 s).table.imagePending = s.table.imagePending ∧
    (State.tested s0 s).timer.countdowns = s.timer.countdowns ∧
    (State.tested s0 s).timer.imageWait = s.timer.imageWait ∧
    (State.tested s0 s).sendq.awaiting = s.sendq.awaiting ∧ (State.tested s0 s).stack = s.stack ∧
    (State.tested s0 s).gate = s.gate ∧ (State.tested s0 s).line = s.line ∧ (State.tested s0 s).port = s.port ∧
    (State.tested s0 s).pending = s.pending := by
  unfold State.tested State.staleCheck SendQueue.removeQueued
  simp

section
variable {s0 s : State}

theorem State.finish_eq (hl : s.listening = true) :
    State.finish s0 s = (State.askAfter s0 (State.tested s0 s)).evalGates 2 := if_pos hl

theorem State.finish_sendq (hl : s.listening = true) :
    (State.finish s0 s).sendq = (State.askAfter s0 (State.tested s0 s)).sendq := by
  rw [State.finish_eq hl]
  simp

theorem State.finish_transfers (hl : s.listening = true) : (State.finish s0 s).table.transfers =
    s.table.transfers.filter fun i =>
      decide (s.table.members[i.target].transfer = some { attempt := i.attempt, source := some s.self }) := by
  rw [State.finish_eq hl]
  simp only [State.evalGates_frame, State.askAfter_frame]
  rfl

/-- The silence timers after an application (R46, R59). -/
theorem State.finish_silence (hl : s.listening = true) (p : Station) : (State.finish s0 s).timer.silence[p] =
    if !s.ctl.station.inBank || decide (p = s.self) || s.table.members[p].isAbsent then .stopped
    else if !s0.ctl.station.inBank || decide (s0.table.members[p].isMember ≠ s.table.members[p].isMember) ||
        decide (s0.table.members[p].isJoining ≠ s.table.members[p].isJoining) then
      .running s.timeParams.silenceLimitMs
    else s.timer.silence[p] := by
  rw [State.finish_eq hl]
  simp [State.tested, State.staleCheck, State.testTransfers, State.updateSilence]

theorem State.finish_gate (hl : s.listening = true) (n : Fin 8) : (State.finish s0 s).gate[n] =
    { opened := s.gateCondition n, ginLow := s.gate[n].ginLow,
      armed := if s.gateCondition n = s.gate[n].opened then s.gate[n].armed else false } := by
  rw [State.finish_eq hl, State.evalGates_gate,
    State.gateCondition_congr (t := s) (by simp) (by simp) (by simp) (by simp)]
  simp

theorem State.finish_quiet (hl : s.listening = false) : State.finish s0 s = s := if_neg (by simp [hl])

end

/-- A frame that stays through the tests stood before, and is not stale if it is queued (R134, R135). -/
theorem State.mem_tested {s0 s : State} {f : QFrame} : f ∈ (State.tested s0 s).sendq.frames ↔
    f ∈ s.sendq.frames ∧ (f.phase = .queued → ¬Stale (State.tested s0 s) f.body) := by
  have hstale : ((State.updateSilence s0 s).testTransfers.tableStale f.body ||
      (State.updateSilence s0 s).testTransfers.stateStale f.body) = true ↔ Stale (State.tested s0 s) f.body :=
    stale_iff _ _
  rw [← hstale, ← f.isQueued_iff]
  simp only [State.tested, State.staleCheck, SendQueue.removeQueued, State.withSendq_sendq, List.mem_filter,
    State.testTransfers_frame, State.updateSilence_frame]
  cases f.isQueued <;> simp

theorem State.tested_sublist (s0 s : State) : (State.tested s0 s).sendq.frames.Sublist s.sendq.frames := by
  simp only [State.tested, State.staleCheck, SendQueue.removeQueued, State.withSendq_sendq, State.testTransfers_frame,
    State.updateSilence_frame]
  exact List.filter_sublist

/-- Fewer frames leave no less room (R124, R125). -/
theorem generalRoom_of_sublist {s t : State} {b : QBody} (h : GeneralRoom s b)
    (hf : t.sendq.frames.Sublist s.sendq.frames)
    (ha : ∀ f, t.sendq.awaiting = some f → s.sendq.awaiting = some f) : GeneralRoom t b := by
  obtain ⟨hframes, hawait, hroom⟩ := h
  exact ⟨fun f hf' => hframes f (hf.subset hf'), fun f hf' => hawait f (ha f hf'),
    ((hf.filter _).length_le).trans_lt hroom⟩

theorem generalRoom_tested {s0 s : State} {b : QBody} (h : GeneralRoom s b) : GeneralRoom (State.tested s0 s) b :=
  generalRoom_of_sublist h (State.tested_sublist s0 s) fun f hf => by simpa using hf

/-! ## What an entry effect leaves alone (R6, R24) -/

/-- What the effects of a notice about entries leave alone: all but the entries, the countdowns, the stack, the gates'
own flags, and what is added to the reports and the send queue. -/
structure EntryEffect (s t : State) : Prop where
  same : t.ctl = s.ctl ∧ t.table.members = s.table.members ∧ t.table.bank = s.table.bank ∧
    t.table.transfers = s.table.transfers ∧ t.table.imagePending = s.table.imagePending ∧
    t.timer.presence = s.timer.presence ∧ t.timer.silence = s.timer.silence ∧ t.timer.joinWait = s.timer.joinWait ∧
    t.timer.foundWait = s.timer.foundWait ∧ t.timer.foundRank = s.timer.foundRank ∧
    t.timer.imageWait = s.timer.imageWait ∧ t.line = s.line ∧ t.port.mask = s.port.mask ∧
    t.port.response = s.port.response ∧ t.port.resetArmed = s.port.resetArmed ∧ t.port.serial = s.port.serial ∧
    (∀ i : Nat, ∀ hi : i < 8, t.gate[i].ginLow = s.gate[i].ginLow) ∧ t.pending = s.pending
  grows : Grows s t

theorem EntryEffect.refl (s : State) : EntryEffect s s := ⟨by simp, .refl s⟩

theorem EntryEffect.trans {s t u : State} (h : EntryEffect s t) (h' : EntryEffect t u) : EntryEffect s u :=
  ⟨by have := h.same; have := h'.same; simp_all, h.grows.trans h'.grows⟩

section
variable (s : State)

theorem State.claimEffects_effect (u : Station) (b : Byte) (m p : BitVec 4) : EntryEffect s (s.claimEffects u b m p) :=
  ⟨by simp, s.claimEffects_grows ..⟩

theorem State.holdEffects_effect (b : Byte) (h : Station) (g : Grant) (t : Bool) :
    EntryEffect s (s.holdEffects b h g t) := ⟨by simp, s.holdEffects_grows ..⟩

theorem State.lapseEffects_effect (u : Station) (b h : Byte) (g : Grant) : EntryEffect s (s.lapseEffects u b h g) :=
  ⟨by simp, s.lapseEffects_grows ..⟩

theorem State.withdrawEffects_effect (u : Station) (b : Byte) : EntryEffect s (s.withdrawEffects u b) :=
  ⟨by simp, s.withdrawEffects_grows ..⟩

theorem State.renewItems_effect (u : Station) (items : List (Byte × Grant)) :
    EntryEffect s (items.foldl (fun s i => s.renewItem u i) s) :=
  foldl_keeps EntryEffect.refl EntryEffect.trans (fun s x => ⟨by simp, s.renewItem_grows u x⟩) items s

end

/-- The frames after the effects and the end of an application: stale ones go, requests enter behind. -/
theorem QueueMoves.of_finish {s s0 u : State} (hl : u.listening = true) (h : Grows s u) :
    QueueMoves s.sendq.frames (State.finish s0 u).sendq.frames := by
  obtain ⟨added, hadded, hfresh⟩ := h.frames
  obtain ⟨asked, hasked, hnew⟩ := State.askAfter_addsFrames s0 (State.tested s0 u)
  let stays (f : QFrame) : Bool :=
    !(f.isQueued && ((State.updateSilence s0 u).testTransfers.tableStale f.body ||
      (State.updateSilence s0 u).testTransfers.stateStale f.body))
  have htested : (State.tested s0 u).sendq.frames = s.sendq.frames.filter stays ++ added.filter stays := by
    rw [← List.filter_append, ← hadded]
    simp only [State.tested, State.staleCheck, SendQueue.removeQueued, State.withSendq_sendq,
      State.testTransfers_frame, State.updateSilence_frame]
    rfl
  refine ⟨s.sendq.frames.filter stays, added.filter stays ++ asked, ?_, List.filter_sublist, fun f hf hphase => ?_,
    fun f hf => ?_⟩
  · rw [State.finish_sendq hl, hasked, htested, List.append_assoc]
  · have hline : f.isQueued = false := by rw [← Bool.not_eq_true, f.isQueued_iff]; exact hphase
    exact List.mem_filter.mpr ⟨hf, by simp [stays, hline]⟩
  · rcases List.mem_append.mp hf with hf | hf
    · exact hfresh f (List.mem_of_mem_filter hf)
    · exact hnew f hf

/-- The application of a notice about entries, at a station that follows the bank. -/
theorem entryNoticeFrame_of_effect {s u : State} {n : Notice} {rest : List Notice}
    (happ : Applies s n rest) (h : EntryEffect (s.takeNotice n rest) u) :
    EntryNoticeFrame s (State.finish (s.takeNotice n rest) u) := by
  obtain ⟨-, hbank, hinbound⟩ := happ
  obtain ⟨⟨hctl, hmembers, hbankp, htransfers, hip, hpresence, hsilence, hjoin, hfound, hrank, himage, hline, hmask,
    hresponse, harmed, hserial, hgin, hpending⟩, hgrows⟩ := h
  simp only [State.takeNotice_frame] at hctl hmembers hbankp htransfers hip hpresence hsilence hjoin hfound hrank himage
  simp only [State.takeNotice_frame] at hline hmask hresponse harmed hserial hgin hpending
  have hl : u.listening = true := by
    rw [State.listening, hctl]
    exact StationState.listening_of_inBank hbank
  refine ⟨?_, ?_, ?_, ?_, ?_, ?_, ?_, ?_, ?_, ?_, ?_, fun p hp hm => ?_, fun n' rest' hn => ?_, ?_, ?_, ?_, ?_, ?_, ?_,
    fun m => ?_, ?_⟩
  · simp [hctl]
  · simp [hmembers]
  · simp [hbankp]
  · simp [hip]
  · rw [State.finish_transfers hl, htransfers, hmembers, State.self, hctl]
    rfl
  · simp [hline, hinbound]
  · simp [hpresence]
  · simp [hjoin]
  · simp [hfound]
  · simp [hrank]
  · simp [himage]
  · have hm' : s.table.members[p].isAbsent = false := Bool.eq_false_iff.mpr (mt (MemberRecord.isAbsent_iff _).mp hm)
    rw [State.finish_silence hl, hctl, hmembers, hsilence, hm', State.self, hctl, hbank]
    have hp' : decide (p = s.ctl.number) = false := decide_eq_false hp
    simp [hp', hbank]
  · rw [hinbound] at hn
    cases hn
    obtain ⟨asked, hasked, -⟩ := State.askAfter_addsFrames (s.takeNotice n rest) (State.tested (s.takeNotice n rest) u)
    rw [State.finish_sendq hl, hasked]
    dsimp only
    rw [(State.tested_frame _ u).2.2.2.2.2.2.2.1, hgrows.awaiting]
    rfl
  · have := QueueMoves.of_finish (s0 := s.takeNotice n rest) hl hgrows
    simpa using this
  · refine List.IsPrefix.trans ?_ (State.reports_prefix_finish _ _)
    simpa using hgrows.reports
  · simp [hmask]
  · simp [hresponse]
  · simp [harmed]
  · simp [hserial]
  · simpa using hgin m m.isLt
  · simp [hpending]

/-! ## Which requests an application makes (R55, R60, R76, R79, R85, R97, R125, R204) -/

section
variable {s : State}

theorem State.evictWanted_false (h : ∀ p : Station, s.timer.silence[p] ≠ .expired) (p : Station) :
    s.evictWanted p = false := by
  have hp : s.timer.silence[p].isExpired = false := by
    have := h p
    cases ht : s.timer.silence[p] with
    | expired => exact absurd ht this
    | _ => rfl
  rw [State.evictWanted, hp]
  rfl

/-- An EVICT is wanted in MEMBER only. -/
theorem State.evictWanted_not_member (h : s.ctl.station ≠ .member) (p : Station) : s.evictWanted p = false := by
  rw [State.evictWanted, decide_eq_false h, Bool.and_false]

theorem State.askEvicts_none (h : ∀ p, s.evictWanted p = false) (l : List Station) : l.foldl State.askEvict s = s := by
  induction l with
  | nil => rfl
  | cons p l ih => rw [List.foldl_cons, State.askEvict, if_neg (by simp [h p]), ih]

theorem State.expiredCountdowns_nil (h : ∀ c ∈ s.timer.countdowns, c.timer ≠ .expired) : s.expiredCountdowns = [] := by
  have : (s.timer.countdowns.filter fun c => c.timer.isExpired) = [] := by
    refine List.filter_eq_nil_iff.mpr fun c hc => ?_
    have := h c hc
    cases ht : c.timer with
    | expired => exact absurd ht this
    | _ => simp [Timer.isExpired]
  rw [State.expiredCountdowns, this]
  rfl

/-- Where nothing has expired no LAPSE and no EVICT is asked for. -/
theorem State.askExpiredAfter_quiet (s0 : State) (hcs : ∀ c ∈ s.timer.countdowns, c.timer ≠ .expired)
    (hsilence : s.ctl.station ≠ .member ∨ ∀ p : Station, s.timer.silence[p] ≠ .expired) :
    State.askExpiredAfter s0 s = s := by
  have hevict : ∀ p, s.evictWanted p = false :=
    hsilence.elim State.evictWanted_not_member State.evictWanted_false
  have hlapse := State.expiredCountdowns_nil hcs
  unfold State.askExpiredAfter State.askOwnExpired State.askExpired
  dsimp only
  rw [State.askEvicts_none hevict, hlapse]
  split <;> rfl

end

end Sys2Proof.Machine

/-! PROOFS. Which requests an application makes, and the PRESENCE that begins a resynchronisation; the LEAVE of the host
(R77 to R79, R97, R116, R125, R170, R204). -/

namespace Sys2Proof.Machine

open Sys2Proof.Safety

/-! ## The requests of one application, where nothing has expired (R76, R79, R85, R97, R125, R204) -/

/-- Frames of other kinds and targets, in other places, take no room from a general frame. -/
theorem generalRoom_of_added {s : State} {b : QBody} {added : List QFrame} (h : GeneralRoom s b)
    (hadded : ∀ f ∈ added, f.body.target ≠ b.target ∧ f.place ≠ .general) :
    GeneralRoom { s with sendq := { s.sendq with frames := s.sendq.frames ++ added } } b := by
  obtain ⟨hframes, hawait, hroom⟩ := h
  have hnone : added.filter (fun f => decide (f.place = .general)) = [] :=
    List.filter_eq_nil_iff.mpr fun f hf => by simp [(hadded f hf).2]
  refine ⟨fun f hf => ?_, hawait, ?_⟩
  · rcases List.mem_append.mp hf with hf | hf
    · exact hframes f hf
    · exact (hadded f hf).1
  · rw [SendQueue.inPlace, List.filter_append, hnone, List.append_nil]
    exact hroom

theorem QBody.target_image_ne {u : Station} {a : Fin 4} {p : Part} {b : QBody} (hb : b.isImage = false) :
    (QBody.image u a p).target ≠ b.target := by
  cases b <;> simp [QBody.target, QBody.kind, QBody.isImage] at hb ⊢

theorem generalRoom_placeImage {s : State} {b : QBody} (h : GeneralRoom s b) (hb : b.isImage = false) :
    GeneralRoom s.placeImage b := by
  unfold State.placeImage
  split
  · exact h
  next i _ _ =>
    unfold State.request
    rcases s.sendq.request_adds (.image i.target i.attempt i.next) .image with hq | hq <;> rw [hq]
    · exact h
    · refine generalRoom_of_added (added := [_]) h fun f hf => ?_
      rw [List.mem_singleton.mp hf]
      exact ⟨QBody.target_image_ne hb, by nofun⟩

/-- Every record that owes a RELEASE owed it before the application. -/
def NoNewRelease (s0 s : State) : Prop :=
  ∀ k ∈ s.stack, k.owesRelease = true →
    s0.stack.any (fun k0 => decide (k0.resource = k.resource) && k0.owesRelease) = true

section
variable {s0 s : State}

theorem State.askNewRelease_of_owed {k : Record} (h : k.owesRelease = true →
    s0.stack.any (fun k0 => decide (k0.resource = k.resource) && k0.owesRelease) = true) :
    State.askNewRelease s0 s k = s := by
  unfold State.askNewRelease
  split
  next g hk => exact if_pos (h (by rw [Record.owesRelease, hk]))
  next => rfl

theorem State.askNewReleases_none (h : NoNewRelease s0 s) : State.askNewReleases s0 s = s :=
  foldl_fixed (f := fun s k => State.askNewRelease s0 s k) fun k hk => State.askNewRelease_of_owed (h k hk)

/-- No hold countdown and, in MEMBER, no silence timer is expired. -/
def Unexpired (s : State) : Prop :=
  (∀ c ∈ s.timer.countdowns, c.timer ≠ .expired) ∧
    (s.ctl.station ≠ .member ∨ ∀ p : Station, s.timer.silence[p] ≠ .expired)

theorem State.askExpiredAfter_placeImage (h : Unexpired s) : State.askExpiredAfter s0 s.placeImage = s.placeImage := by
  obtain ⟨hcs, hsilence⟩ := h
  exact State.askExpiredAfter_quiet s0 (by simpa using hcs) (by simpa using hsilence)

theorem State.askNewLeave_fresh (hex : s.ctl.exhausted = false) : State.askNewLeave s0 s.placeImage = s.placeImage :=
  if_neg (by simp [hex])

variable (hquiet : Unexpired s)
include hquiet

/-- With nothing expired the owed RELEASE of the top record is the first general frame asked for. -/
theorem State.askAfter_release {below : List Record} {k : Record} {g : Grant} (hstack : s.stack = below ++ [k])
    (hbelow : ∀ x ∈ below, x.owesRelease = true →
      s0.stack.any (fun k0 => decide (k0.resource = x.resource) && k0.owesRelease) = true)
    (hk : k.state = .releasing g true)
    (hnew : s0.stack.any (fun k0 => decide (k0.resource = k.resource) && k0.owesRelease) = false)
    (hroom : GeneralRoom s (.release k.resource g)) :
    generalFrame (.release k.resource g) ∈ (State.askAfter s0 s).sendq.frames := by
  have hreleases : State.askNewReleases s0 s.placeImage =
      queuedLast s.placeImage (generalFrame (.release k.resource g)) := by
    rw [State.askNewReleases, s.placeImage_frame.2.2.2.1, hstack, List.foldl_append,
      foldl_fixed (f := fun s k => State.askNewRelease s0 s k)
        fun x hx => State.askNewRelease_of_owed (hbelow x hx)]
    show State.askNewRelease s0 s.placeImage k = _
    rw [State.askNewRelease, hk]
    dsimp only
    rw [if_neg (by simp [hnew]), State.request_general (generalRoom_placeImage hroom rfl)]
  rw [State.askAfter_eq, State.askExpiredAfter_placeImage hquiet, hreleases]
  obtain ⟨added, hadded, -⟩ := ((State.askNewLeave_addsFrames
    (queuedLast s.placeImage (generalFrame (.release k.resource g))) s0).trans
      (State.askNewRenew_addsFrames _ s0)).trans (State.askNewSync_addsFrames _ s0)
  rw [hadded]
  simp [queuedLast]

variable (hrelease : NoNewRelease s0 s)
include hrelease

theorem State.askAfter_quiet : State.askAfter s0 s =
    State.askNewSync s0 (State.askNewRenew s0 (State.askNewLeave s0 s.placeImage)) := by
  have hrelease' : NoNewRelease s0 s.placeImage := by simpa [NoNewRelease] using hrelease
  rw [State.askAfter_eq, State.askExpiredAfter_placeImage hquiet, State.askNewReleases_none hrelease']

theorem State.askAfter_leave (hex : s.ctl.exhausted = true) (hex0 : s0.ctl.exhausted = false)
    (hst : s.ctl.station = .resync) (hroom : GeneralRoom s .leave) :
    generalFrame .leave ∈ (State.askAfter s0 s).sendq.frames := by
  have hleave : State.askNewLeave s0 s.placeImage = queuedLast s.placeImage (generalFrame .leave) := by
    rw [State.askNewLeave, if_pos (by simp [hex, hex0, hst]), State.request_general (generalRoom_placeImage hroom rfl)]
  rw [State.askAfter_quiet hquiet hrelease, hleave]
  obtain ⟨added, hadded, -⟩ := (State.askNewRenew_addsFrames (queuedLast s.placeImage (generalFrame .leave)) s0).trans
    (State.askNewSync_addsFrames _ s0)
  rw [hadded]
  simp [queuedLast]

variable (hex : s.ctl.exhausted = false)
include hex

theorem State.askAfter_renew {k : Record} {g : Grant} (hk : k ∈ s.stack) (hheld : k.state = .held g true)
    (hnew : s0.stack.any (fun k0 => decide (k0.resource = k.resource) && k0.renewalPending) = false)
    (hroom : GeneralRoom s .renew) : generalFrame .renew ∈ (State.askAfter s0 s).sendq.frames := by
  have hany : s.placeImage.stack.any (fun k => k.renewalPending &&
      !(s0.stack.any fun k0 => decide (k0.resource = k.resource) && k0.renewalPending)) = true :=
    List.any_eq_true.mpr ⟨k, by simpa using hk, by rw [hnew, Record.renewalPending, hheld]; rfl⟩
  have hrenew : State.askNewRenew s0 s.placeImage = queuedLast s.placeImage (generalFrame .renew) := by
    rw [State.askNewRenew, if_pos hany, State.request_general (generalRoom_placeImage hroom rfl)]
  rw [State.askAfter_quiet hquiet hrelease, State.askNewLeave_fresh hex, hrenew]
  obtain ⟨added, hadded, -⟩ := State.askNewSync_addsFrames (queuedLast s.placeImage (generalFrame .renew)) s0
  rw [hadded]
  simp [queuedLast]

theorem State.askAfter_sync {a : Fin 4} (hrenew : ∀ k ∈ s.stack, k.renewalPending = true →
      s0.stack.any (fun k0 => decide (k0.resource = k.resource) && k0.renewalPending) = true)
    (hwanted : s.syncWanted = some a)
    (hwhen : s0.ctl.station ≠ .resync ∨ (s0.ownTransfer.isSome = true ∧ s.ownTransfer.isNone = true))
    (hroom : GeneralRoom s (.sync a)) :
    State.askAfter s0 s = queuedLast s.placeImage (generalFrame (.sync a)) := by
  have hnone : State.askNewRenew s0 s.placeImage = s.placeImage := by
    refine if_neg ?_
    rw [List.any_eq_true]
    rintro ⟨k, hk, h⟩
    rw [s.placeImage_frame.2.2.2.1] at hk
    rw [Bool.and_eq_true, Bool.not_eq_true'] at h
    exact absurd (hrenew k hk h.1) (by rw [h.2]; nofun)
  have hplaced : s.placeImage.syncWanted = some a := by
    rw [← hwanted]
    simp only [State.syncWanted, State.ownTransfer, State.ownRecord, State.recordOfStation, State.self,
      State.placeImage_frame]
  have hown : s.placeImage.ownTransfer = s.ownTransfer := by
    simp only [State.ownTransfer, State.ownRecord, State.recordOfStation, State.self, State.placeImage_frame]
  rw [State.askAfter_quiet hquiet hrelease, State.askNewLeave_fresh hex, hnone, State.askNewSync, hplaced]
  dsimp only
  rw [hown, if_pos hwhen, State.request_general (generalRoom_placeImage hroom rfl)]

end

/-! ## The gates of a station that is not MEMBER close (R113, R114, R116) -/

/-- The CUT of a channel that closes. -/
def State.cutReport (s : State) (d : BitVec 4) (n : Fin 8) : Report :=
  { kind := .cut, subject := channelResource n, grant := s.channelGrant n, detail := d }

theorem State.foldl_raise_port_congr {s t : State} (h : s.port = t.port) (rs : List Report) :
    (rs.foldl State.raise s).port = (rs.foldl State.raise t).port := by
  induction rs generalizing s t with
  | nil => exact h
  | cons r rs ih => exact ih (State.raise_port_congr h r)

theorem State.foldl_evalChannel_port_closed (d : BitVec 4) (l : List (Fin 8)) (hl : l.Nodup) (s : State)
    (hst : s.ctl.station ≠ .member) : (l.foldl (fun s n => s.evalChannel n d (s.channelGrant n)) s).port =
      (((l.filter fun n => s.gate[n].goutLow).map (s.cutReport d)).foldl State.raise s).port := by
  induction l generalizing s with
  | nil => rfl
  | cons m l ih =>
    obtain ⟨hm, hl⟩ := List.nodup_cons.mp hl
    obtain ⟨hctl, -, -, -, hstack, -⟩ := s.evalChannel_frame m d (s.channelGrant m)
    have hport := s.evalChannel_port m d (s.channelGrant m)
    have hgate (n : Fin 8) (hn : n ∈ l) := s.evalChannel_gate_other m n d (s.channelGrant m) fun h => hm (h ▸ hn)
    rw [List.foldl_cons]
    generalize s.evalChannel m d (s.channelGrant m) = s1 at *
    have hfilter : l.filter (fun n => s1.gate[n].goutLow) = l.filter fun n => s.gate[n].goutLow :=
      List.filter_congr fun n hn => by rw [hgate n hn]
    have hcut : s1.cutReport d = s.cutReport d := by
      funext n
      simp only [State.cutReport, State.channelGrant, State.recordOf, hstack]
    rw [ih hl s1 (by rw [hctl]; exact hst), hfilter, hcut]
    rw [State.gateCondition_of_not_member hst] at hport
    cases hlow : s.gate[m].goutLow with
    | true =>
      rw [hlow, if_pos ⟨rfl, rfl⟩] at hport
      rw [List.filter_cons_of_pos (by simpa using hlow), List.map_cons, List.foldl_cons]
      exact State.foldl_raise_port_congr hport _
    | false =>
      rw [hlow, if_neg (by nofun)] at hport
      rw [List.filter_cons_of_neg (by simpa using hlow)]
      exact State.foldl_raise_port_congr hport _

/-- In ascending number each channel whose output was low closes with its CUT. -/
theorem State.evalGates_port_closed {s : State} (hst : s.ctl.station ≠ .member) (d : BitVec 4) :
    (s.evalGates d).port = (((all8.filter fun n => s.gate[n].goutLow).map (s.cutReport d)).foldl State.raise s).port :=
  State.foldl_evalChannel_port_closed d all8 (by decide) s hst

/-- A gate that closes under its law is closed and not armed, its input as it was. -/
theorem State.evalGates_gate_closed {s : State} (hst : s.ctl.station ≠ .member) (harmed : ArmedLaw s) (d : BitVec 4)
    (n : Fin 8) : (s.evalGates d).gate[n] = { opened := false, armed := false, ginLow := s.gate[n].ginLow } := by
  rw [State.evalGates_gate, State.gateCondition_of_not_member hst]
  have := harmed n
  cases ho : s.gate[n].opened <;> cases ha : s.gate[n].armed <;> simp_all

/-! ## LEAVE at the host port (R116, R135, R170) -/

theorem QBody.target_leave_iff (b : QBody) : b.target = QBody.leave.target ↔ b.kind = 6 := by
  cases b <;> simp [QBody.target, QBody.kind]

/-- What stays queued when a station leaves MEMBER for LEAVING (R72, R135). -/
def staysLeaving (self : Station) (f : QFrame) : Bool :=
  !f.isQueued || match f.body with
    | .image .. | .evict _ | .join .. | .sync _ => false
    | .lapse _ h _ => decide (h = self)
    | _ => true

theorem leaving_sendq {s : State} (hst : s.ctl.station = .leaving) : ((s.abandonTransfers).stateCheck).sendq =
    { s.sendq with frames := s.sendq.frames.filter (staysLeaving s.self) } := by
  unfold State.stateCheck State.abandonTransfers SendQueue.removeQueued
  simp only [State.withSendq_sendq, List.filter_filter]
  congr 1
  refine List.filter_congr fun f _ => ?_
  cases hq : f.isQueued with
  | false => simp [staysLeaving, hq]
  | true =>
    cases hb : f.body with
    | lapse r h g => by_cases hh : h = s.ctl.number <;> simp [staysLeaving, hq, hb, QBody.isImage, State.stateStale, State.self, hst, hh]
    | _ => simp [staysLeaving, hq, hb, QBody.isImage, State.stateStale, hst]

theorem leaving_table (s : State) : ((s.abandonTransfers).stateCheck).table = { s.table with transfers := [] } := rfl

theorem State.cutReport_withCtl (s : State) (c : Controller) : (s.withCtl c).cutReport = s.cutReport := rfl

/-- Settles O29: the gates close first, then the queue is tested and the LEAVE placed. -/
theorem leaveStartsLeaving : Obligations.LeaveStartsLeaving := by
  intro s hport
  rw [exec_taken hport State.commandLeave rfl]
  refine ⟨fun h => congrArg _ (State.commandLeave_elsewhere h), fun hst hbusy => ?_, fun hst hslot hnone hgates hlen => ?_⟩
  · rw [State.commandLeave, if_pos hst, if_neg (mt s.slotFree_iff.mp hbusy)]
    rfl
  rw [State.commandLeave, if_pos hst, if_pos (s.slotFree_iff.mpr hslot), State.startLeaving]
  have hgate := State.evalGates_gate_closed (s := s.withCtl { s.ctl with station := .leaving })
    (fun h => by cases h) (fun n => (hgates n).2) 3
  have hcuts := State.evalGates_port_closed (s := s.withCtl { s.ctl with station := .leaving }) (fun h => by cases h) 3
  obtain ⟨hctl, htable, htimer, hsendq, hstack, -, hline, -⟩ :=
    (s.withCtl { s.ctl with station := .leaving }).evalGates_frame 3
  generalize (s.withCtl { s.ctl with station := .leaving }).evalGates 3 = u at *
  have hself : u.self = s.self := congrArg (·.number) hctl
  have hleft : ((u.abandonTransfers).stateCheck).sendq =
      { s.sendq with frames := s.sendq.frames.filter (staysLeaving s.self) } := by
    rw [leaving_sendq (congrArg (·.station) hctl), hself, hsendq]
    rfl
  have hplace : ((u.abandonTransfers).stateCheck).placeHost .leave =
      queuedLast (u.abandonTransfers).stateCheck (hostFrame .leave) := by
    refine State.placeHost_enters ?_ ?_
    · rw [SlotFree, hleft]
      exact ⟨fun f hf => hslot.1 f (List.mem_of_mem_filter hf), hslot.2⟩
    · rw [hleft]
      exact fun f hf => mt f.body.target_leave_iff.mp (hnone f (List.mem_of_mem_filter hf))
  rw [hplace]
  have hreports : u.port = { s.port with reports := s.port.reports ++
      (all8.filter fun n => s.gate[n].goutLow).map (s.cutReport 3) } := by
    have hfits : (s.port.reports ++ (all8.filter fun n => s.gate[n].goutLow).map (s.cutReport 3)).length ≤ 16 := by
      have : (all8.filter fun n => s.gate[n].goutLow).length ≤ 8 := List.length_filter_le _ _
      simp only [List.length_append, List.length_map]
      omega
    rw [hcuts, State.cutReport_withCtl, State.foldl_raise _ _ (by simpa using hlen.trans (by omega))]
    exact HostPort.queueAll_of_fits hfits
  refine ⟨_, rfl, hctl, ?_, htimer, hstack, hline, hgate, ?_, ?_, ?_⟩
  · exact congrArg (fun t : TableUnit => { t with transfers := [] }) htable
  · exact congrArg (fun p : HostPort => { p with response := [0x01] }) hreports
  · show ((u.abandonTransfers).stateCheck).sendq.awaiting = _
    rw [hleft]
  · refine ⟨s.sendq.frames.filter (staysLeaving s.self), ?_, List.filter_sublist, fun f hf hq => ?_, fun f hf hkind => ?_⟩
    · show ((u.abandonTransfers).stateCheck).sendq.frames ++ _ = _
      rw [hleft]
    · have hstays := List.of_mem_filter hf
      cases hb : f.body <;> simp_all [staysLeaving, QBody.isImage]
    · refine List.mem_filter.mpr ⟨hf, ?_⟩
      rcases hkind with hq | hkind
      · simp [staysLeaving, hq]
      · cases hb : f.body <;> simp_all [staysLeaving, QBody.kind]

/-! ## PRESENCE (R78, R79) -/

theorem exec_applyPresence {s : State} {u : Station} {v : Bool} {d : BitVec 16} {rest : List Notice}
    (h : Applies s { sender := u, body := .presence v d } rest) : exec .applyPresence s = .next (State.finish
      (s.takeNotice { sender := u, body := .presence v d } rest)
      ((s.takeNotice { sender := u, body := .presence v d } rest).presenceEffects u v d)) := by
  obtain ⟨hr, hbank, hin⟩ := h
  rw [exec_awake hr State.applyPresence rfl, State.applyPresence, hin]
  exact congrArg _ (State.applyNotice_inBank _ rest _ hbank)

theorem State.stateCheck_sublist (s : State) : (s.stateCheck).sendq.frames.Sublist s.sendq.frames := by
  unfold State.stateCheck SendQueue.removeQueued
  exact List.filter_sublist

theorem State.abandonTransfers_sublist (s : State) : (s.abandonTransfers).sendq.frames.Sublist s.sendq.frames := by
  unfold State.abandonTransfers SendQueue.removeQueued
  exact List.filter_sublist

/-- What the entry to RESYNC makes of the station (R79, R204). -/
theorem State.enterResync_spec (s : State) (c : BitVec 4) :
    (s.enterResync c).ctl = { s.ctl with station := .resync, exhausted := false } ∧
    (s.enterResync c).table = { s.table with transfers := [] } ∧ (s.enterResync c).timer = s.timer ∧
    (s.enterResync c).stack = s.stack ∧ (s.enterResync c).line = s.line ∧
    (∀ n : Fin 8, (s.enterResync c).gate[n].opened = false) ∧
    (s.raise { kind := .resyncBegun, subject := 0, grant := 0, detail := c }).port.reports <+:
      (s.enterResync c).port.reports ∧
    (s.enterResync c).sendq.frames.Sublist s.sendq.frames ∧
    (s.enterResync c).sendq.awaiting = s.sendq.awaiting ∧ (s.enterResync c).pending = s.pending := by
  have hraised := State.raise_frame (s.withCtl { s.ctl with station := .resync, exhausted := false })
    { kind := .resyncBegun, subject := 0, grant := 0, detail := c }
  have hport := State.raise_port_congr (s := s.withCtl { s.ctl with station := .resync, exhausted := false }) (t := s) rfl
    { kind := .resyncBegun, subject := 0, grant := 0, detail := c }
  obtain ⟨u, hu⟩ : ∃ u, u = (s.withCtl { s.ctl with station := .resync, exhausted := false }).raise
    { kind := .resyncBegun, subject := 0, grant := 0, detail := c } := ⟨_, rfl⟩
  have henter : s.enterResync c = ((u.evalGates 3).abandonTransfers).stateCheck := by rw [hu]; rfl
  rw [← hu] at hraised hport
  rw [henter]
  obtain ⟨hctl, htable, htimer, hsendq, hstack, -, hline, -, -, -, -, hpending⟩ := hraised
  obtain ⟨ectl, etable, etimer, esendq, estack, -, eline, -, -, -, -, epending⟩ := u.evalGates_frame 3
  have hnot : u.ctl.station ≠ .member := by
    rw [hctl]
    exact fun h => StationState.noConfusion h
  have hclosed := evalGates_closed hnot 3
  have hreports := u.reports_prefix_evalGates 3
  generalize u.evalGates 3 = w at *
  have hsub := (State.stateCheck_sublist w.abandonTransfers).trans (State.abandonTransfers_sublist w)
  refine ⟨ectl.trans hctl, ?_, etimer.trans htimer, estack.trans hstack, eline.trans hline, hclosed, ?_, ?_, ?_,
    epending.trans hpending⟩
  · exact congrArg (fun t : TableUnit => { t with transfers := [] }) (etable.trans htable)
  · rw [← hport]
    exact hreports
  · rwa [esendq, hsendq] at hsub
  · exact congrArg (·.awaiting) (esendq.trans hsendq)

theorem State.tested_transfers (s0 s : State) : (State.tested s0 s).table.transfers = s.table.transfers.filter fun i =>
    decide (s.table.members[i.target].transfer = some { attempt := i.attempt, source := some s.self }) := rfl

/-- Settles O57: without a difference the application has no effects; with one the station enters RESYNC, and a SYNC is
the one request of an empty stack. -/
theorem presenceApplied : Obligations.PresenceApplied := by
  intro s u v d rest happ differs
  rw [exec_applyPresence happ]
  obtain ⟨-, -, hin⟩ := id happ
  generalize hs1 : s.takeNotice { sender := u, body := .presence v d } rest = s1
  have hsame : s1.ctl = s.ctl ∧ s1.table = s.table ∧ s1.timer = s.timer ∧ s1.stack = s.stack ∧ s1.gate = s.gate ∧
      s1.port = s.port ∧ s1.pending = s.pending ∧ s1.sendq.frames = s.sendq.frames ∧
      s1.line = { s.line with inbound := rest } := by
    rw [← hs1]
    simp
  obtain ⟨hctl, htable, htimer, hstack, hgate, hport, -, hframes, hline⟩ := hsame
  by_cases hdiff : differs
  · have heffects : s1.presenceEffects u v d = s1.enterResync 0 := by
      obtain ⟨hst, hv, hm, hne, hlt⟩ := hdiff
      rw [← hs1]
      exact if_pos ⟨hst, hv, ne_of_lt hlt, hm, hne, hlt⟩
    rw [heffects]
    obtain ⟨ectl, etable, etimer, estack, eline, egate, ereports, esub, eawait, -⟩ := s1.enterResync_spec 0
    generalize s1.enterResync 0 = e at *
    have hl : e.listening = true := by rw [State.listening, ectl]; rfl
    obtain ⟨fctl, fentries, fmembers, fbank, -, fstack, fline, fcs, -⟩ := State.finish_frame s1 e
    refine ⟨_, rfl, fstack.trans (estack.trans hstack), ?_, ?_, ?_, ?_, ?_, fun h => absurd hdiff h,
      fun _ => ⟨fctl.trans (by rw [ectl, hctl]), ?_, fun n => ?_, ?_, fun hip hsendq hempty hcs => ?_⟩⟩
    · rw [fentries, etable, htable]
    · rw [fmembers, etable, htable]
    · rw [fbank, etable, htable]
    · rw [fcs, etimer, htimer]
    · rw [fline, eline, hline]
    · rw [State.finish_transfers hl, etable]
      rfl
    · rw [State.finish_gate hl]
      exact State.gateCondition_of_not_member (by rw [ectl]; nofun) n
    · refine List.IsPrefix.trans ?_ (State.reports_prefix_finish _ _)
      rwa [State.raise_port_congr hport] at ereports
    · rw [State.finish_sendq hl]
      have hnone : (State.tested s1 e).sendq.frames = [] := by
        have hsub := (State.tested_sublist s1 e).trans esub
        rw [hframes, hsendq] at hsub
        exact List.sublist_nil.mp hsub
      have htransfers : (State.tested s1 e).table.transfers = [] := by
        rw [State.tested_transfers, etable]
        rfl
      obtain ⟨tctl, -, -, -, tip, tcs, -, tawait, -⟩ := State.tested_frame s1 e
      have hstack' : e.stack = [] := by rw [estack, hstack, hempty]
      have hst : (State.tested s1 e).ctl.station ≠ .member := by
        rw [tctl, ectl]
        exact fun h => StationState.noConfusion h
      have hwanted : (State.tested s1 e).syncWanted = some 0 := by
        rw [State.syncWanted, tctl, ectl, if_pos rfl, tip, etable, htable, hip]
        rfl
      have hroom : GeneralRoom (State.tested s1 e) (.sync 0) := by
        refine ⟨by simp [hnone], fun f hf => ?_, by simp [SendQueue.inPlace, hnone]⟩
        rw [tawait, eawait, ← hs1] at hf
        simp [State.takeNotice, hsendq, SendQueue.clear] at hf
      rw [State.askAfter_sync ⟨by rw [tcs, etimer, htimer]; exact hcs, .inl hst⟩ (by simp [NoNewRelease, hstack'])
        (by rw [tctl, ectl]) (by simp [hstack']) hwanted (.inl (by rw [hctl, hdiff.1]; nofun)) hroom]
      have hplace : (State.tested s1 e).placeImage = State.tested s1 e := by rw [State.placeImage, htransfers]
      rw [hplace, queuedLast, hnone]
      rfl
  · have heffects : s1.presenceEffects u v d = s1 := by
      rw [← hs1]
      exact if_neg fun ⟨hst, hv, _, hm, hne, hlt⟩ => hdiff ⟨hst, hv, hm, hne, hlt⟩
    rw [heffects]
    obtain ⟨-, fentries, fmembers, fbank, -, fstack, fline, fcs, -⟩ := State.finish_frame s1 s1
    refine ⟨_, rfl, fstack.trans hstack, by rw [fentries, htable], by rw [fmembers, htable], by rw [fbank, htable],
      by rw [fcs, htimer], by rw [fline, hline], fun _ => ⟨?_, fun hg => ?_⟩, fun h => absurd h hdiff⟩
    · rw [← hs1]
      exact entryNoticeFrame_of_effect happ (.refl _)
    · have hlawful := State.finish_of_lawful s1 s1 fun n => by
        rw [hgate, (hg n).1]
        exact (State.gateCondition_congr (by rw [hctl]) (by rw [hctl]) hstack (by rw [htimer]) n).symm
      exact ⟨hlawful.1.trans hgate, hlawful.2.trans hport⟩

end Sys2Proof.Machine

/-! PROOFS. The states of the line, conflicts and lost frames, and the frame that an offer puts on the line (R67, R71,
R127 to R129, R143, R150 to R160, R205). -/

namespace Sys2Proof.Machine

open Sys2Proof.Safety

/-! ## The states of the line (R67, R143, R158 to R160) -/

theorem onLineFrame_of_queued {s : State} (h : ∀ f ∈ s.sendq.frames, f.phase = .queued) : s.onLineFrame = none := by
  rw [State.onLineFrame, List.find?_eq_none]
  intro f hf
  simp [f.isQueued_iff.mpr (h f hf)]

theorem comeBack_of_none {s : State} (h : s.onLineFrame = none) (counts : Bool) : s.comeBack counts = s := by
  rw [State.comeBack, h]

/-- The row of LINE_BLOCKED while the line is not BLOCKED: the frame comes back, and a listening station is told. -/
theorem exec_lineBlocked {s : State} (hr : s.ctl.inReset = false) (hstate : s.line.state ≠ none ∧ s.line.state ≠ some .blocked) :
    exec .lineBlocked s = .next (
      let u := (s.withLine { s.line with
        state := some .blocked, frameInHand := false, conflictPending := false }).comeBack false
      if u.listening then u.raise { kind := .lineBlocked, subject := 0, grant := 0, detail := 0 } else u) := by
  rw [exec_awake hr State.lineBecomesBlocked rfl, State.lineBecomesBlocked, if_neg fun h => h.elim hstate.1 hstate.2]

theorem Timer.reload_eq (t : Timer) (ms : Nat) : t.reload ms = if t = .stopped then .stopped else .running ms := by
  cases t <;> rfl

/-- Settles O49: each row by the line state it needs. -/
theorem lineStates : Obligations.LineStates := by
  intro s hr
  refine ⟨fun hstate hhand hpending => ?idle, fun hstate => ?start, ⟨fun hstate hqueued => ?blocked,
    fun before f content after hline hstate => ?abandoned⟩, fun hstate => ?restored⟩
  case idle =>
    rw [exec_awake hr State.lineBecomesIdle rfl, State.lineBecomesIdle, if_pos hstate, hhand, hpending]
    exact congrArg _ (if_pos hstate)
  case start =>
    rw [exec_awake hr State.seeStartCell rfl, State.seeStartCell, if_pos hstate]
    rfl
  case blocked =>
    have hne : s.line.state ≠ none ∧ s.line.state ≠ some .blocked := by rcases hstate with h | h <;> simp [h]
    have hnone : (s.withLine { s.line with
        state := some .blocked, frameInHand := false, conflictPending := false }).onLineFrame = none :=
      onLineFrame_of_queued hqueued
    rw [exec_lineBlocked hr hne, comeBack_of_none hnone]
    rfl
  case abandoned =>
    have hne : s.line.state ≠ none ∧ s.line.state ≠ some .blocked := by rcases hstate with h | ⟨h, -⟩ <;> simp [h]
    obtain ⟨hwithdrawn, hstale, hback⟩ := comeBack_spec hline false
      { s.line with state := some .blocked, frameInHand := false, conflictPending := false } nofun
    rw [exec_lineBlocked hr hne]
    refine ⟨fun hw => ?_, fun hw hs => ?_, fun hw hs => ?_⟩
    · rw [hwithdrawn hw]
      dsimp only
      rw [State.listening, (State.raise_frame _ _).1]
      rfl
    · rw [hstale hw hs]
      rfl
    · rw [hback hw hs]
      rfl
  case restored =>
    rw [exec_awake hr State.lineIsRestored rfl, State.lineIsRestored, if_pos hstate]
    refine ⟨(s.reloadFrozen).withLine { s.line with state := some .idle }, rfl, rfl, rfl, rfl, Timer.reload_eq _ _,
      fun p => ?_, Timer.reload_eq _ _, Timer.reload_eq _ _, Timer.reload_eq _ _⟩
    refine Eq.trans ?_ (Timer.reload_eq _ _)
    simp [State.reloadFrozen]

/-! ## Conflicts and lost frames (R150 to R158, R205) -/

theorem settleConflict_fault {s : State} (hp : s.line.conflictPending = true) (hc : s.line.conflictCount = 1) :
    s.settleConflict = s.enterFault := by
  rw [State.settleConflict, if_pos hp, if_pos (by rw [hc]; decide)]

theorem settleConflict_none {s : State} (hp : s.line.conflictPending = false) : s.settleConflict = s :=
  if_neg (by simp [hp])

theorem enterFault_port (s : State) : s.enterFault.port =
    { s.port with reports := [{ kind := .fault, subject := 0, grant := 0, detail := 0 }], lost := false } := rfl

section
variable {s : State} (hstate : s.line.state = some .receiving)
include hstate

theorem not_isSending : s.isSending = false := by
  rw [← Bool.not_eq_true, isSending_iff, hstate]
  nofun

theorem frameEnded_receiving (n : Nat) :
    s.frameEnded n = { s with line := { s.line with frameInHand := false, vetoStreak := n } } := by
  rw [State.frameEnded, ← hstate]
  rfl

variable (hr : s.ctl.inReset = false)
include hr

theorem exec_truncate : exec .frameTruncated s = .next (s.frameEnded 0).settleConflict := by
  rw [exec_awake hr State.truncate rfl, State.truncate, if_pos hstate]

theorem exec_veto (frame : RxFrame) : exec (.frameVetoed frame) s =
    .next (s.frameEnded (if s.drivesVeto frame then streakUp s.line.vetoStreak else 0)).settleConflict := by
  rw [exec_awake hr (fun s => s.veto frame) rfl, State.veto, not_isSending hstate, if_neg (by nofun), if_pos hstate]

/-- A frame whose veto cell this station did not drive brings its notice where the station saw and heard it. -/
theorem exec_delivered_received {frame : RxFrame} {n : Notice} (hveto : s.drivesVeto frame = false)
    (hn : receive frame = some n) (hheard : s.line.frameInHand = true ∧ s.listening = true) :
    exec (.frameDelivered frame) s = .next (((s.frameEnded 0).heard n.sender).takeDelivery n).settleConflict := by
  rw [exec_awake hr (fun s => s.deliver frame) rfl, State.deliver, not_isSending hstate, if_neg (by nofun),
    if_pos hstate, State.deliverReceived, hveto, hheard.1, hheard.2, hn]
  rfl

theorem exec_delivered_nothing {frame : RxFrame} (hveto : s.drivesVeto frame = false)
    (hnone : s.line.frameInHand = false ∨ s.listening = false ∨ receive frame = none) :
    exec (.frameDelivered frame) s = .next (s.frameEnded 0).settleConflict := by
  rw [exec_awake hr (fun s => s.deliver frame) rfl, State.deliver, not_isSending hstate, if_neg (by nofun),
    if_pos hstate, State.deliverReceived, hveto]
  rcases hnone with h | h | h <;> rw [h] <;> simp

end

/-- When this station drives the veto cell of a frame (R150, R151, R155). -/
theorem drivesVeto_iff {s : State} (hp : s.line.conflictPending = false) (frame : RxFrame) :
    s.drivesVeto frame = true ↔ s.line.frameInHand = true ∧ ListenedAtEdge s frame ∧
      (receive frame = none ∨ (∃ n, receive frame = some n ∧ n.sender = s.self) ∨
        (4 ≤ s.line.inbound.length + frame.appliedSince ∧ s.line.vetoStreak < 8)) := by
  have herror : s.receiveError frame = true ↔
      receive frame = none ∨ ∃ n, receive frame = some n ∧ n.sender = s.self := by
    unfold State.receiveError
    cases receive frame <;> simp [hp]
  rw [State.drivesVeto, Bool.and_eq_true, Bool.and_eq_true, listenedAtEdge_iff, Bool.or_eq_true, herror, Bool.and_eq_true,
    State.fullAtEdge, decide_eq_true_eq, decide_eq_true_eq, and_assoc, or_assoc]
  rfl

theorem heard_line (s : State) (u : Station) : (s.heard u).line = s.line := by simp

theorem heard_blocks (s : State) (u : Station) :
    (s.heard u).ctl = s.ctl ∧ (s.heard u).gate = s.gate ∧ (s.heard u).port = s.port := by simp

/-- Settles O47: the second conflict is FAULT whatever ends the frame; without one only the veto streak moves. -/
theorem conflictsAndLostFrames : Obligations.ConflictsAndLostFrames := by
  intro s hr
  refine ⟨fun hstate => ?conflict, fun c hstate hp hc hrow => ?fault, fun hstate hp => ⟨?truncated, fun frame => ?vetoed⟩⟩
  case conflict =>
    rw [exec_awake hr State.stopAtConflict rfl, State.stopAtConflict, if_pos ((isSending_iff s).mpr hstate)]
    rfl
  case fault =>
    have faults {u : State} (hctl : u.ctl = s.ctl) (hgate : u.gate = s.gate) (hport : u.port = s.port)
        (hpending : u.line.conflictPending = true) (hcount : u.line.conflictCount = 1)
        (hexec : exec c s = .next u.settleConflict) : exec c s = .next u.enterFault ∧
          u.enterFault.ctl = { s.ctl with station := .fault, exhausted := false } ∧
          u.enterFault.table = TableUnit.clear ∧ u.enterFault.timer = TimerUnit.clear ∧
          u.enterFault.sendq = SendQueue.clear ∧ u.enterFault.stack = [] ∧
          (∀ n : Fin 8, u.enterFault.gate[n] = { opened := false, armed := false, ginLow := s.gate[n].ginLow }) ∧
          u.enterFault.line.state = none ∧ u.enterFault.line.inbound = [] ∧ u.enterFault.port =
            { s.port with reports := [{ kind := .fault, subject := 0, grant := 0, detail := 0 }], lost := false } := by
      rw [hexec, settleConflict_fault hpending hcount]
      refine ⟨rfl, by rw [← hctl]; rfl, rfl, rfl, rfl, rfl, fun n => ?_, rfl, rfl, by rw [← hport]; rfl⟩
      rw [← hgate]
      exact closedGates_getElem _ _
    rcases hrow with rfl | ⟨frame, rfl⟩ | ⟨frame, d, rfl, hd, hroom, hlen⟩
    · exact ⟨_, faults (u := s.frameEnded 0) rfl rfl rfl hp hc (exec_truncate hstate hr)⟩
    · exact ⟨_, faults (u := s.frameEnded _) rfl rfl rfl hp hc (exec_veto hstate hr frame)⟩
    · have herror : s.receiveError frame = false := by
        rw [State.receiveError, hd, hp]
        simp
      have hveto := drivesVeto_of_room herror hroom
      by_cases hheard : s.line.frameInHand = true ∧ s.listening = true
      · have hfull : ((s.frameEnded 0).heard d.sender).inboundFull = false := by
          rw [State.inboundFull, heard_line]
          exact decide_eq_false (by simpa [Config.inboundCapacity, State.frameEnded] using hlen)
        have htaken := takeDelivery_appends hfull d
        have hline := heard_line (s.frameEnded 0) d.sender
        obtain ⟨hctl, hgate, hport⟩ := heard_blocks (s.frameEnded 0) d.sender
        refine ⟨_, faults (u := ((s.frameEnded 0).heard d.sender).takeDelivery d) ?_ ?_ ?_ ?_ ?_
          (exec_delivered_received hstate hr hveto hd hheard)⟩ <;> rw [htaken]
        · exact hctl
        · exact hgate
        · exact hport
        · exact (congrArg (·.conflictPending) hline).trans hp
        · exact (congrArg (·.conflictCount) hline).trans hc
      · refine ⟨_, faults (u := s.frameEnded 0) rfl rfl rfl hp hc (exec_delivered_nothing hstate hr hveto ?_)⟩
        rw [not_and_or, Bool.not_eq_true, Bool.not_eq_true] at hheard
        exact hheard.elim .inl fun h => .inr (.inl h)
  case truncated =>
    have hp' : (s.frameEnded 0).line.conflictPending = false := hp
    rw [exec_truncate hstate hr, settleConflict_none hp', frameEnded_receiving hstate]
  case vetoed =>
    have hp' (n : Nat) : (s.frameEnded n).line.conflictPending = false := hp
    rw [exec_veto hstate hr, settleConflict_none (hp' _), frameEnded_receiving hstate]
    refine ⟨_, rfl, fun h => ?_, fun h => ?_⟩ <;> rw [← drivesVeto_iff hp] at h
    · rw [if_pos h]
      rfl
    · rw [if_neg h]

/-! ## The head and the content it is offered with (R58, R71, R127 to R129) -/

/-- Two frames that lead the same queue are the same. -/
theorem Leads.unique {l : List QFrame} {f g : QFrame} (hf : Leads f l) (hg : Leads g l) : f = g := by
  obtain ⟨fb, fa, rfl, hfq, hfb, hfa⟩ := hf
  obtain ⟨gb, ga, hsplit, hgq, hgb, hga⟩ := hg
  rcases List.append_eq_append_iff.mp hsplit with ⟨mid, hmid, htail⟩ | ⟨mid, hmid, htail⟩
  · cases mid with
    | nil => exact (List.cons.inj htail).1
    | cons x mid =>
      obtain ⟨rfl, rfl⟩ := List.cons.inj htail
      have hlt := hgb f (by simp [hmid]) hfq
      have hle := hfa g (by simp) hgq
      omega
  · cases mid with
    | nil => exact (List.cons.inj htail).1.symm
    | cons x mid =>
      obtain ⟨rfl, rfl⟩ := List.cons.inj htail
      have hlt := hfb g (by simp [hmid]) hgq
      have hle := hga f (by simp) hfq
      omega

theorem SendQueue.head_of_leads {q : SendQueue} {f : QFrame} (h : Leads f q.frames) : q.head = some f := by
  cases hq : q.head with
  | none => exact absurd ((q.head_eq_none_iff.mp hq) f h.mem) (by simp [h.isQueued])
  | some g => rw [(SendQueue.head_leads hq).unique h]

theorem State.renewItems_nil_iff (s : State) : s.renewItems = [] ↔ ∀ k ∈ s.stack, ∀ g p, k.state ≠ .held g p := by
  rw [State.renewItems, List.filterMap_eq_nil_iff]
  refine forall₂_congr fun k _ => ?_
  unfold Record.heldGrant
  cases k.state <;> simp

theorem State.renewItems_eq (s : State) : s.renewItems = s.stack.filterMap fun k =>
    match k.state with
    | .held g _ => some (BitVec.ofNat 8 k.resource.val, g)
    | _ => none := by
  refine List.filterMap_congr fun k _ => ?_
  unfold Record.heldGrant
  cases k.state <;> rfl

section
variable {s : State} {before after : List QFrame} {f : QFrame} (hframes : s.sendq.frames = before ++ f :: after)
  (hnodup : (s.sendq.frames.map fun f => f.body.target).Nodup) (hqueued : ∀ f ∈ s.sendq.frames, f.phase = .queued)
include hframes hnodup

/-- No two frames of a queue are of one kind and target (R124). -/
theorem target_ne_of_nodup : ∀ x ∈ before ++ after, x.body.target ≠ f.body.target := by
  rw [hframes, List.map_append, List.map_cons] at hnodup
  have hcons : ((f :: (before ++ after)).map fun f => f.body.target).Nodup := by
    rw [List.map_cons, List.map_append]
    exact (List.perm_middle.nodup_iff).mp hnodup
  intro x hx h
  exact (List.nodup_cons.mp hcons).1 (List.mem_map.mpr ⟨x, hx, h⟩)

include hqueued

theorem startSending_only : s.startSending f = { s with
    sendq := { s.sendq with frames := before ++ { f with phase := .onLine (s.offered f.body) } :: after },
    line := { s.line with state := some .sending, frameInHand := true } } := by
  have hother := target_ne_of_nodup hframes hnodup
  have hkeep (l : List QFrame) (hl : ∀ x ∈ l, x ∈ before ++ after) : l.map (fun x =>
      if x.isQueued && decide (x.body.target = f.body.target) then { x with phase := .onLine (s.offered f.body) }
      else x) = l := by
    refine (List.map_congr_left fun x hx => ?_).trans l.map_id
    rw [if_neg (by simp [hother x (hl x hx)])]
    rfl
  have hf : f.isQueued = true := f.isQueued_iff.mpr (hqueued f (by simp [hframes]))
  rw [State.startSending, hframes, List.map_append, List.map_cons, hkeep before fun x hx => by simp [hx],
    hkeep after fun x hx => by simp [hx], if_pos (by simp [hf])]
  rfl

theorem removeQueued_renew (hf : f.body = .renew) :
    s.sendq.removeQueued (fun b => decide (b = .renew)) = { s.sendq with frames := before ++ after } := by
  have hother := target_ne_of_nodup hframes hnodup
  have hkeep : (before ++ after).filter (fun x => !(x.isQueued && decide (x.body = .renew))) = before ++ after := by
    refine List.filter_eq_self.mpr fun x hx => ?_
    have : x.body ≠ .renew := fun h => hother x hx (by rw [h, hf])
    simp [this]
  rw [List.filter_append] at hkeep
  have hfq : f.isQueued = true := f.isQueued_iff.mpr (hqueued f (by simp [hframes]))
  rw [SendQueue.removeQueued, hframes, List.filter_append, List.filter_cons_of_neg (by simp [hfq, hf]), hkeep]

end

theorem exec_offer {s : State} (hr : s.ctl.inReset = false) : exec .offer s = .next s.offerHead := exec_awake hr _ rfl

/-- Settles O44: the head is unique, and an empty RENEW leaves the offer to the rest of the queue. -/
theorem offerTakesTheHead : Obligations.OfferTakesTheHead := by
  intro s hr
  rw [exec_offer hr]
  refine ⟨fun h => ?cannot, fun h => ?empty, fun hstate hinbound hl hnodup hqueued before f after hframes hbefore hafter => ?_⟩
  case cannot =>
    refine congrArg _ (if_neg fun hmay => h ?_)
    obtain ⟨hstate, hinbound, hl, hnone⟩ := (mayOffer_iff s).mp hmay
    refine ⟨hstate, hinbound, ?_, fun f hf => ?_⟩
    · unfold State.listening StationState.listening at hl
      cases hst : s.ctl.station <;> simp_all
    · have := List.find?_eq_none.mp hnone f hf
      exact f.isQueued_iff.mp (by simpa using this)
  case empty =>
    rw [State.offerHead, h]
    exact congrArg _ (ite_self _)
  have hmay (q : List QFrame) (hq : ∀ f ∈ q, f.phase = .queued) :
      (s.withSendq { s.sendq with frames := q }).mayOffer = true :=
    (mayOffer_iff _).mpr ⟨hstate, hinbound, hl, onLineFrame_of_queued hq⟩
  have hleads : Leads f s.sendq.frames :=
    ⟨before, after, hframes, f.isQueued_iff.mpr (hqueued f (by simp [hframes])), fun x hx _ => hbefore x hx,
      fun x hx _ => hafter x hx⟩
  have hrow : s.offerHead = if f.body = .renew ∧ s.renewItems = [] then
      State.offerFrom (before ++ after).length (s.withSendq (s.sendq.removeQueued fun b => decide (b = .renew)))
      else s.startSending f := by
    have hnow : s.mayOffer = true := hmay _ hqueued
    rw [State.offerHead, if_pos hnow]
    have hlen : s.sendq.frames.length = (before ++ after).length + 1 := by
      rw [hframes]
      simp only [List.length_append, List.length_cons]
      omega
    rw [hlen, State.offerFrom, SendQueue.head_of_leads hleads]
  rw [hrow]
  refine ⟨fun hf hheld => ?renew, fun h => ⟨s.offered f.body, ?offered, ?content⟩⟩
  case renew =>
    have hrest : ∀ x ∈ before ++ after, x.phase = .queued := fun x hx =>
      hqueued x (by rw [hframes]; rcases List.mem_append.mp hx with hx | hx <;> simp [hx])
    rw [if_pos ⟨hf, s.renewItems_nil_iff.mpr hheld⟩, removeQueued_renew hframes hnodup hqueued hf]
    have hnext := exec_offer (s := s.withSendq { s.sendq with frames := before ++ after }) hr
    rw [State.offerHead, if_pos (hmay _ hrest)] at hnext
    exact hnext.symm
  case offered =>
    have hsend : ¬(f.body = .renew ∧ s.renewItems = []) := fun ⟨hf, hnil⟩ => by
      obtain h | ⟨k, hk, g, p, hg⟩ := h
      · exact h hf
      · exact s.renewItems_nil_iff.mp hnil k hk g p hg
    rw [if_neg hsend, startSending_only hframes hnodup hqueued]
  case content =>
    cases f.body with
    | image u a p => cases p <;> rfl
    | renew => exact congrArg Payload.renew s.renewItems_eq
    | claim r m p => cases m <;> cases p <;> rfl
    | _ => rfl

end Sys2Proof.Machine

/-! PROOFS. The outcomes of an offer: a frame that comes back, that is dropped, or that is delivered, and a notice that
finds the inbound queue full (R57, R59, R76, R79, R80, R130 to R137, R149 to R158). -/

namespace Sys2Proof.Machine

open Sys2Proof.Safety

/-! ## A frame that comes back (R130, R131, R135, R137) -/

/-- The staleness of a frame reads the timers' countdowns alone. -/
theorem stale_withTimer {s : State} {tm : TimerUnit} (h : tm.countdowns = s.timer.countdowns) (b : QBody) :
    Stale (s.withTimer tm) b ↔ Stale s b := by
  have hcountdown (r : Resource) (u : Station) (g : Grant) : (s.withTimer tm).countdown r u g = s.countdown r u g :=
    State.countdown_congr h r u g
  have htable : (s.withTimer tm).tableStale b = s.tableStale b := by
    cases b with
    | lapse r u g => simp only [State.tableStale, hcountdown]; rfl
    | _ => rfl
  have hstate : (s.withTimer tm).stateStale b = s.stateStale b := by cases b <;> rfl
  rw [Stale, Stale, htable, hstate]

/-- A frame comes back at a row that ends in a comeback within the retry limit. -/
theorem comeBack_row {s : State} {before after : List QFrame} {f : QFrame} {content : Payload} {c : Instr}
    {l : LineUnit} {tm : TimerUnit} (hline : OnLine s before f content after) (counts : Bool)
    (hcs : tm.countdowns = s.timer.countdowns) (hlimit : counts = true → f.retries + 1 ≤ s.ctl.retryLimit.toNat)
    (hexec : exec c s = .next (((s.withTimer tm).withLine l).comeBack counts)) :
    (WithdrawnClaim s f.body → exec c s = .next (({ s with
        line := l, timer := tm, sendq := { s.sendq with frames := before ++ after },
        stack := s.stack.filter fun k => decide (k.resource ≠ f.body.resource) }).raise
          { kind := .withdrawn, subject := f.body.resource, grant := 0, detail := 0 })) ∧
    (¬WithdrawnClaim s f.body → Stale s f.body →
      exec c s = .next { s with line := l, timer := tm, sendq := { s.sendq with frames := before ++ after } }) ∧
    (¬WithdrawnClaim s f.body → ¬Stale s f.body → exec c s = .next { s with
      line := l, timer := tm,
      sendq := { s.sendq with frames := before ++
        { f with phase := .queued, retries := if counts then f.retries + 1 else f.retries } :: after } }) := by
  have hline' : OnLine (s.withTimer tm) before f content after := hline
  obtain ⟨hwithdrawn, hstale, hback⟩ := comeBack_spec hline' counts l hlimit
  rw [stale_withTimer hcs] at hstale hback
  rw [hexec]
  exact ⟨fun hw => congrArg _ (hwithdrawn hw), fun hw hs => congrArg _ (hstale hw hs),
    fun hw hs => congrArg _ (hback hw hs)⟩

theorem settleConflict_first {s : State} (hp : s.line.conflictPending = true) (hc : s.line.conflictCount = 0) :
    s.settleConflict = (s.withLine { s.line with conflictPending := false, conflictCount := 1 }).comeBack true := by
  rw [State.settleConflict, if_pos hp, hc]
  rfl

/-- The timer that a sender loads (R57, R59). -/
theorem heard_eq (s : State) (u : Station) : s.heard u = s.withTimer (
    if u = s.self then { s.timer with presence := .running s.timeParams.presenceMs }
    else if s.timer.silence[u] ≠ .stopped ∧ s.ctl.station.inBank = true then
      { s.timer with silence := s.timer.silence.set u (.running s.timeParams.silenceLimitMs) }
    else s.timer) := by
  have hlive : (s.timer.silence[u].live && s.ctl.station.inBank) = true ↔
      s.timer.silence[u] ≠ .stopped ∧ s.ctl.station.inBank = true := by
    rw [Bool.and_eq_true]
    refine and_congr_left fun _ => ?_
    cases s.timer.silence[u] <;> simp [Timer.live]
  unfold State.heard
  split
  · rfl
  · by_cases h : s.timer.silence[u] ≠ .stopped ∧ s.ctl.station.inBank = true
    · rw [if_pos (hlive.mpr h), if_pos h]
    · rw [if_neg (mt hlive.mp h), if_neg h]
      rfl

theorem exec_arbitrationLost {s : State} (hr : s.ctl.inReset = false) (hstate : s.line.state = some .sending) :
    exec .arbitrationLost s =
      .next ((s.withLine { s.line with state := some .receiving, frameInHand := true }).comeBack false) := by
  rw [exec_awake hr State.loseArbitration rfl, State.loseArbitration, if_pos ((isSending_iff s).mpr hstate)]

theorem exec_veto_sending {s : State} (hr : s.ctl.inReset = false) (hstate : s.line.state = some .sending)
    (frame : RxFrame) : exec (.frameVetoed frame) s = .next ((s.frameEnded 0).comeBack true) := by
  rw [exec_awake hr (fun s => s.veto frame) rfl, State.veto, if_pos ((isSending_iff s).mpr hstate)]

/-- When a station stopped at a conflict drives the veto cell of the frame (R155; log entry 12). -/
theorem drivesVeto_conflict_iff {s : State} (hp : s.line.conflictPending = true) (frame : RxFrame) :
    s.drivesVeto frame = true ↔ s.line.frameInHand = true ∧ (s.listening = true ∧
      ¬(frame.joinedSince = true ∧ s.ctl.station = .joining)) ∧ (receive frame = none ∨
        (4 ≤ s.line.inbound.length + frame.appliedSince ∧ s.line.vetoStreak < 8)) := by
  have herror : s.receiveError frame = true ↔ receive frame = none := by
    unfold State.receiveError
    cases receive frame <;> simp [hp]
  rw [State.drivesVeto, Bool.and_eq_true, Bool.and_eq_true, listenedAtEdge_iff, Bool.or_eq_true, herror, Bool.and_eq_true,
    State.fullAtEdge, decide_eq_true_eq, decide_eq_true_eq, and_assoc]
  rfl

/-- Settles O45: every row of the statement ends in a comeback, with the line and the timers it gives. -/
theorem ownFrameComesBack : Obligations.OwnFrameComesBack := by
  intro s before after f content c l n tm hr hline settled hrow
  rcases hrow with ⟨rfl, hstate, rfl, rfl, rfl⟩ | ⟨frame, rfl, hstate, rfl, rfl, hlimit, rfl⟩ |
    ⟨hstate, hp, hc, rfl, hlimit, hend⟩
  · exact comeBack_row hline false rfl nofun (exec_arbitrationLost hr hstate)
  · exact comeBack_row hline true rfl (fun _ => hlimit) (exec_veto_sending hr hstate frame)
  · rcases hend with ⟨rfl, rfl, rfl⟩ | ⟨frame, rfl, rfl, rfl⟩ | ⟨frame, d, rfl, hd, hhand, hl, hroom, hlen, rfl, rfl⟩
    · refine comeBack_row hline true rfl (fun _ => hlimit) ((exec_truncate hstate hr).trans (congrArg _ ?_))
      rw [frameEnded_receiving hstate]
      exact settleConflict_first hp hc
    · refine comeBack_row hline true rfl (fun _ => hlimit) ((exec_veto hstate hr frame).trans (congrArg _ ?_))
      rw [frameEnded_receiving hstate]
      simp only [drivesVeto_conflict_iff hp]
      exact settleConflict_first hp hc
    · have herror : s.receiveError frame = false := by
        rw [State.receiveError, hd, hp]
        simp
      have hfull : ((s.frameEnded 0).heard d.sender).inboundFull = false := by
        rw [State.inboundFull, heard_line]
        exact decide_eq_false (by simpa [Config.inboundCapacity, State.frameEnded] using hlen)
      have hexec := exec_delivered_received hstate hr (drivesVeto_of_room herror hroom) hd ⟨hhand, hl⟩
      refine comeBack_row hline true ?_ (fun _ => hlimit) (hexec.trans (congrArg _ ?_))
      · split
        · rfl
        · split <;> rfl
      · rw [takeDelivery_appends hfull, heard_eq, frameEnded_receiving hstate]
        exact settleConflict_first hp hc

/-! ## A frame that is dropped (R131 to R133) -/

theorem exec_veto_drops {s : State} {before after : List QFrame} {f : QFrame} {content : Payload} (frame : RxFrame)
    (hr : s.ctl.inReset = false) (hline : OnLine s before f content after) (hstate : s.line.state = some .sending)
    (hw : ¬WithdrawnClaim s f.body) (hlimit : s.ctl.retryLimit.toNat ≤ f.retries) :
    exec (.frameVetoed frame) s = .next (State.dropFrame { s with
      line := { s.line with state := some .receiving, frameInHand := false, vetoStreak := 0 },
      sendq := { s.sendq with frames := before ++ after } } f) :=
  (exec_veto_sending hr hstate frame).trans (congrArg _ (comeBack_drops hline _ hw hlimit))

theorem dropFrame_unmarked {s : State} {f : QFrame} (hmark : f.hostMark = false) (himage : f.body.isImage = false) :
    s.dropFrame f = s := by
  rw [State.dropFrame, hmark, if_neg (by nofun)]
  cases hb : f.body with
  | image => rw [hb] at himage; cases himage
  | _ => rfl

theorem dropFrame_marked {s : State} {f : QFrame} (hmark : f.hostMark = true) : s.dropFrame f =
    (s.raise { kind := .sendFailed, subject := f.body.resource, grant := 0,
               detail := BitVec.ofNat 4 f.body.kind }).hostDrop f.body := by
  rw [State.dropFrame, if_pos hmark]

theorem onlyRecord_of_stack {s t : State} {below above : List Record} {k : Record} (h : OnlyRecord s below k above)
    (hstack : t.stack = s.stack) : OnlyRecord t below k above := ⟨hstack.trans h.1, h.2⟩

theorem gateLaw_of_same {s t : State} (h : GateLaw s) (hctl : t.ctl = s.ctl) (hstack : t.stack = s.stack)
    (hcs : t.timer.countdowns = s.timer.countdowns) (hgate : t.gate = s.gate) : GateLaw t := fun n => by
  rw [hgate, State.gateCondition_congr (t := s) (by rw [hctl]) (by rw [hctl]) hstack hcs]
  exact h n

/-- Gates none of whose outputs is low are evaluated without a report. -/
theorem evalGates_port_of_high {s : State} (h : ∀ n : Fin 8, s.gate[n].goutLow = false) (d : BitVec 4) :
    (s.evalGates d).port = s.port := by
  have hfold (l : List (Fin 8)) (u : State) (hport : u.port = s.port)
      (hhigh : ∀ n : Fin 8, u.gate[n].goutLow = false) :
      (l.foldl (fun s n => s.evalChannel n d (s.channelGrant n)) u).port = s.port := by
    induction l generalizing u with
    | nil => exact hport
    | cons m l ih =>
      refine ih _ ?_ fun n => ?_
      · rw [State.evalChannel_port, if_neg fun h => absurd (h.2.symm.trans (hhigh m)) nofun, hport]
      · by_cases hn : n = m
        · subst hn
          rw [State.evalChannel_gate_self]
          split
          next hsame => rw [hsame]; exact hhigh n
          next => simp [Channel.goutLow]
        · rw [State.evalChannel_gate_other _ _ _ _ _ hn]
          exact hhigh n
  exact hfold all8 s rfl h

theorem goutLow_of_closed {c : Channel} (h : c.opened = false) : c.goutLow = false := by
  rw [Channel.goutLow, h]
  rfl

/-- Settles O46: the drop is SEND_FAILED and the effect of the command's kind. -/
theorem dropAtTheRetryLimit : Obligations.DropAtTheRetryLimit := by
  intro s before after f content frame hr hline hstate hw hlimit l u failed
  rw [exec_veto_drops frame hr hline hstate hw hlimit]
  refine ⟨fun hmark himage => congrArg _ (dropFrame_unmarked hmark himage), fun hmark v a p hb => ?image, fun hmark => ?_⟩
  case image =>
    have hdrop : State.dropFrame u f = (u.withTable { u.table with
        transfers := u.table.transfers.filter fun i => decide (i.target ≠ v) }).placeImage := by
      rw [State.dropFrame, hmark, if_neg (by nofun), hb]
    obtain ⟨added, hadded, -⟩ := (u.withTable { u.table with
      transfers := u.table.transfers.filter fun i => decide (i.target ≠ v) }).placeImage_addsFrames
    refine ⟨_, congrArg _ (hdrop.trans hadded), rfl, rfl, rfl, rfl, rfl, rfl, rfl, ?_⟩
    exact List.take_left' rfl
  have hdrop := dropFrame_marked (s := u) hmark
  refine ⟨fun r m p below k above hb hstack hk hsending => ?claim, fun r g hb => ?release,
    fun r below k above hb hstack hk howed => ?withdraw, fun hb => ?renew, fun a p hb hst hg => ?join,
    fun hb hst hg => ?leave⟩
  case claim =>
    subst hk
    rw [hb] at hdrop
    obtain ⟨-, -, -, -, hvstack, -⟩ := u.raise_frame (failed k.resource 8)
    have hstack' : OnlyRecord (u.raise (failed k.resource 8)) below k above := onlyRecord_of_stack hstack hvstack
    have hany : ((u.raise (failed k.resource 8)).recordOf k.resource).any Record.isSending = true := by
      rw [State.recordOf_only hstack']
      exact decide_eq_true hsending
    have hrecord := State.popRecord_only hstack'
    exact congrArg _ (hdrop.trans ((if_pos hany).trans hrecord))
  case release =>
    rw [hb] at hdrop
    exact congrArg _ hdrop
  case withdraw =>
    subst hk
    rw [hb] at hdrop
    obtain ⟨-, -, -, -, hvstack, -⟩ := u.raise_frame (failed k.resource 5)
    have hstack' : OnlyRecord (u.raise (failed k.resource 5)) below k above := onlyRecord_of_stack hstack hvstack
    have hany : ((u.raise (failed k.resource 5)).recordOf k.resource).any Record.owesWithdraw = true := by
      rw [State.recordOf_only hstack']
      exact decide_eq_true howed
    have hrecord := State.setRecord_only hstack' .waiting
    exact congrArg _ (hdrop.trans ((if_pos hany).trans hrecord))
  case renew =>
    rw [hb] at hdrop
    exact congrArg _ hdrop
  case join =>
    rw [hb] at hdrop
    obtain ⟨vctl, vtable, vtimer, vsendq, vstack, vgate, vline, -⟩ := u.raise_frame (failed 0 9)
    have hg' : GateLaw (u.raise (failed 0 9)) := gateLaw_of_same hg vctl vstack (by rw [vtimer]) vgate
    have hst' : (u.raise (failed 0 9)).ctl.station = .joining := by rw [vctl]; exact hst
    refine ⟨_, congrArg _ (hdrop.trans ((if_pos hst').trans (State.returnToReady_of_joining hst' hg'))), ?_, rfl, rfl, rfl,
      vstack, vgate, ?_, rfl⟩
    · exact congrArg (fun c : Controller => { c with station := .ready, exhausted := false }) vctl
    · exact congrArg LineUnit.release vline
  case leave =>
    rw [hb] at hdrop
    obtain ⟨vctl, vtable, vtimer, vsendq, vstack, vgate, vline, -⟩ := u.raise_frame (failed 0 6)
    have hst' : (u.raise (failed 0 6)).ctl.station = .leaving := by rw [vctl]; exact hst
    have hclosed (n : Fin 8) : (u.raise (failed 0 6)).gate[n].opened = false := by
      rw [vgate]
      exact (hg n).1.trans (State.gateCondition_of_not_member (by rw [hst]; nofun) n)
    have hdrop' : State.dropFrame u f =
        (((u.raise (failed 0 6)).withCtl { (u.raise (failed 0 6)).ctl with station := .member }).stateCheck).evalGates 3 :=
      hdrop.trans (if_pos hst')
    generalize hv : u.raise (failed 0 6) = v at *
    have hports := evalGates_port_of_high (s := (v.withCtl { v.ctl with station := .member }).stateCheck)
      (fun n => goutLow_of_closed (hclosed n)) 3
    have hopen := openLaw_evalGates (v.withCtl { v.ctl with station := .member }).stateCheck 3
    obtain ⟨ectl, etable, etimer, -, estack, -, eline, -⟩ :=
      ((v.withCtl { v.ctl with station := .member }).stateCheck).evalGates_frame 3
    generalize ((v.withCtl { v.ctl with station := .member }).stateCheck).evalGates 3 = w at *
    exact ⟨w, congrArg _ hdrop', ectl.trans (congrArg (fun c : Controller => { c with station := .member }) vctl),
      etable.trans vtable, etimer.trans vtimer, estack.trans vstack, eline.trans vline, hports, hopen⟩

end Sys2Proof.Machine

/-! PROOFS. The teardown of a station that leaves the bank (R80, R108, R109, R202, R203), and FRAME_DELIVERED (R57, R59,
R76, R79, R130, R152, R156). -/

namespace Sys2Proof.Machine

open Sys2Proof.Safety

/-! ## The teardown (R49, R80, R108, R109, R202, R203) -/

/-- The blocks of a station that is torn down, whatever the visits of its records do. -/
structure TornDown (s t : State) : Prop where
  ctl : t.ctl = { s.ctl with station := .ready, exhausted := false }
  table : t.table = TableUnit.clear
  timer : t.timer = TimerUnit.clear
  sendq : t.sendq = SendQueue.clear
  line : t.line = s.line.release

/-- The end of a teardown: the blocks that READY has clear, the gates evaluated, and the last report. -/
theorem tornDown_of_inner {s u : State} (hctl : u.ctl = s.ctl) (hline : u.line = s.line) (d : BitVec 4) (r : Report) :
    TornDown s (((u.clearToReady).evalGates d).raise r) := by
  obtain ⟨ectl, etable, etimer, esendq, -, -, eline, -⟩ := (u.clearToReady).evalGates_frame d
  generalize (u.clearToReady).evalGates d = w at *
  obtain ⟨rctl, rtable, rtimer, rsendq, -, -, rline, -⟩ := w.raise_frame r
  refine ⟨?_, rtable.trans etable, rtimer.trans etimer, rsendq.trans esendq, ?_⟩
  · rw [rctl, ectl, ← hctl]
    rfl
  · rw [rline, eline, ← hline]
    rfl

/-- The state in which the records are visited (R202). -/
def State.tornTables (s : State) : State := (s.withTable TableUnit.clear).withTimer TimerUnit.clear

theorem State.teardownLeave_eq (s : State) (d : BitVec 4) : s.teardownLeave d =
    (((s.stack.reverse.foldl State.leaveRecord s.tornTables).clearToReady).evalGates Config.leaveCutDetail).raise
      { kind := .left, subject := 0, grant := 0, detail := d } := rfl

theorem State.teardownEvict_eq (s : State) : s.teardownEvict =
    (((s.stack.reverse.foldl State.evictRecord s.tornTables).clearToReady).evalGates 2).raise
      { kind := .evicted, subject := 0, grant := 0, detail := 0 } := rfl

theorem teardownLeave_tornDown (s : State) (d : BitVec 4) : TornDown s (s.teardownLeave d) := by
  have hvisited := Inner.foldl (f := State.leaveRecord) s.stack.reverse s.tornTables fun s k => (leaveRecord_visited s k).1
  rw [State.teardownLeave_eq]
  generalize s.stack.reverse.foldl State.leaveRecord s.tornTables = u at *
  exact tornDown_of_inner (s := s) hvisited.ctl hvisited.line _ _

theorem teardownEvict_tornDown (s : State) : TornDown s s.teardownEvict := by
  have hvisited := Inner.foldl (f := State.evictRecord) s.stack.reverse s.tornTables fun s k => (evictRecord_visited s k).1
  rw [State.teardownEvict_eq]
  generalize s.stack.reverse.foldl State.evictRecord s.tornTables = u at *
  exact tornDown_of_inner (s := s) hvisited.ctl hvisited.line _ _

/-- The teardown of an empty stack whose gates are closed raises the last report alone. -/
theorem teardownLeave_port_of_empty {s : State} (hstack : s.stack = []) (hclosed : ∀ n : Fin 8, s.gate[n].opened = false)
    (d : BitVec 4) : (s.teardownLeave d).port = (s.raise { kind := .left, subject := 0, grant := 0, detail := d }).port := by
  have hport := evalGates_port_of_high (s := s.tornTables.clearToReady) (fun n => goutLow_of_closed (hclosed n))
    Config.leaveCutDetail
  have hraise := State.raise_port_congr (t := s) hport { kind := .left, subject := 0, grant := 0, detail := d }
  rw [State.teardownLeave_eq, hstack]
  exact hraise

/-! ## FRAME_DELIVERED (R57, R59, R76, R79, R80, R130, R152, R156) -/

theorem exec_delivered_own {s : State} {before after : List QFrame} {f : QFrame} {content : Payload} (frame : RxFrame)
    (hr : s.ctl.inReset = false) (hline : OnLine s before f content after) (hstate : s.line.state = some .sending) :
    exec (.frameDelivered frame) s = .next (s.deliverOwn f content) := by
  obtain ⟨hf, -⟩ := onLine_spec hline
  rw [exec_awake hr (fun s => s.deliver frame) rfl, State.deliver, if_pos ((isSending_iff s).mpr hstate), hf]
  simp only [hline.2.1]

theorem dropNotice_member {s : State} (hst : s.ctl.station = .member) :
    s.dropNotice = (s.enterResync 1).request (.sync 0) .general := by
  rw [State.dropNotice, hst]

theorem dropNotice_leaving {s : State} (hst : s.ctl.station = .leaving) : s.dropNotice = s.teardownLeave 0 := by
  rw [State.dropNotice, hst]

theorem dropNotice_pending {s : State} {ip : ImagePending} (hst : s.ctl.station = .joining ∨ s.ctl.station = .resync)
    (hip : s.table.imagePending = some ip) : s.dropNotice = s.withTable { s.table with
      imagePending := some (if ip.membershipInstalled then { ip with spoiled := true } else ip) } := by
  have hdrop : s.dropNotice = if s.table.imagePending.any (·.membershipInstalled) then s.spoil else s := by
    rcases hst with hst | hst <;> rw [State.dropNotice, hst]
  rw [hdrop, State.spoil, State.updateImagePending, hip]
  cases hm : ip.membershipInstalled with
  | true =>
    refine (if_pos hm).trans ?_
    rw [if_pos rfl, Option.map_some, hm]
  | false =>
    refine (if_neg (by simp [hm])).trans ?_
    rw [if_neg (by nofun), ← hip]
    rfl

section
variable {s : State} {frame : RxFrame} {n : Notice}

/-- A station that did not drive the veto cell: no receive error at its edge, or it did not listen then. -/
theorem drivesVeto_false (hn : receive frame = some n) (hown : n.sender ≠ s.self ∨ ¬ListenedAtEdge s frame)
    (hroom : RoomAtEdge s frame) : s.drivesVeto frame = false := by
  by_cases hl : ListenedAtEdge s frame
  · have hne := hown.resolve_right fun h => h hl
    exact drivesVeto_of_room (by rw [State.receiveError, hn]; simp [hne]) hroom
  · rw [← listenedAtEdge_iff, Bool.not_eq_true] at hl
    rw [State.drivesVeto, hl]
    simp

theorem drivesVeto_not_edge (hl : ¬ListenedAtEdge s frame) : s.drivesVeto frame = false := by
  rw [← listenedAtEdge_iff, Bool.not_eq_true] at hl
  rw [State.drivesVeto, hl]
  simp

end

/-- The silence timers after a delivery (R59). -/
def heardSilence (s : State) (u : Station) : Vector Timer 16 :=
  if u ≠ s.self ∧ s.timer.silence[u] ≠ .stopped ∧ s.ctl.station.inBank = true then
    s.timer.silence.set u (.running s.timeParams.silenceLimitMs)
  else s.timer.silence

theorem heard_timers (s : State) (u : Station) : s.heard u = s.withTimer { s.timer with
    silence := heardSilence s u,
    presence := if u = s.self then .running s.timeParams.presenceMs else s.timer.presence } := by
  rw [heard_eq, heardSilence]
  congr 1
  by_cases hu : u = s.self
  · rw [if_pos hu, if_pos hu, if_neg fun h => h.1 hu]
  · rw [if_neg hu, if_neg hu]
    split
    next h => rw [if_pos ⟨hu, h⟩]
    next h => rw [if_neg fun h' => h h'.2]

theorem heardSilence_other {s : State} {u p : Station} (h : p ≠ u ∨ u = s.self) :
    (heardSilence s u)[p] = s.timer.silence[p] := by
  rw [heardSilence]
  split
  next hu =>
    have hne : p ≠ u := h.resolve_right hu.1
    exact Vector.getElem_set_ne _ _ fun h => hne (Fin.ext h.symm)
  · rfl

/-- Settles O48: by the station's part in the frame, and by the room in its inbound queue. -/
theorem deliveryAppends : Obligations.DeliveryAppends := by
  intro s frame hr
  refine ⟨fun before f content after hstate hline => ?own, fun hstate hp => ⟨fun hl => ?deaf, fun hhand hedge hnone => ?error,
    fun n hl hhand hn hown hroom => ⟨fun hlen => ?room, fun hlen hne => ?full⟩⟩⟩
  case own =>
    obtain ⟨-, hremove, -⟩ := onLine_spec hline
    rw [exec_delivered_own frame hr hline hstate]
    have hown : s.deliverOwn f content = { s with
        sendq := { s.sendq.removeOnLine with awaiting := some f },
        timer := { s.timer with presence := .running s.timeParams.presenceMs },
        line := { s.line with state := some .receiving, frameInHand := false, vetoStreak := 0, conflictCount := 0,
                              inbound := s.line.inbound ++ [{ sender := s.self, body := content }] } } := if_pos rfl
    rw [hown, hremove]
  case deaf =>
    have hnot : ¬ListenedAtEdge s frame := fun h => absurd (h.1.symm.trans hl) nofun
    rw [exec_delivered_nothing hstate hr (drivesVeto_not_edge hnot) (.inr (.inl hl)), settleConflict_none (s := s.frameEnded 0) hp,
      frameEnded_receiving hstate]
  case error =>
    rw [exec_delivered_nothing hstate hr (drivesVeto_not_edge hedge) (.inr (.inr hnone)),
      settleConflict_none (s := s.frameEnded 0) hp, frameEnded_receiving hstate]
  all_goals
    have hexec := exec_delivered_received hstate hr (drivesVeto_false hn hown hroom) hn ⟨hhand, hl⟩
    rw [frameEnded_receiving hstate] at hexec
    generalize hs1 : ({ s with line := { s.line with frameInHand := false, vetoStreak := 0 } } : State) = s1 at hexec
  case room =>
    have hfull : (s1.heard n.sender).inboundFull = false := by
      rw [State.inboundFull, heard_line, ← hs1]
      exact decide_eq_false (by simpa [Config.inboundCapacity] using hlen)
    rw [takeDelivery_appends hfull, settleConflict_none (by rw [State.withLine_line, heard_line, ← hs1]; exact hp)] at hexec
    rw [heard_timers, ← hs1] at hexec
    refine ⟨heardSilence s n.sender, hexec, fun p => ?_, fun hstopped => ?_, fun hlive hbank hne => ?_⟩
    · exact heardSilence_other
    · rw [heardSilence, if_neg fun h => h.2.1 hstopped, hstopped]
    · rw [heardSilence, if_pos ⟨hne, hlive, hbank⟩]
      exact Vector.getElem_set_self _
  case full =>
    have hfull : (s1.heard n.sender).inboundFull = true := by
      rw [State.inboundFull, heard_line, ← hs1]
      exact decide_eq_true hlen
    have hline := dropNotice_line (s1.heard n.sender)
    rw [heard_line, ← hs1] at hline
    have hpending : ((s1.heard n.sender).dropNotice).line.conflictPending = false := by
      rw [← hs1]
      rcases hline with hline | hline <;> rw [hline]
      · exact hp
      · rfl
    rw [State.takeDelivery, if_pos hfull, settleConflict_none hpending] at hexec
    have hblocks : (s1.heard n.sender).ctl = s.ctl ∧ (s1.heard n.sender).table = s.table ∧
        (s1.heard n.sender).stack = s.stack ∧ (s1.heard n.sender).gate = s.gate ∧ (s1.heard n.sender).port = s.port ∧
        (s1.heard n.sender).sendq = s.sendq ∧
        (s1.heard n.sender).line = { s.line with frameInHand := false, vetoStreak := 0 } := by
      rw [← hs1]
      simp
    generalize s1.heard n.sender = v at *
    obtain ⟨vctl, vtable, vstack, vgate, vport, vsendq, vline⟩ := hblocks
    refine ⟨_, hexec, fun hst => ?_, fun hst => ?_, fun hst ip hip => ?_⟩
    · rw [dropNotice_member (by rw [vctl]; exact hst)]
      obtain ⟨ectl, etable, etimer, estack, eline, egate, ereports, esub, eawait, -⟩ := v.enterResync_spec 1
      generalize v.enterResync 1 = e at *
      obtain ⟨added, hadded, -⟩ := e.request_addsFrames (.sync 0) .general
      rw [State.raise_port_congr vport] at ereports
      refine ⟨?_, ?_, ?_, ?_, fun m => ?_, ?_, fun hroom => ?_⟩
      · rw [hadded, ← vctl]
        exact ectl
      · rw [hadded, ← vtable]
        exact etable
      · rw [hadded, ← vstack]
        exact estack
      · rw [hadded, ← vline]
        exact eline
      · rw [hadded]
        exact egate m
      · rw [hadded]
        exact ereports
      · have hroom' : GeneralRoom e (.sync 0) := generalRoom_of_sublist hroom (by rwa [vsendq] at esub)
          fun f hf => by rwa [eawait, vsendq] at hf
        rw [State.request_general hroom']
        exact List.mem_append_right _ (List.mem_singleton.mpr rfl)
    · rw [dropNotice_leaving (by rw [vctl]; exact hst)]
      obtain ⟨tctl, ttable, ttimer, tsendq, tline⟩ := teardownLeave_tornDown v 0
      refine ⟨tctl.trans (by rw [vctl]), ttable, ttimer, tsendq, ?_, fun hempty hgates => ?_⟩
      · rw [tline, vline, LineUnit.release, if_neg (by rw [hstate]; nofun), hp]
      · rw [teardownLeave_port_of_empty (vstack.trans hempty) fun m => ?_]
        · exact State.raise_port_congr vport _
        · rw [vgate, (hgates m).1]
          exact State.gateCondition_of_not_member (by rw [hst]; nofun) m
    · rw [dropNotice_pending (by rw [vctl]; exact hst) (by rw [vtable]; exact hip)]
      exact ⟨vctl, vline, vport, by rw [← vtable]; rfl⟩

end Sys2Proof.Machine

/-! PROOFS. What the events of the table unit make of one record of the claim stack and of its channel (R93, R95, R96,
R98, R100, R101, R113 to R116), and the application of a CLAIM (R13 to R16). -/

namespace Sys2Proof.Machine

open Sys2Proof.Safety

/-! ## What concerns the gate of one resource (R113) -/

/-- Nothing but one resource's record and this station's countdown for it has changed of what the gates stand by. -/
structure GatesBut (r : Resource) (s t : State) : Prop where
  ctl : t.ctl = s.ctl
  gate : t.gate = s.gate
  record : ∀ r', r' ≠ r → t.recordOf r' = s.recordOf r'
  countdown : ∀ r', r' ≠ r → ∀ g, t.countdown r' s.self g = s.countdown r' s.self g

section
variable {r : Resource} {s t u : State}

theorem GatesBut.of_same (hctl : t.ctl = s.ctl) (hgate : t.gate = s.gate) (hstack : t.stack = s.stack)
    (hcs : t.timer.countdowns = s.timer.countdowns) : GatesBut r s t :=
  ⟨hctl, hgate, fun r' _ => by rw [State.recordOf, hstack]; rfl, fun r' _ g => State.countdown_congr hcs ..⟩

theorem GatesBut.refl (r : Resource) (s : State) : GatesBut r s s := .of_same rfl rfl rfl rfl

theorem GatesBut.trans (h : GatesBut r s t) (h' : GatesBut r t u) : GatesBut r s u where
  ctl := h'.ctl.trans h.ctl
  gate := h'.gate.trans h.gate
  record r' hr := (h'.record r' hr).trans (h.record r' hr)
  countdown r' hr g := by
    have hself : t.self = s.self := congrArg (·.number) h.ctl
    have := h'.countdown r' hr g
    rw [hself] at this
    exact this.trans (h.countdown r' hr g)

theorem GatesBut.gateCondition (h : GatesBut r s t) {n : Fin 8} (hn : channelResource n ≠ r) :
    t.gateCondition n = s.gateCondition n := by
  have hself : t.self = s.self := congrArg (·.number) h.ctl
  simp only [State.gateCondition, h.ctl, hself, h.record _ hn, h.countdown _ hn]

/-- A resource without a HELD record before and after leaves every gate as it stands. -/
theorem GatesBut.openLaw (h : GatesBut r s t) (hs : OpenLaw s) (hbefore : NotHeld s r) (hafter : NotHeld t r) :
    OpenLaw t := by
  refine hs.congr h.gate fun n => ?_
  by_cases hn : channelResource n = r
  · subst hn
    rw [hbefore.gateCondition, hafter.gateCondition]
  · exact h.gateCondition hn

/-- The evaluation of the resource's channel brings the gates back to their law. -/
theorem GatesBut.openLaw_evalResource (h : GatesBut r s t) (hs : OpenLaw s) (d : BitVec 4) (g : Grant) :
    OpenLaw (t.evalResource r d g) :=
  Machine.openLaw_evalResource (fun n hn => by rw [h.gate, h.gateCondition hn]; exact hs n) d g

variable (s r)

theorem gatesBut_setRecord (st : RecordState) : GatesBut r s (s.setRecord r st) :=
  ⟨rfl, rfl, fun _ h => recordOf_setRecord_other s h st, fun _ _ _ => rfl⟩

theorem gatesBut_popRecord : GatesBut r s (s.popRecord r) :=
  ⟨rfl, rfl, fun _ h => recordOf_popRecord_other s h, fun _ _ _ => rfl⟩

theorem gatesBut_loadCountdown (h : Station) (g : Grant) : GatesBut r s (s.loadCountdown r h g) :=
  ⟨rfl, rfl, fun _ _ => rfl, fun r' hr g' => by
    rw [State.countdown_loadCountdown, if_neg fun heq => hr (congrArg Prod.fst heq)]⟩

theorem gatesBut_discardCountdown (h : Station) (g : Grant) : GatesBut r s (s.discardCountdown r h g) :=
  ⟨rfl, rfl, fun _ _ => rfl, fun r' hr g' => by
    rw [State.countdown_discardCountdown, if_neg fun heq => hr (congrArg Prod.fst heq)]⟩

theorem gatesBut_raise (x : Report) : GatesBut r s (s.raise x) := by
  obtain ⟨hctl, -, htimer, -, hstack, hgate, -⟩ := s.raise_frame x
  exact .of_same hctl hgate hstack (by rw [htimer])

theorem gatesBut_setEntry (e : Entry) : GatesBut r s (s.setEntry r e) := .of_same rfl rfl rfl rfl

end

theorem State.report_port_congr {s t : State} (h : s.port = t.port) (kind : ReportKind) (r : Resource) (g : Grant)
    (d : BitVec 4) :
    (s.report kind r g d).port = (t.raise { kind := kind, subject := r, grant := g, detail := d }).port :=
  State.raise_port_congr h _

theorem high_of_notHeld {s : State} (hs : OpenLaw s) {r : Resource} (h : NotHeld s r) :
    ∀ n : Fin 8, channelResource n = r → s.gate[n].goutLow = false := by
  rintro n rfl
  exact goutLow_of_closed ((hs n).trans h.gateCondition)

theorem evalResource_port_of_high {s : State} {r : Resource}
    (h : ∀ n : Fin 8, channelResource n = r → s.gate[n].goutLow = false) (d : BitVec 4) (g : Grant) :
    (s.evalResource r d g).port = s.port := by
  by_cases hr : r.val < 8
  · obtain ⟨n, rfl⟩ := channelResource_surj hr
    rw [State.evalResource_channel, State.evalChannel_port, if_neg]
    rw [h n rfl]
    nofun
  · rw [State.evalResource_no_channel (by omega)]

/-! ## One record of the stack (R93, R95, R96, R98, R100, R101) -/

/-- What an event leaves: this stack, this port, and the gates as their law says. -/
structure Settled (t : State) (stack : List Record) (port : HostPort) : Prop where
  stack : t.stack = stack
  port : t.port = port
  openLaw : OpenLaw t

/-- The end of an application leaves what an event has settled. -/
theorem Settled.finish {t : State} {stack : List Record} {port : HostPort} (h : Settled t stack port) (s0 : State) :
    (State.finish s0 t).stack = stack ∧ (State.finish s0 t).port = port ∧ (State.finish s0 t).gate = t.gate := by
  obtain ⟨hgate, hport⟩ := State.finish_of_lawful s0 t h.openLaw
  exact ⟨((State.finish_frame s0 t).2.2.2.2.2.1).trans h.stack, hport.trans h.port, hgate⟩

theorem Settled.of_port {t : State} {stack : List Record} {port port' : HostPort} (h : Settled t stack port)
    (heq : port = port') : Settled t stack port' := heq ▸ h

section
variable {s : State} {below above : List Record} {k : Record} (honly : OnlyRecord s below k above)
include honly

theorem notHeld_of_only (h : k.isHeld = false) : NotHeld s k.resource :=
  NotHeld.of_record (State.recordOf_only honly) h

theorem onlyRecord_setRecord (st : RecordState) :
    OnlyRecord (s.setRecord k.resource st) below { k with state := st } above :=
  ⟨congrArg (·.stack) (State.setRecord_only honly st), honly.2⟩

/-- The record takes a state without a hold. -/
theorem settled_setRecord (hopen : OpenLaw s) (hk : k.isHeld = false) {st : RecordState} (hst : ∀ g p, st ≠ .held g p) :
    Settled (s.setRecord k.resource st) (below ++ { k with state := st } :: above) s.port :=
  ⟨(onlyRecord_setRecord honly st).1, rfl,
    openLaw_setRecord hopen (notHeld_of_only honly hk) hst⟩

/-- The record goes, with a report. -/
theorem settled_popRecord (hopen : OpenLaw s) (hk : k.isHeld = false) (kind : ReportKind) (g : Grant) (d : BitVec 4) :
    Settled ((s.popRecord k.resource).report kind k.resource g d) (below ++ above)
      (s.raise { kind := kind, subject := k.resource, grant := g, detail := d }).port := by
  refine ⟨?_, State.report_port_congr (s := s.popRecord k.resource) (t := s) rfl .., openLaw_raise (openLaw_popRecord hopen (notHeld_of_only honly hk)) _⟩
  rw [State.report, (State.raise_frame _ _).2.2.2.2.1]
  exact congrArg (·.stack) (State.popRecord_only honly)

/-- The record takes the hold, and its channel opens. -/
theorem settled_held (hopen : OpenLaw s) (hk : k.isHeld = false) (g : Grant) (d : BitVec 4) :
    Settled (((s.setRecord k.resource (.held g false)).report .granted k.resource g d).evalResource k.resource 2 g)
      (below ++ { k with state := .held g false } :: above)
      (s.raise { kind := .granted, subject := k.resource, grant := g, detail := d }).port := by
  have hbut : GatesBut k.resource s ((s.setRecord k.resource (.held g false)).report .granted k.resource g d) :=
    (gatesBut_setRecord _ s _).trans (gatesBut_raise ..)
  refine ⟨?_, ?_, hbut.openLaw_evalResource hopen _ _⟩
  · rw [(State.evalResource_frame _ _ _ _).2.2.2.2.1, State.report, (State.raise_frame _ _).2.2.2.2.1]
    exact (onlyRecord_setRecord honly _).1
  · rw [evalResource_port_of_high fun n hn => ?_]
    · exact State.report_port_congr (s := s.setRecord k.resource (.held g false)) (t := s) rfl ..
    · rw [hbut.gate]
      exact high_of_notHeld hopen (notHeld_of_only honly hk) n hn

end

/-- The channel of a record that takes a running hold at a MEMBER is open and not armed. -/
theorem opened_of_held {s : State} {r : Resource} {k : Record} {g : Grant} {n : Fin 8} {ms : Nat}
    (hn : channelResource n = r) (hclosed : s.gate[n].opened = false) (hst : s.ctl.station = .member)
    (hk : s.recordOf r = some k) (hheld : k.state = .held g false) (hrun : s.countdown r s.self g = .running ms)
    (d : BitVec 4) (g' : Grant) :
    (s.evalResource r d g').gate[n].opened = true ∧ (s.evalResource r d g').gate[n].armed = false := by
  subst hn
  have hcond : s.gateCondition n = true := by
    rw [State.gateCondition, hst, hk]
    dsimp only
    rw [hheld]
    dsimp only
    rw [hrun]
    rfl
  rw [State.evalResource_channel, State.evalChannel_gate_self, hcond, hclosed]
  exact ⟨rfl, rfl⟩

/-- The channel of a record that takes a running hold opens at a MEMBER. -/
theorem taken_opens {s : State} {below above : List Record} {k : Record} {g : Grant} {ms : Nat} {n : Fin 8}
    (honly : OnlyRecord s below k above) (hopen : OpenLaw s) (hk : k.isHeld = false) (hst : s.ctl.station = .member)
    (hrun : s.countdown k.resource s.self g = .running ms) (hn : channelResource n = k.resource) (d : BitVec 4) :
    let t := ((s.setRecord k.resource (.held g false)).report .granted k.resource g d).evalResource k.resource 2 g
    t.gate[n].opened = true ∧ t.gate[n].armed = false := by
  obtain ⟨hctl, -, htimer, -, hstack, hgate, -⟩ := (s.setRecord k.resource (.held g false)).raise_frame
    { kind := .granted, subject := k.resource, grant := g, detail := d }
  have hself : ((s.setRecord k.resource (.held g false)).report .granted k.resource g d).self = s.self :=
    congrArg (·.number) hctl
  refine opened_of_held (k := { k with state := .held g false }) (g := g) (ms := ms) hn ?_ ?_ ?_ rfl ?_ 2 g
  · rw [State.report, hgate]
    have hnot : NotHeld s (channelResource n) := hn ▸ notHeld_of_only honly hk
    exact (hopen n).trans hnot.gateCondition
  · rw [State.report, hctl]
    exact hst
  · exact State.recordOf_only (onlyRecord_of_stack (onlyRecord_setRecord honly (.held g false)) hstack)
  · rw [hself]
    exact (State.countdown_congr (congrArg (·.countdowns) htimer) ..).trans hrun

/-! ### The event that reaches each state of a record -/

section
variable {s : State} {k : Record} (hk : s.recordOf k.resource = some k)
include hk

theorem State.onGranted_sending (hst : k.state = .sending) (m : Mode) (g : Grant) : s.onGranted true k.resource m g =
    ((s.setRecord k.resource (.held g false)).report .granted k.resource g m.detail).evalResource k.resource 2 g := by
  simp only [State.onGranted, hk, hst]

theorem State.onGranted_waiting (hst : k.state = .waiting) (m : Mode) (g : Grant) : s.onGranted false k.resource m g =
    ((s.setRecord k.resource (.held g false)).report .granted k.resource g m.detail).evalResource k.resource 2 g := by
  simp only [State.onGranted, hk, hst]

theorem State.onGranted_claimOutstanding (hst : k.state = .withdrawing .claimOutstanding) (m : Mode) (g : Grant) :
    s.onGranted true k.resource m g = s.setRecord k.resource (.releasing g true) := by
  simp only [State.onGranted, hk, hst]

theorem State.onGranted_withdrawOwed (hst : k.state = .withdrawing .withdrawOwed) (m : Mode) (g : Grant) :
    s.onGranted false k.resource m g = s.setRecord k.resource (.releasing g true) := by
  simp only [State.onGranted, hk, hst]

theorem State.onQueued_sending (hst : k.state = .sending) : s.onQueued k.resource = s.setRecord k.resource .waiting := by
  simp only [State.onQueued, hk, hst]

theorem State.onQueued_claimOutstanding (hst : k.state = .withdrawing .claimOutstanding) : s.onQueued k.resource =
    (s.setRecord k.resource (.withdrawing .withdrawOwed)).request (.withdraw k.resource) .hostSlot := by
  simp only [State.onQueued, hk, hst]

theorem State.onRefused_outstanding (hst : k.state = .sending ∨ k.state = .withdrawing .claimOutstanding)
    (c : BitVec 4) : s.onRefused k.resource c = (s.popRecord k.resource).report .refused k.resource 0 c := by
  rcases hst with hst | hst <;> simp only [State.onRefused, hk, hst]

theorem State.onWaiterRemoved_withdrawOwed (hst : k.state = .withdrawing .withdrawOwed) :
    s.onWaiterRemoved k.resource = (s.popRecord k.resource).report .withdrawn k.resource 0 0 := by
  simp only [State.onWaiterRemoved, hk, hst]

end

/-- A promotion of this station reaches a WAITING and a withdraw-owed record only. -/
theorem State.onGranted_unwanted {s : State} {r : Resource}
    (h : ∀ k, s.recordOf r = some k → k.state ≠ .waiting ∧ k.state ≠ .withdrawing .withdrawOwed) (m : Mode) (g : Grant) :
    s.onGranted false r m g = s := by
  unfold State.onGranted
  split
  · rfl
  next k hk =>
    obtain ⟨hw, ho⟩ := h k hk
    split
    next hst hc => cases hc
    next hst hc => exact absurd hst hw
    next hst hc => cases hc
    next hst hc => exact absurd hst ho
    · rfl

/-! ## APPLY_CLAIM (R13 to R16) -/

theorem exec_applyClaim {s : State} {u : Station} {rb : Byte} {mb pb : BitVec 4} {rest : List Notice}
    (h : Applies s { sender := u, body := .claim rb mb pb } rest) : exec .applyClaim s = .next (State.finish
      (s.takeNotice { sender := u, body := .claim rb mb pb } rest)
      ((s.takeNotice { sender := u, body := .claim rb mb pb } rest).claimEffects u rb mb pb)) := by
  obtain ⟨hr, hbank, hin⟩ := h
  rw [exec_awake hr State.applyClaim rfl, State.applyClaim, hin]
  exact congrArg _ (State.applyNotice_inBank _ rest _ hbank)

theorem State.finish_entry (s0 s : State) (r : Resource) : (State.finish s0 s).entry r = s.entry r := by
  rw [State.entry, (State.finish_frame s0 s).2.1]
  rfl

theorem State.finish_countdown (s0 s : State) (r : Resource) (h : Station) (g : Grant) :
    (State.finish s0 s).countdown r h g = s.countdown r h g :=
  State.countdown_congr (State.finish_frame s0 s).2.2.2.2.2.2.2.1 r h g

/-- The state in which a claim has been granted, before its event (R9). -/
def State.granting (s : State) (u : Station) (r : Resource) (m : Mode) : State :=
  (s.setEntry r ((s.entry r).grant u m)).loadCountdown r u (s.entry r).nextGrant

/-- The state in which a claim has been queued, before its event (R14). -/
def State.queueing (s : State) (u : Station) (r : Resource) (m : Mode) : State :=
  s.setEntry r { s.entry r with waiters := (s.entry r).waiters ++ [{ station := u, mode := m }] }

section
variable {s : State} {u : Station} {r : Resource} {m : Mode}

theorem claimDecided_granted (hg : (s.entry r).grantable m = true) (p : Policy) : s.claimDecided u r m p =
    if u = s.self then (s.granting u r m).onGranted true r m (s.entry r).nextGrant else s.granting u r m := by
  unfold State.claimDecided State.holdGranted
  rw [if_pos hg]
  rfl

theorem claimDecided_queued (hg : (s.entry r).grantable m = false) : s.claimDecided u r m .wait =
    if u = s.self then (s.queueing u r m).onQueued r else s.queueing u r m := by
  unfold State.claimDecided
  rw [if_neg (by simp [hg])]
  rfl

theorem claimDecided_refused (hg : (s.entry r).grantable m = false) : s.claimDecided u r m .tryOnce =
    if u = s.self then s.onRefused r 0 else s := by
  unfold State.claimDecided
  rw [if_neg (by simp [hg])]

theorem claimStale_eq {rb : Byte} (h : rb.toNat = r.val) : s.claimStale u rb =
    if u = s.self then s.onRefused r 1 else s := by
  rw [State.claimStale, number16_of h]

variable (s u r m)

theorem gatesBut_granting : GatesBut r s (s.granting u r m) :=
  (gatesBut_setEntry r s _).trans (gatesBut_loadCountdown r _ _ _)

theorem granting_entry (r' : Resource) :
    (s.granting u r m).entry r' = if r' = r then (s.entry r).grant u m else s.entry r' := State.entry_setEntry ..

theorem granting_countdown (r' : Resource) (h : Station) (g : Grant) : (s.granting u r m).countdown r' h g =
    if (r', h, g) = (r, u, (s.entry r).nextGrant) then .running (s.countdownMs u) else s.countdown r' h g :=
  State.countdown_loadCountdown ..

theorem queueing_entry (r' : Resource) : (s.queueing u r m).entry r' = if r' = r then
    { s.entry r with waiters := (s.entry r).waiters ++ [{ station := u, mode := m }] } else s.entry r' :=
  State.entry_setEntry ..

end

/-- A claim is not stale (R13). -/
def ClaimFits (s : State) (u : Station) (r : Resource) (mb pb : BitVec 4) : Prop :=
  r.val < s.count ∧ (mb = 1 ∨ mb = 2) ∧ (pb = 1 ∨ pb = 2) ∧ s.table.members[u].isMember = true ∧
    (∀ h ∈ (s.entry r).holders, h.station ≠ u) ∧ ∀ r', ∀ w ∈ (s.entry r').waiters, w.station ≠ u

/-- The mode that a code names. -/
def modeOf (mb : BitVec 4) : Mode := if mb = 1 then .shared else .exclusive

/-- What the effects of a CLAIM are: an event on a base state at its own station, elsewhere the base state. -/
theorem claimEffects_outcomes {s : State} {u : Station} {r : Resource} {rb : Byte} {mb pb : BitVec 4}
    (hbank : s.ctl.station.inBank = true) (hrb : rb.toNat = r.val) :
    let w := s.claimEffects u rb mb pb
    let m := modeOf mb
    (ClaimFits s u r mb pb → (s.entry r).grantable m = true → w =
      if u = s.self then (s.granting u r m).onGranted true r m (s.entry r).nextGrant else s.granting u r m) ∧
    (ClaimFits s u r mb pb → (s.entry r).grantable m = false → pb = 1 →
      w = if u = s.self then (s.queueing u r m).onQueued r else s.queueing u r m) ∧
    (ClaimFits s u r mb pb → (s.entry r).grantable m = false → pb = 2 → w = if u = s.self then s.onRefused r 0 else s) ∧
    (¬ClaimFits s u r mb pb → w = if u = s.self then s.onRefused r 1 else s) := by
  intro w m
  obtain ⟨hdecided, hstale⟩ := State.claimEffects_cases u r rb mb pb hbank hrb
  refine ⟨fun hf hg => (hdecided hf).trans (claimDecided_granted hg _), fun hf hg hp => ?_, fun hf hg hp => ?_,
    fun hf => (hstale hf).trans (claimStale_eq hrb)⟩
  · refine (hdecided hf).trans ?_
    rw [if_pos hp]
    exact claimDecided_queued hg
  · refine (hdecided hf).trans ?_
    rw [if_neg (show ¬pb = 1 by rw [hp]; decide)]
    exact claimDecided_refused hg

/-- The tables and the timers after a CLAIM are those of the base state. -/
theorem tables_of_outcome {w event base : State} {c : Prop} [Decidable c] (h : w = if c then event else base)
    (htable : event.table = base.table) (htimer : event.timer = base.timer) :
    w.table = base.table ∧ w.timer = base.timer := by
  rw [h]
  split
  · exact ⟨htable, htimer⟩
  · exact ⟨rfl, rfl⟩

/-- Every CLAIM is decided one way or is stale. -/
theorem claim_cases (s : State) (u : Station) (r : Resource) (mb pb : BitVec 4) :
    (ClaimFits s u r mb pb ∧ (s.entry r).grantable (modeOf mb) = true) ∨
      (ClaimFits s u r mb pb ∧ (s.entry r).grantable (modeOf mb) = false ∧ pb = 1) ∨
      (ClaimFits s u r mb pb ∧ (s.entry r).grantable (modeOf mb) = false ∧ pb = 2) ∨ ¬ClaimFits s u r mb pb := by
  by_cases hf : ClaimFits s u r mb pb
  · cases hg : (s.entry r).grantable (modeOf mb) with
    | true => exact .inl ⟨hf, rfl⟩
    | false => exact hf.2.2.1.elim (fun hp => .inr (.inl ⟨hf, rfl, hp⟩)) fun hp => .inr (.inr (.inl ⟨hf, rfl, hp⟩))
  · exact .inr (.inr (.inr hf))

/-- A hold of another station touches no gate. -/
theorem openLaw_granting_other {s : State} (hs : OpenLaw s) {u : Station} (hu : u ≠ s.self) (r : Resource) (m : Mode) :
    OpenLaw (s.granting u r m) := by
  refine hs.congr rfl fun n => ?_
  have hcs (r' : Resource) (g : Grant) : (s.granting u r m).countdown r' s.self g = s.countdown r' s.self g := by
    rw [granting_countdown, if_neg]
    rintro ⟨⟩
    exact hu rfl
  have hself : (s.granting u r m).self = s.self := rfl
  simp only [State.gateCondition, hself, hcs]
  rfl

/-- The effects of another station's CLAIM leave the stack, the gates and the port. -/
theorem claimEffects_other {s : State} {u : Station} {r : Resource} {rb : Byte} {mb pb : BitVec 4}
    (hbank : s.ctl.station.inBank = true) (hrb : rb.toNat = r.val) (hu : u ≠ s.self) :
    (s.claimEffects u rb mb pb).stack = s.stack ∧ (s.claimEffects u rb mb pb).gate = s.gate ∧
      (s.claimEffects u rb mb pb).port = s.port ∧ (OpenLaw s → OpenLaw (s.claimEffects u rb mb pb)) := by
  obtain ⟨hgranted, hqueued, hrefused, hstale⟩ := claimEffects_outcomes (u := u) (mb := mb) (pb := pb) hbank hrb
  simp only [if_neg hu] at hgranted hqueued hrefused hstale
  rcases claim_cases s u r mb pb with ⟨hf, hg⟩ | ⟨hf, hg, hp⟩ | ⟨hf, hg, hp⟩ | hf
  · rw [hgranted hf hg]
    exact ⟨rfl, rfl, rfl, fun hs => openLaw_granting_other hs hu _ _⟩
  · rw [hqueued hf hg hp]
    exact ⟨rfl, rfl, rfl, fun hs => hs.of_same rfl rfl rfl rfl⟩
  · rw [hrefused hf hg hp]
    exact ⟨rfl, rfl, rfl, id⟩
  · rw [hstale hf]
    exact ⟨rfl, rfl, rfl, id⟩

section
variable {s : State} {below : List Record} {k : Record} {rb : Byte} {mb pb : BitVec 4}
  (hbank : s.ctl.station.inBank = true) (hrb : rb.toNat = k.resource.val) (honly : OnlyRecord s below k [])
  (hopen : OpenLaw s)
include hbank hrb honly hopen

/-- This station's own CLAIM, at its SENDING record (R93). -/
theorem claimEffects_sending (hst : k.state = .sending) :
    let w := s.claimEffects s.self rb mb pb
    let g := (s.entry k.resource).nextGrant
    let refused (cause : BitVec 4) : HostPort :=
      (s.raise { kind := .refused, subject := k.resource, grant := 0, detail := cause }).port
    (ClaimFits s s.self k.resource mb pb → (s.entry k.resource).grantable (modeOf mb) = true →
      Settled w (below ++ [{ k with state := .held g false }])
        (s.raise { kind := .granted, subject := k.resource, grant := g, detail := (modeOf mb).detail }).port ∧
      ∀ n : Fin 8, channelResource n = k.resource → s.ctl.station = .member →
        w.gate[n].opened = true ∧ w.gate[n].armed = false) ∧
    (ClaimFits s s.self k.resource mb pb → (s.entry k.resource).grantable (modeOf mb) = false → pb = 1 →
      Settled w (below ++ [{ k with state := .waiting }]) s.port) ∧
    (ClaimFits s s.self k.resource mb pb → (s.entry k.resource).grantable (modeOf mb) = false → pb = 2 →
      Settled w below (refused 0)) ∧
    (¬ClaimFits s s.self k.resource mb pb → Settled w below (refused 1)) := by
  intro w g refused
  obtain ⟨hgranted, hqueued, hrefused, hstale⟩ := claimEffects_outcomes (u := s.self) (mb := mb) (pb := pb) hbank hrb
  simp only [if_true] at hgranted hqueued hrefused hstale
  have hnot : k.isHeld = false := by rw [Record.isHeld, hst]
  have hpop (c : BitVec 4) : Settled (s.onRefused k.resource c) below (refused c) := by
    rw [State.onRefused_outstanding (State.recordOf_only honly) (.inl hst)]
    have := settled_popRecord honly hopen hnot .refused 0 c
    rwa [List.append_nil] at this
  refine ⟨fun hf hg => ?_, fun hf hg hp => ?_, fun hf hg hp => ?_, fun hf => ?_⟩
  · have honly' : OnlyRecord (s.granting s.self k.resource (modeOf mb)) below k [] := honly
    have hbut := gatesBut_granting s s.self k.resource (modeOf mb)
    have hopen' := hbut.openLaw hopen (notHeld_of_only honly hnot) (notHeld_of_only honly' hnot)
    have hevent := (hgranted hf hg).trans (State.onGranted_sending (State.recordOf_only honly') hst _ _)
    show Settled (s.claimEffects ..) _ _ ∧ ∀ n : Fin 8, _ → _ →
      (s.claimEffects ..).gate[n].opened = true ∧ (s.claimEffects ..).gate[n].armed = false
    rw [hevent]
    refine ⟨(settled_held honly' hopen' hnot _ _).of_port
      (State.raise_port_congr (s := s.granting s.self k.resource (modeOf mb)) (t := s) rfl _), fun n hn hm => ?_⟩
    exact taken_opens honly' hopen' hnot hm ((granting_countdown ..).trans (if_pos rfl)) hn _
  · have honly' : OnlyRecord (s.queueing s.self k.resource (modeOf mb)) below k [] := honly
    have hopen' : OpenLaw (s.queueing s.self k.resource (modeOf mb)) := hopen.of_same rfl rfl rfl rfl
    have hevent := (hqueued hf hg hp).trans (State.onQueued_sending (State.recordOf_only honly') hst)
    show Settled (s.claimEffects ..) _ _
    rw [hevent]
    exact settled_setRecord honly' hopen' hnot (by nofun)
  · show Settled (s.claimEffects ..) _ _
    rw [hrefused hf hg hp]
    exact hpop 0
  · show Settled (s.claimEffects ..) _ _
    rw [hstale hf]
    exact hpop 1

/-- This station's own CLAIM, at a record that is being withdrawn (R95). -/
theorem claimEffects_claimOutstanding (hst : k.state = .withdrawing .claimOutstanding) :
    let w := s.claimEffects s.self rb mb pb
    let g := (s.entry k.resource).nextGrant
    let refused (cause : BitVec 4) : HostPort :=
      (s.raise { kind := .refused, subject := k.resource, grant := 0, detail := cause }).port
    (ClaimFits s s.self k.resource mb pb → (s.entry k.resource).grantable (modeOf mb) = true →
      Settled w (below ++ [{ k with state := .releasing g true }]) s.port) ∧
    (ClaimFits s s.self k.resource mb pb → (s.entry k.resource).grantable (modeOf mb) = false → pb = 1 →
      Settled w (below ++ [{ k with state := .withdrawing .withdrawOwed }]) s.port) ∧
    (ClaimFits s s.self k.resource mb pb → (s.entry k.resource).grantable (modeOf mb) = false → pb = 2 →
      Settled w below (refused 0)) ∧
    (¬ClaimFits s s.self k.resource mb pb → Settled w below (refused 1)) := by
  intro w g refused
  obtain ⟨hgranted, hqueued, hrefused, hstale⟩ := claimEffects_outcomes (u := s.self) (mb := mb) (pb := pb) hbank hrb
  simp only [if_true] at hgranted hqueued hrefused hstale
  have hnot : k.isHeld = false := by rw [Record.isHeld, hst]
  have hpop (c : BitVec 4) : Settled (s.onRefused k.resource c) below (refused c) := by
    rw [State.onRefused_outstanding (State.recordOf_only honly) (.inr hst)]
    have := settled_popRecord honly hopen hnot .refused 0 c
    rwa [List.append_nil] at this
  refine ⟨fun hf hg => ?_, fun hf hg hp => ?_, fun hf hg hp => ?_, fun hf => ?_⟩
  · have honly' : OnlyRecord (s.granting s.self k.resource (modeOf mb)) below k [] := honly
    have hbut := gatesBut_granting s s.self k.resource (modeOf mb)
    have hopen' := hbut.openLaw hopen (notHeld_of_only honly hnot) (notHeld_of_only honly' hnot)
    have hevent := (hgranted hf hg).trans (State.onGranted_claimOutstanding (State.recordOf_only honly') hst _ _)
    show Settled (s.claimEffects ..) _ _
    rw [hevent]
    exact settled_setRecord honly' hopen' hnot (by nofun)
  · have honly' : OnlyRecord (s.queueing s.self k.resource (modeOf mb)) below k [] := honly
    have hopen' : OpenLaw (s.queueing s.self k.resource (modeOf mb)) := hopen.of_same rfl rfl rfl rfl
    have hevent := (hqueued hf hg hp).trans (State.onQueued_claimOutstanding (State.recordOf_only honly') hst)
    have hset := settled_setRecord honly' hopen' hnot (st := .withdrawing .withdrawOwed) (by nofun)
    show Settled (s.claimEffects ..) _ _
    rw [hevent]
    exact ⟨hset.stack, hset.port, openLaw_request hset.openLaw _ _⟩
  · show Settled (s.claimEffects ..) _ _
    rw [hrefused hf hg hp]
    exact hpop 0
  · show Settled (s.claimEffects ..) _ _
    rw [hstale hf]
    exact hpop 1

end

/-- The tables and the countdowns that the effects of a CLAIM leave. -/
theorem claimEffects_tables_spec {s : State} {u : Station} {r : Resource} {rb : Byte} {mb pb : BitVec 4}
    (hbank : s.ctl.station.inBank = true) (hrb : rb.toNat = r.val) :
    let w := s.claimEffects u rb mb pb
    (ClaimFits s u r mb pb → (s.entry r).grantable (modeOf mb) = true →
      w.table = (s.granting u r (modeOf mb)).table ∧ w.timer = (s.granting u r (modeOf mb)).timer) ∧
    (ClaimFits s u r mb pb → (s.entry r).grantable (modeOf mb) = false → pb = 1 →
      w.table = (s.queueing u r (modeOf mb)).table ∧ w.timer = s.timer) ∧
    (ClaimFits s u r mb pb → (s.entry r).grantable (modeOf mb) = false → pb = 2 →
      w.table = s.table ∧ w.timer = s.timer) ∧
    (¬ClaimFits s u r mb pb → w.table = s.table ∧ w.timer = s.timer) := by
  intro w
  obtain ⟨hgranted, hqueued, hrefused, hstale⟩ := claimEffects_outcomes (u := u) (mb := mb) (pb := pb) hbank hrb
  refine ⟨fun hf hg => tables_of_outcome (hgranted hf hg) (by simp) (by simp), fun hf hg hp => ?_,
    fun hf hg hp => tables_of_outcome (hrefused hf hg hp) (by simp) (by simp),
    fun hf => tables_of_outcome (hstale hf) (by simp) (by simp)⟩
  exact tables_of_outcome (hqueued hf hg hp) (by simp) (by simp)

theorem claimEffects_entry_other {s : State} {u : Station} {r : Resource} {rb : Byte} {mb pb : BitVec 4}
    (hbank : s.ctl.station.inBank = true) (hrb : rb.toNat = r.val) {r' : Resource} (hr : r' ≠ r) :
    (s.claimEffects u rb mb pb).entry r' = s.entry r' := by
  obtain ⟨hgranted, hqueued, hrefused, hstale⟩ := claimEffects_tables_spec (u := u) (mb := mb) (pb := pb) hbank hrb
  rcases claim_cases s u r mb pb with ⟨hf, hg⟩ | ⟨hf, hg, hp⟩ | ⟨hf, hg, hp⟩ | hf
  · rw [entry_of_table (hgranted hf hg).1, granting_entry, if_neg hr]
  · rw [entry_of_table (hqueued hf hg hp).1, queueing_entry, if_neg hr]
  · rw [entry_of_table (hrefused hf hg hp).1]
  · rw [entry_of_table (hstale hf).1]

theorem modeOf_detail (mb : BitVec 4) : (modeOf mb).detail = if modeOf mb = .shared then 0 else 1 := by
  cases modeOf mb <;> rfl

/-- Settles O50: by the four outcomes of a CLAIM, and at its own station by the state of its record. -/
theorem claimApplied : Obligations.ClaimApplied := by
  intro s u r rb mb pb rest happ hrb term e m fits grantable
  rw [exec_applyClaim happ]
  have hframe := entryNoticeFrame_of_effect happ (State.claimEffects_effect _ u rb mb pb)
  generalize hs1 : s.takeNotice { sender := u, body := .claim rb mb pb } rest = v at *
  have hctl : v.ctl = s.ctl := by rw [← hs1]; rfl
  have hentry (r' : Resource) : v.entry r' = s.entry r' := by rw [← hs1]; rfl
  have hfits : ClaimFits v u r mb pb ↔ fits := by rw [← hs1]; rfl
  have hgrant : (v.entry r).grantable (modeOf mb) = true ↔ grantable := by rw [hentry]; exact Entry.grantable_iff _ _
  have hgrant' : (v.entry r).grantable (modeOf mb) = false ↔ ¬grantable := by rw [← hgrant, Bool.not_eq_true]
  have hbank : v.ctl.station.inBank = true := by rw [hctl]; exact happ.2.1
  obtain ⟨hgranted, hqueued, hrefused, hstale⟩ := claimEffects_tables_spec (u := u) (mb := mb) (pb := pb) hbank hrb
  have hother (r' : Resource) (hr : r' ≠ r) := claimEffects_entry_other (u := u) (mb := mb) (pb := pb) hbank hrb hr
  have hself : v.self = s.self := congrArg (·.number) hctl
  have htimer : v.timer = s.timer := by rw [← hs1]; rfl
  have hcountdown (r' : Resource) (h : Station) (g : Grant) : v.countdown r' h g = s.countdown r' h g :=
    State.countdown_congr (by rw [htimer]) ..
  have hterm (x : Station) : v.countdownMs x = term x := by rw [← hs1]; rfl
  have hstack1 : v.stack = s.stack := by rw [← hs1]; rfl
  have hgate1 : v.gate = s.gate := by rw [← hs1]; rfl
  have hport1 : v.port = s.port := by rw [← hs1]; rfl
  have hopen (h : GateLaw s) : OpenLaw v := ((gateLaw_iff s).mp h).1.of_same hgate1 hctl hstack1 (by rw [htimer])
  refine ⟨_, rfl, hframe, fun r' hr => ?_, fun hf hg => ?_, fun hf hg hp => ?_, fun h => ?_, fun hu => ?_, fun hu hgate below k
    hstack hbelow hk => ?_⟩
  · rw [State.finish_entry, hother r' hr, hentry]
  · obtain ⟨htab, htim⟩ := hgranted (hfits.mpr hf) (hgrant.mpr hg)
    have hcs (r' : Resource) (h' : Station) (g' : Grant) :
        (State.finish v (v.claimEffects u rb mb pb)).countdown r' h' g' =
          if (r', h', g') = (r, u, e.nextGrant) then .running (term u) else s.countdown r' h' g' := by
      rw [State.finish_countdown, State.countdown_congr (t := v.granting u r (modeOf mb)) (by rw [htim]),
        granting_countdown, hterm, hentry, hcountdown]
    refine ⟨?_, (hcs _ _ _).trans (if_pos rfl), fun r' h' g' hne => (hcs _ _ _).trans (if_neg hne)⟩
    rw [State.finish_entry, entry_of_table htab, granting_entry, if_pos rfl, hentry]
    rfl
  · obtain ⟨htab, htim⟩ := hqueued (hfits.mpr hf) (hgrant'.mpr hg) hp
    refine ⟨?_, ?_⟩
    · rw [State.finish_entry, entry_of_table htab, queueing_entry, if_pos rfl, hentry]
      rfl
    · rw [(State.finish_frame v _).2.2.2.2.2.2.2.1, htim, htimer]
  · have hnone : (v.claimEffects u rb mb pb).table = v.table ∧ (v.claimEffects u rb mb pb).timer = v.timer := by
      by_cases hf : fits
      · obtain ⟨hg, hp⟩ := h.resolve_left fun hnf => hnf hf
        exact hrefused (hfits.mpr hf) (hgrant'.mpr hg) hp
      · exact hstale (mt hfits.mp hf)
    refine ⟨?_, ?_⟩
    · rw [State.finish_entry, entry_of_table hnone.1, hentry]
    · rw [(State.finish_frame v _).2.2.2.2.2.2.2.1, hnone.2, htimer]
  · obtain ⟨wstack, wgate, wport, wopen⟩ :=
      claimEffects_other (u := u) (mb := mb) (pb := pb) hbank hrb (by rw [hself]; exact hu)
    refine ⟨((State.finish_frame v _).2.2.2.2.2.1).trans (wstack.trans hstack1), fun hg => ?_⟩
    obtain ⟨fgate, fport⟩ := State.finish_of_lawful v _ (wopen (hopen hg))
    exact ⟨fgate.trans (wgate.trans hgate1), fport.trans (wport.trans hport1)⟩
  · subst hk
    have honly : OnlyRecord v below k [] := ⟨hstack1.trans hstack, by simpa using hbelow⟩
    have hu' : u = v.self := hu.trans hself.symm
    have hrefusal (c : BitVec 4) : (v.raise { kind := .refused, subject := k.resource, grant := 0, detail := c }).port =
        (s.raise { kind := .refused, subject := k.resource, grant := 0, detail := c }).port :=
      State.raise_port_congr hport1 _
    subst hu'
    refine ⟨fun hst => ?_, fun hst => ?_⟩
    · obtain ⟨ogranted, oqueued, orefused, ostale⟩ := claimEffects_sending (mb := mb) (pb := pb) hbank hrb honly (hopen hgate) hst
      refine ⟨fun hf hg => ?_, fun hf hg hp => ?_, fun hf hg hp => ?_, fun hf => ?_⟩
      · obtain ⟨hset, hopened⟩ := ogranted (hfits.mpr hf) (hgrant.mpr hg)
        obtain ⟨tstack, tport, tgate⟩ := hset.finish v
        refine ⟨tstack.trans (by rw [hentry]), tport.trans ?_, fun n hn hm => ?_⟩
        · rw [hentry, modeOf_detail]
          exact State.raise_port_congr hport1 _
        · rw [tgate]
          exact hopened n hn (by rw [hctl]; exact hm)
      · obtain ⟨tstack, tport, -⟩ := (oqueued (hfits.mpr hf) (hgrant'.mpr hg) hp).finish v
        exact ⟨tstack, tport.trans hport1⟩
      · obtain ⟨tstack, tport, -⟩ := (orefused (hfits.mpr hf) (hgrant'.mpr hg) hp).finish v
        exact ⟨tstack, tport.trans (hrefusal 0)⟩
      · obtain ⟨tstack, tport, -⟩ := (ostale (mt hfits.mp hf)).finish v
        exact ⟨tstack, tport.trans (hrefusal 1)⟩
    · obtain ⟨ogranted, oqueued, orefused, ostale⟩ :=
        claimEffects_claimOutstanding (mb := mb) (pb := pb) hbank hrb honly (hopen hgate) hst
      refine ⟨fun hf hg => ?_, fun hf hg hp => ?_, fun hf hg hp => ?_, fun hf => ?_⟩
      · obtain ⟨tstack, tport, -⟩ := (ogranted (hfits.mpr hf) (hgrant.mpr hg)).finish v
        exact ⟨tstack.trans (by rw [hentry]), tport.trans hport1⟩
      · obtain ⟨tstack, tport, -⟩ := (oqueued (hfits.mpr hf) (hgrant'.mpr hg) hp).finish v
        exact ⟨tstack, tport.trans hport1⟩
      · obtain ⟨tstack, tport, -⟩ := (orefused (hfits.mpr hf) (hgrant'.mpr hg) hp).finish v
        exact ⟨tstack, tport.trans (hrefusal 0)⟩
      · obtain ⟨tstack, tport, -⟩ := (ostale (mt hfits.mp hf)).finish v
        exact ⟨tstack, tport.trans (hrefusal 1)⟩

end Sys2Proof.Machine

/-! PROOFS. Which frames an application can ask for (R55, R60, R125), what promotion makes of the countdowns, of a record
and of its channel (R12, R24, R25, R96), and the removal of a hold by RELEASE or LAPSE (R10, R17, R19). -/

namespace Sys2Proof.Machine

open Sys2Proof.Safety

/-! ## The frames that an application can ask for (R55, R60, R76, R79, R85, R87, R97, R125, R204) -/

/-- The application, begun in s0, is the one that ends RESYNC in MEMBER. -/
def Reconciled (s0 s : State) : Prop := s0.ctl.station = .resync ∧ s.ctl.station = .member

/-- What an application that began in s0 can ask for. -/
def AskedFor (s0 s : State) : QBody → Prop
  | .image .. | .release .. | .leave | .renew => True
  | .evict _ => ¬Reconciled s0 s
  | .lapse r h g => (∃ c ∈ s.timer.countdowns, (c.resource, c.holder, c.grant) = (r, h, g) ∧ c.timer.isExpired = true) ∧
      (Reconciled s0 s → h = s.self)
  | .sync _ => s.ctl.station = .resync
  | .found _ | .withdraw _ | .claim .. | .join .. | .presence => False

section
variable {s0 s : State} {f : QFrame}

theorem State.mem_placeImage (h : f ∈ s.placeImage.sendq.frames) : f ∈ s.sendq.frames ∨ f.body.isImage = true := by
  unfold State.placeImage at h
  split at h
  · exact .inl h
  · exact (State.mem_request h).imp_right fun hb => by rw [hb]; rfl

theorem State.mem_foldl_askEvict {l : List Station} (h : f ∈ (l.foldl State.askEvict s).sendq.frames) :
    f ∈ s.sendq.frames ∨ ∃ p, f.body = .evict p := by
  induction l generalizing s with
  | nil => exact .inl h
  | cons p l ih =>
    refine (ih h).elim (fun h => ?_) .inr
    unfold State.askEvict at h
    split at h
    · exact (State.mem_request h).imp_right fun hb => ⟨p, hb⟩
    · exact .inl h

theorem State.mem_expiredCountdowns {c : Countdown} (h : c ∈ s.expiredCountdowns) :
    c ∈ s.timer.countdowns ∧ c.timer.isExpired = true := by
  simpa [State.expiredCountdowns] using h

theorem State.mem_askExpiredAfter (h : f ∈ (State.askExpiredAfter s0 s).sendq.frames) :
    f ∈ s.sendq.frames ∨ (¬Reconciled s0 s ∧ ∃ p, f.body = .evict p) ∨
      ∃ c ∈ s.timer.countdowns, c.timer.isExpired = true ∧ f.body = .lapse c.resource c.holder c.grant ∧
        (Reconciled s0 s → c.holder = s.self) := by
  unfold State.askExpiredAfter at h
  split at h
  next hrec =>
    refine (State.mem_foldl_askLapse h).imp_right fun ⟨c, hc, hb⟩ => .inr ?_
    obtain ⟨hc, hself⟩ := List.mem_filter.mp hc
    obtain ⟨hc, hex⟩ := State.mem_expiredCountdowns hc
    exact ⟨c, hc, hex, hb, fun _ => of_decide_eq_true hself⟩
  next hrec =>
    have htimer : (all16.foldl State.askEvict s).timer = s.timer :=
      foldl_keeps (R := fun s t => t.timer = s.timer) (fun _ => rfl) (fun h h' => h'.trans h) (fun s p => by simp) _ s
    have hevicts {f : QFrame} (h : f ∈ (all16.foldl State.askEvict s).sendq.frames) :
        f ∈ s.sendq.frames ∨ ∃ p, f.body = .evict p := State.mem_foldl_askEvict h
    unfold State.askExpired at h
    generalize all16.foldl State.askEvict s = s1 at *
    rcases State.mem_foldl_askLapse h with h | ⟨c, hc, hb⟩
    · exact (hevicts h).imp_right fun h => .inl ⟨hrec, h⟩
    · obtain ⟨hc, hex⟩ := State.mem_expiredCountdowns hc
      rw [htimer] at hc
      exact .inr (.inr ⟨c, hc, hex, hb, fun h => absurd h hrec⟩)

theorem State.mem_askNewReleases (h : f ∈ (State.askNewReleases s0 s).sendq.frames) :
    f ∈ s.sendq.frames ∨ ∃ r g, f.body = .release r g := by
  unfold State.askNewReleases at h
  generalize s.stack = l at h
  induction l generalizing s with
  | nil => exact .inl h
  | cons k l ih =>
    refine (ih h).elim (fun h => ?_) .inr
    replace h : f ∈ (State.askNewRelease s0 s k).sendq.frames := h
    unfold State.askNewRelease at h
    split at h
    · split at h
      · exact .inl h
      · exact (State.mem_request h).imp_right fun hb => ⟨_, _, hb⟩
    · exact .inl h

theorem State.mem_askNewLeave (h : f ∈ (State.askNewLeave s0 s).sendq.frames) :
    f ∈ s.sendq.frames ∨ f.body = .leave := by
  unfold State.askNewLeave at h
  split at h
  · exact State.mem_request h
  · exact .inl h

theorem State.mem_askNewRenew (h : f ∈ (State.askNewRenew s0 s).sendq.frames) :
    f ∈ s.sendq.frames ∨ f.body = .renew := by
  unfold State.askNewRenew at h
  split at h
  · exact State.mem_request h
  · exact .inl h

theorem State.syncWanted_station {a : Fin 4} (h : s.syncWanted = some a) : s.ctl.station = .resync := by
  by_contra hst
  rw [State.syncWanted, if_neg hst] at h
  cases h

theorem State.mem_askNewSync (h : f ∈ (State.askNewSync s0 s).sendq.frames) :
    f ∈ s.sendq.frames ∨ s.ctl.station = .resync ∧ ∃ a, f.body = .sync a := by
  unfold State.askNewSync at h
  split at h
  next a ha =>
    split at h
    · exact (State.mem_request h).imp_right fun hb => ⟨State.syncWanted_station ha, a, hb⟩
    · exact .inl h
  next => exact .inl h

/-- A frame that stands after the requests of an application stood before, or is one it can ask for. -/
theorem State.mem_askAfter (h : f ∈ (State.askAfter s0 s).sendq.frames) :
    f ∈ s.sendq.frames ∨ AskedFor s0 s f.body := by
  rw [State.askAfter_eq] at h
  obtain ⟨i, hi, -⟩ := s.placeImage_addsFrames
  obtain ⟨e, he, -⟩ := State.askExpiredAfter_addsFrames s.placeImage s0
  obtain ⟨x, hx, -⟩ := (State.askNewReleases_addsFrames s0 (State.askExpiredAfter s0 s.placeImage)).trans
    ((State.askNewLeave_addsFrames _ s0).trans (State.askNewRenew_addsFrames _ s0))
  rcases State.mem_askNewSync h with h | ⟨hst, a, hb⟩
  · rcases State.mem_askNewRenew h with h | hb
    · rcases State.mem_askNewLeave h with h | hb
      · rcases State.mem_askNewReleases h with h | ⟨r, g, hb⟩
        · rcases State.mem_askExpiredAfter h with h | ⟨hrec, p, hb⟩ | ⟨c, hc, hex, hb, hrec⟩
          · refine (State.mem_placeImage h).imp_right fun hb => ?_
            cases hbody : f.body <;> simp_all [QBody.isImage, AskedFor]
          · rw [hi] at hrec
            rw [hb]
            exact .inr hrec
          · rw [hi] at hc hrec
            rw [hb]
            exact .inr ⟨⟨c, hc, rfl, hex⟩, hrec⟩
        · rw [hb]
          exact .inr trivial
      · rw [hb]
        exact .inr trivial
    · rw [hb]
      exact .inr trivial
  · rw [hx, he, hi] at hst
    rw [hb]
    exact .inr hst

/-- A frame that stands after an application stood through its tests, or is one it could ask for. -/
theorem State.mem_finish (hl : s.listening = true) (h : f ∈ (State.finish s0 s).sendq.frames) :
    (f ∈ s.sendq.frames ∧ (f.phase = .queued → ¬Stale (State.tested s0 s) f.body)) ∨ AskedFor s0 s f.body := by
  rw [State.finish_sendq hl] at h
  refine (State.mem_askAfter h).imp State.mem_tested.mp fun h => ?_
  obtain ⟨tctl, -, -, -, -, tcs, -⟩ := State.tested_frame s0 s
  cases hb : f.body <;> simp_all [AskedFor, Reconciled, State.self]

end

/-! ## Promotion (R12, R24, R25) -/

/-- The countdowns after some holds of a resource have been granted (R25). -/
theorem foldl_holdGranted_countdown (c : Bool) (r : Resource) (l : List Hold) (s : State) (r' : Resource) (u : Station)
    (g : Grant) : (l.foldl (fun s h => s.holdGranted c r h) s).countdown r' u g =
      if r' = r ∧ ∃ x ∈ l, x.station = u ∧ x.grant = g then .running (s.countdownMs u) else s.countdown r' u g := by
  induction l generalizing s with
  | nil => exact (if_neg (by simp)).symm
  | cons h l ih =>
    have hms : (s.holdGranted c r h).countdownMs u = s.countdownMs u := by
      simp [State.countdownMs, State.self, State.bankParams]
      rfl
    have hstep : (s.holdGranted c r h).countdown r' u g =
        if (r', u, g) = (r, h.station, h.grant) then .running (s.countdownMs h.station) else s.countdown r' u g :=
      (State.countdown_congr (holdGranted_countdowns s r c h) ..).trans (State.countdown_loadCountdown ..)
    rw [List.foldl_cons, ih, hms, hstep]
    by_cases hlater : r' = r ∧ ∃ x ∈ l, x.station = u ∧ x.grant = g
    · rw [if_pos hlater, if_pos ⟨hlater.1, hlater.2.imp fun x hx => ⟨List.mem_cons_of_mem _ hx.1, hx.2⟩⟩]
    · rw [if_neg hlater]
      by_cases hnow : (r', u, g) = (r, h.station, h.grant)
      · obtain ⟨rfl, rfl, rfl⟩ := by simpa using hnow
        rw [if_pos rfl, if_pos ⟨rfl, h, List.mem_cons_self, rfl, rfl⟩]
      · rw [if_neg hnow, if_neg]
        rintro ⟨rfl, x, hx, rfl, rfl⟩
        rcases List.mem_cons.mp hx with rfl | hx
        · exact hnow rfl
        · exact hlater ⟨rfl, x, hx, rfl, rfl⟩

/-- No record of the resource waits for a promotion of this station. -/
def Unwanted (s : State) (r : Resource) : Prop :=
  ∀ k, s.recordOf r = some k → k.state ≠ .waiting ∧ k.state ≠ .withdrawing .withdrawOwed

/-- What the promotions of a resource change where no record waits for one: countdowns alone. -/
structure LoadsOnly (r : Resource) (s t : State) : Prop where
  ctl : t.ctl = s.ctl
  table : t.table = s.table
  sendq : t.sendq = s.sendq
  stack : t.stack = s.stack
  gate : t.gate = s.gate
  port : t.port = s.port
  other : ∀ r' u g, r' ≠ r → t.countdown r' u g = s.countdown r' u g
  running : ∀ u g, (s.countdown r u g).isRunning = true → (t.countdown r u g).isRunning = true

theorem foldl_holdGranted_loads {s : State} {r : Resource} (h : Unwanted s r) (l : List Hold) :
    LoadsOnly r s (l.foldl (fun s h => s.holdGranted false r h) s) := by
  have hblocks : ∀ s, Unwanted s r → let t := l.foldl (fun s h => s.holdGranted false r h) s
      t.ctl = s.ctl ∧ t.table = s.table ∧ t.sendq = s.sendq ∧ t.stack = s.stack ∧ t.gate = s.gate ∧ t.port = s.port := by
    clear h
    induction l with
    | nil => exact fun s _ => ⟨rfl, rfl, rfl, rfl, rfl, rfl⟩
    | cons x l ih =>
      intro s h
      have hload : s.holdGranted false r x = s.loadCountdown r x.station x.grant := by
        unfold State.holdGranted
        rw [State.onGranted_unwanted (s := s.loadCountdown r x.station x.grant) h, ite_self]
      have := ih (s.loadCountdown r x.station x.grant) h
      rw [← hload] at this
      simpa [hload] using this
  obtain ⟨hctl, htable, hsendq, hstack, hgate, hport⟩ := hblocks s h
  refine ⟨hctl, htable, hsendq, hstack, hgate, hport, fun r' u g hr => ?_, fun u g hrun => ?_⟩
  · rw [foldl_holdGranted_countdown, if_neg fun h => hr h.1]
  · rw [foldl_holdGranted_countdown]
    split
    · rfl
    · exact hrun

theorem LoadsOnly.gatesBut {r : Resource} {s t : State} (h : LoadsOnly r s t) : GatesBut r s t :=
  ⟨h.ctl, h.gate, fun r' _ => by rw [State.recordOf, h.stack]; rfl, fun r' hr g => h.other r' _ g hr⟩

theorem recordOf_congr {s t : State} (h : t.stack = s.stack) (r : Resource) : t.recordOf r = s.recordOf r := by
  rw [State.recordOf, h]
  rfl

theorem NotHeld.of_stack {s t : State} {r : Resource} (h : NotHeld s r) (hstack : t.stack = s.stack) : NotHeld t r :=
  fun k hk => h k ((recordOf_congr hstack r).symm.trans hk)

theorem unwanted_of_record {s : State} {k : Record} {r : Resource} (hk : s.recordOf r = some k)
    (hstate : k.state ≠ .waiting ∧ k.state ≠ .withdrawing .withdrawOwed) : Unwanted s r := fun k' hk' => by
  rw [hk] at hk'
  cases hk'
  exact hstate

theorem promoteAt_loads {s : State} {r : Resource} (h : Unwanted s r) :
    LoadsOnly r (s.setEntry r (s.entry r).promote) (s.promoteAt r) :=
  foldl_holdGranted_loads (s := s.setEntry r (s.entry r).promote) h _

/-- Promotions that no record waits for leave what an event has settled, where no record is HELD. -/
theorem Settled.promoteAt {s : State} {stack : List Record} {port : HostPort} (h : Settled s stack port) {r : Resource}
    (hunwanted : Unwanted s r) (hnot : NotHeld s r) : Settled (s.promoteAt r) stack port := by
  have hloads := promoteAt_loads hunwanted
  refine ⟨hloads.stack.trans h.stack, hloads.port.trans h.port, ?_⟩
  exact ((gatesBut_setEntry r s _).trans hloads.gatesBut).openLaw h.openLaw hnot (hnot.of_stack hloads.stack)

/-- The countdowns after promotion in an entry: those of the promoted holds are loaded. -/
theorem promoteAt_countdown (s : State) (r r' : Resource) (u : Station) (g : Grant) : (s.promoteAt r).countdown r' u g =
    if r' = r ∧ ∃ x ∈ ((s.entry r).promote).holders.drop (s.entry r).holders.length, x.station = u ∧ x.grant = g then
      .running (s.countdownMs u) else s.countdown r' u g :=
  foldl_holdGranted_countdown false r _ (s.setEntry r (s.entry r).promote) r' u g

theorem promoteAt_entry (s : State) (r r' : Resource) :
    (s.promoteAt r).entry r' = if r' = r then (s.entry r).promote else s.entry r' :=
  entry_of_setEntry (promoteAt_table s r) r'

/-- The promoted holds are of waiters. -/
theorem Entry.exists_waiter_of_promoted {e : Entry} {x : Hold} (h : x ∈ e.promote.holders.drop e.holders.length) :
    ∃ w ∈ e.waiters, w.station = x.station := by
  obtain ⟨⟨n, -, hholders⟩, -⟩ := e.promoteOver_spec e.waiters
  have hmem : (x.station, x.mode) ∈ (e.promote.holders.drop e.holders.length).map fun h => (h.station, h.mode) :=
    List.mem_map.mpr ⟨x, h, rfl⟩
  rw [List.map_drop, Entry.promote, hholders, List.drop_left' (by simp)] at hmem
  obtain ⟨w, hw, heq⟩ := List.mem_map.mp hmem
  exact ⟨w, List.mem_of_mem_take hw, congrArg Prod.fst heq⟩

/-- Who still waits after promotion waited before. -/
theorem Entry.waiters_promote_sublist (e : Entry) : e.promote.waiters.Sublist e.waiters := by
  obtain ⟨⟨n, hwaiters, -⟩, -⟩ := e.promoteOver_spec e.waiters
  rw [Entry.promote, hwaiters]
  exact List.drop_sublist _ _

/-! ## A hold leaves an entry (R10, R17, R19) -/

/-- The state after a hold has left its entry, before the event. -/
def State.dropping (s : State) (r : Resource) (h : Station) (g : Grant) : State :=
  (s.setEntry r ((s.entry r).removeHold h g)).discardCountdown r h g

section
variable (s : State) (r : Resource) (h : Station) (g : Grant)

theorem State.dropHold_self (b : Bool) : s.dropHold r s.self g b = (s.dropping r s.self g).onHoldRemoved r g b := if_pos rfl

theorem State.dropHold_other {h : Station} (hh : h ≠ s.self) (b : Bool) : s.dropHold r h g b = s.dropping r h g := if_neg hh

theorem gatesBut_dropping : GatesBut r s (s.dropping r h g) :=
  (gatesBut_setEntry r s _).trans (gatesBut_discardCountdown r _ h g)

theorem dropHold_entry (b : Bool) (r' : Resource) :
    (s.dropHold r h g b).entry r' = if r' = r then (s.entry r).removeHold h g else s.entry r' :=
  entry_of_setEntry (dropHold_table s r h g b) r'

theorem dropHold_countdown (b : Bool) (r' : Resource) (u : Station) (g' : Grant) :
    (s.dropHold r h g b).countdown r' u g' = if (r', u, g') = (r, h, g) then .stopped else s.countdown r' u g' :=
  (State.countdown_congr (dropHold_countdowns s r h g b) ..).trans (State.countdown_discardCountdown ..)

end

theorem Entry.removeHold_eq (e : Entry) (h : Station) (g : Grant) :
    let left := e.holders.filter fun x => !(decide (x.station = h) && decide (x.grant = g))
    e.removeHold h g = { e with holders := left, state := if left = [] then .free else e.state } := by
  intro left
  rw [Entry.removeHold]
  simp only [List.isEmpty_iff]
  rfl

section
variable {s : State} {below above : List Record} {k : Record} {g : Grant} {b : Bool} (honly : OnlyRecord s below k above)
include honly

/-- This station's RELEASING record goes with its hold (R100). -/
theorem onHoldRemoved_releasing {fw : Bool} (hk : k.state = .releasing g fw) : s.onHoldRemoved k.resource g b =
    (s.popRecord k.resource).report .released k.resource g (if fw then 3 else 0) := by
  simp only [State.onHoldRemoved, State.recordOf_only honly, hk, if_true]

/-- A HELD record whose hold is removed is LAPSED, and its channel is evaluated (R98). -/
theorem onHoldRemoved_held {p : Bool} (hk : k.state = .held g p) : s.onHoldRemoved k.resource g b =
    ((s.setRecord k.resource (.lapsed g)).report .lapsed k.resource g (if b then 1 else 0)).evalResource k.resource 2 g := by
  simp only [State.onHoldRemoved, State.recordOf_only honly, hk, if_true]

theorem onHoldRemoved_expired (hk : k.state = .expired g) : s.onHoldRemoved k.resource g b =
    (s.setRecord k.resource (.lapsed g)).report .lapsed k.resource g (if b then 1 else 0) := by
  simp only [State.onHoldRemoved, State.recordOf_only honly, hk]

end

/-- The evaluation of a resource without a HELD record: its channel closes, with a CUT where its output was low. -/
theorem evalResource_port_of_notHeld {s : State} {r : Resource} (h : NotHeld s r) (d : BitVec 4) (g : Grant) :
    (s.evalResource r d g).port = (if ∃ n : Fin 8, channelResource n = r ∧ s.gate[n].goutLow = true then
      s.raise { kind := .cut, subject := r, grant := g, detail := d } else s).port := by
  by_cases hlow : ∃ n : Fin 8, channelResource n = r ∧ s.gate[n].goutLow = true
  · rw [if_pos hlow]
    obtain ⟨n, rfl, hlow⟩ := hlow
    rw [State.evalResource_channel, State.evalChannel_port, if_pos ⟨h.gateCondition, hlow⟩]
  · rw [if_neg hlow]
    refine evalResource_port_of_high (fun n hn => ?_) d g
    rw [← Bool.not_eq_true]
    exact fun h => hlow ⟨n, hn, h⟩

theorem recordOf_popAndReport (s : State) (r : Resource) (kind : ReportKind) (g : Grant) (d : BitVec 4) :
    ((s.popRecord r).report kind r g d).recordOf r = none := by
  rw [State.report, recordOf_congr (State.raise_frame _ _).2.2.2.2.1]
  exact recordOf_popRecord_self s r

section
variable {s : State} {below above : List Record} {k : Record} {g : Grant}
  (honly : OnlyRecord s below k above)
include honly

/-- A record that is popped with a report, whatever its state. -/
theorem popAndReport_stack (kind : ReportKind) (d : BitVec 4) :
    ((s.popRecord k.resource).report kind k.resource g d).stack = below ++ above := by
  rw [State.report, (State.raise_frame _ _).2.2.2.2.1]
  exact congrArg (·.stack) (State.popRecord_only honly)

/-- A record that changes its state with a report, whatever its state was. -/
theorem onlyRecord_setAndReport (st : RecordState) (kind : ReportKind) (d : BitVec 4) :
    OnlyRecord ((s.setRecord k.resource st).report kind k.resource g d) below { k with state := st } above :=
  onlyRecord_of_stack (onlyRecord_setRecord honly st) (State.raise_frame _ _).2.2.2.2.1

/-- This station's RELEASING record goes, RELEASED, when its hold is removed (R100). -/
theorem removed_releasing {b fw : Bool} (hk : k.state = .releasing g fw) :
    let w := (s.dropHold k.resource s.self g b).promoteAt k.resource
    w.stack = below ++ above ∧ (OpenLaw s → Settled w (below ++ above)
      (s.raise { kind := .released, subject := k.resource, grant := g, detail := if fw then 3 else 0 }).port) := by
  intro w
  have honly' : OnlyRecord (s.dropping k.resource s.self g) below k above := honly
  have hnot : k.isHeld = false := by rw [Record.isHeld, hk]
  have hnone := recordOf_popAndReport (s.dropping k.resource s.self g) k.resource .released g (if fw then 3 else 0)
  have hdrop : s.dropHold k.resource s.self g b =
      ((s.dropping k.resource s.self g).popRecord k.resource).report .released k.resource g (if fw then 3 else 0) :=
    (s.dropHold_self _ _ _).trans (onHoldRemoved_releasing honly' hk)
  have hunwanted : Unwanted (s.dropHold k.resource s.self g b) k.resource := fun x hx => by
    rw [hdrop, hnone] at hx
    cases hx
  refine ⟨(promoteAt_loads hunwanted).stack.trans ?_, fun hopen => ?_⟩
  · rw [← popAndReport_stack (g := g) honly' .released (if fw then 3 else 0), ← hdrop]
    rfl
  · have hopen' := (gatesBut_dropping s k.resource s.self g).openLaw hopen (notHeld_of_only honly hnot)
      (notHeld_of_only honly' hnot)
    have hset := settled_popRecord honly' hopen' hnot .released g (if fw then 3 else 0)
    rw [← hdrop] at hset
    refine (hset.promoteAt hunwanted fun x hx => ?_).of_port (State.raise_port_congr (s := s.dropping k.resource s.self g) (t := s) rfl _)
    rw [hdrop, hnone] at hx
    cases hx

/-- This station's HELD or EXPIRED record is LAPSED when its hold is removed, and its channel closes (R98, R101, R114). -/
theorem removed_lapsed {b p : Bool} (hk : k.state = .held g p ∨ k.state = .expired g) :
    let w := (s.dropHold k.resource s.self g b).promoteAt k.resource
    let u := s.raise { kind := .lapsed, subject := k.resource, grant := g, detail := if b then 1 else 0 }
    w.stack = below ++ { k with state := .lapsed g } :: above ∧ NotHeld w k.resource ∧
      (OpenLaw s → Settled w (below ++ { k with state := .lapsed g } :: above)
        (if ∃ n : Fin 8, channelResource n = k.resource ∧ s.gate[n].goutLow = true then
          u.raise { kind := .cut, subject := k.resource, grant := g, detail := 2 } else u).port) := by
  intro w u
  have honly' : OnlyRecord (s.dropping k.resource s.self g) below k above := honly
  obtain ⟨v, hv⟩ : ∃ v, v = ((s.dropping k.resource s.self g).setRecord k.resource (.lapsed g)).report .lapsed
    k.resource g (if b then 1 else 0) := ⟨_, rfl⟩
  have hvonly : OnlyRecord v below { k with state := .lapsed g } above := by
    rw [hv]
    exact onlyRecord_setAndReport honly' _ _ _
  have hvbut : GatesBut k.resource s v := by
    rw [hv]
    exact (gatesBut_dropping s k.resource s.self g).trans ((gatesBut_setRecord _ _ _).trans (gatesBut_raise ..))
  have hvport : v.port = u.port := by
    rw [hv]
    exact State.report_port_congr (s := (s.dropping k.resource s.self g).setRecord k.resource (.lapsed g)) (t := s) rfl ..
  have hvnot : NotHeld v k.resource := notHeld_of_only (k := { k with state := .lapsed g }) hvonly rfl
  -- the channel of a HELD record is evaluated, that of an EXPIRED one is closed already
  have hdrop : ∃ x, s.dropHold k.resource s.self g b = x ∧ x.stack = v.stack ∧ (OpenLaw s → OpenLaw x ∧ x.port =
      (if ∃ n : Fin 8, channelResource n = k.resource ∧ s.gate[n].goutLow = true then
        u.raise { kind := .cut, subject := k.resource, grant := g, detail := 2 } else u).port) := by
    rcases hk with hk | hk
    · refine ⟨v.evalResource k.resource 2 g, ?_, (State.evalResource_frame ..).2.2.2.2.1, fun hopen =>
        ⟨hvbut.openLaw_evalResource hopen 2 g, ?_⟩⟩
      · rw [hv]
        exact (s.dropHold_self _ _ _).trans (onHoldRemoved_held honly' hk)
      · rw [evalResource_port_of_notHeld hvnot, hvbut.gate]
        split
        · exact State.raise_port_congr hvport _
        · exact hvport
    · have hnot : NotHeld s k.resource := notHeld_of_only honly (by rw [Record.isHeld, hk])
      refine ⟨v, ?_, rfl, fun hopen => ⟨hvbut.openLaw hopen hnot hvnot, ?_⟩⟩
      · rw [hv]
        exact (s.dropHold_self _ _ _).trans (onHoldRemoved_expired honly' hk)
      · rw [if_neg]
        · exact hvport
        · rintro ⟨n, hn, hlow⟩
          rw [high_of_notHeld hopen hnot n hn] at hlow
          cases hlow
  obtain ⟨x, hx, hxstack, hxopen⟩ := hdrop
  have hrecord : x.recordOf k.resource = some { k with state := .lapsed g } := by
    rw [recordOf_congr hxstack]
    exact State.recordOf_only hvonly
  have hunwanted : Unwanted x k.resource := unwanted_of_record hrecord ⟨nofun, nofun⟩
  have hxnot : NotHeld x k.resource := hvnot.of_stack hxstack
  have hw : w = x.promoteAt k.resource := by rw [← hx]
  rw [hw]
  have hloads := promoteAt_loads hunwanted
  refine ⟨(hloads.stack.trans hxstack).trans hvonly.1, hxnot.of_stack hloads.stack, fun hopen => ?_⟩
  obtain ⟨hxopen, hxport⟩ := hxopen hopen
  exact Settled.promoteAt ⟨hxstack.trans hvonly.1, hxport, hxopen⟩ hunwanted hxnot

end

/-! ## The front of a queue is promoted (R12, R96) -/

/-- In a FREE entry the first waiter is granted first, with the number after the counter. -/
theorem promoteAt_front {s : State} {r : Resource} {w : Waiter} {ws : List Waiter} (hfree : (s.entry r).state = .free)
    (hholders : (s.entry r).holders = []) (hw : (s.entry r).waiters = w :: ws) :
    ∃ more : List Hold, s.promoteAt r = more.foldl (fun s h => s.holdGranted false r h)
      ((s.setEntry r (s.entry r).promote).holdGranted false r
        { station := w.station, mode := w.mode, grant := nextCandidate (s.entry r).counter }) := by
  have hpromote : (s.entry r).promote = ((s.entry r).grant w.station w.mode).promoteOver ws := by
    rw [Entry.promote, hw, Entry.promoteOver_cons, if_pos ((Entry.promotable_iff _ _).mpr (.inl hfree))]
  have hnext : (s.entry r).nextGrant = nextCandidate (s.entry r).counter := by
    rw [Entry.nextGrant, hholders]
    rfl
  obtain ⟨more, hmore⟩ := ((s.entry r).grant w.station w.mode).promoteOver_holders ws
  rw [← hpromote, Entry.grant_holders, hholders, hnext] at hmore
  refine ⟨more, ?_⟩
  rw [State.promoteAt, hholders, ← hmore]
  rfl

/-- Promotions that no record waits for keep the gates where the record's own countdown runs. -/
theorem LoadsOnly.openLaw {r : Resource} {s t : State} (h : LoadsOnly r s t) (hs : OpenLaw s)
    (hrun : ∀ k g, s.recordOf r = some k → k.state = .held g false → (s.countdown r s.self g).isRunning = true) :
    OpenLaw t := by
  refine hs.congr h.gate fun n => ?_
  by_cases hn : channelResource n = r
  · subst hn
    have hself : t.self = s.self := congrArg (·.number) h.ctl
    rw [State.gateCondition, State.gateCondition, h.ctl, hself, recordOf_congr h.stack]
    cases hk : s.recordOf (channelResource n) with
    | none => rfl
    | some k =>
      dsimp only
      split
      next g hheld =>
        have hbefore := hrun k g hk hheld
        rw [hbefore, h.running _ _ hbefore]
      next => rfl
  · exact h.gatesBut.gateCondition hn

section
variable {s : State} {below above : List Record} {k : Record} {m : Mode} {ws : List Waiter}
  (honly : OnlyRecord s below k above) (hfree : (s.entry k.resource).state = .free)
  (hholders : (s.entry k.resource).holders = [])
  (hw : (s.entry k.resource).waiters = { station := s.self, mode := m } :: ws)
include honly hfree hholders hw

/-- This station's WAITING record at the front of the queue takes the hold (R96). -/
theorem promoted_waiting (hk : k.state = .waiting) :
    let t := s.promoteAt k.resource
    let g := nextCandidate (s.entry k.resource).counter
    OnlyRecord t below { k with state := .held g false } above ∧ t.ctl = s.ctl ∧
      (t.countdown k.resource s.self g).isRunning = true ∧
      (OpenLaw s → Settled t (below ++ { k with state := .held g false } :: above)
        (s.raise { kind := .granted, subject := k.resource, grant := g, detail := m.detail }).port) := by
  intro t g
  obtain ⟨more, hmore⟩ := promoteAt_front hfree hholders hw
  obtain ⟨v, hv⟩ : ∃ v, v = (s.setEntry k.resource (s.entry k.resource).promote).loadCountdown k.resource s.self g := ⟨_, rfl⟩
  have hvonly : OnlyRecord v below k above := by rw [hv]; exact honly
  have hvbut : GatesBut k.resource s v := by
    rw [hv]
    exact (gatesBut_setEntry _ s _).trans (gatesBut_loadCountdown _ _ _ _)
  have hvrun : (v.countdown k.resource s.self g).isRunning = true := by
    rw [hv, State.countdown_loadCountdown, if_pos rfl]
    rfl
  have hvport : v.port = s.port := by rw [hv]; rfl
  have hgranted : (s.setEntry k.resource (s.entry k.resource).promote).holdGranted false k.resource
      { station := s.self, mode := m, grant := g } =
        ((v.setRecord k.resource (.held g false)).report .granted k.resource g m.detail).evalResource k.resource 2 g := by
    rw [← State.onGranted_waiting (State.recordOf_only hvonly) hk m g, hv]
    exact if_pos rfl
  have hnot : k.isHeld = false := by rw [Record.isHeld, hk]
  obtain ⟨x, hx⟩ : ∃ x, x = ((v.setRecord k.resource (.held g false)).report .granted k.resource g
    m.detail).evalResource k.resource 2 g := ⟨_, rfl⟩
  have hxonly : OnlyRecord x below { k with state := .held g false } above := by
    rw [hx]
    exact onlyRecord_of_stack (onlyRecord_setAndReport hvonly _ _ _) (State.evalResource_frame ..).2.2.2.2.1
  have hxctl : x.ctl = v.ctl := by rw [hx]; simp
  have hxrun : (x.countdown k.resource s.self g).isRunning = true := by
    rw [hx]
    refine (congrArg Timer.isRunning (State.countdown_congr ?_ ..)).trans hvrun
    simp [State.setRecord, State.report]
  have hrecord : x.recordOf k.resource = some { k with state := .held g false } := State.recordOf_only hxonly
  have ht : t = more.foldl (fun s h => s.holdGranted false k.resource h) x := by
    rw [hx, ← hgranted]
    exact hmore
  rw [ht]
  have hloads := foldl_holdGranted_loads (unwanted_of_record hrecord ⟨nofun, nofun⟩) more
  generalize more.foldl (fun s h => s.holdGranted false k.resource h) x = y at *
  refine ⟨onlyRecord_of_stack hxonly hloads.stack, ?_, hloads.running _ _ hxrun, fun hopen => ?_⟩
  · rw [hloads.ctl, hxctl, hvbut.ctl]
  · have hvopen := hvbut.openLaw hopen (notHeld_of_only honly hnot) (notHeld_of_only hvonly hnot)
    have hset := settled_held hvonly hvopen hnot g m.detail
    rw [← hx] at hset
    refine ⟨hloads.stack.trans hset.stack, hloads.port.trans (hset.port.trans (State.raise_port_congr hvport _)),
      hloads.openLaw hset.openLaw fun k' g' hk' hheld => ?_⟩
    rw [hrecord] at hk'
    cases hk'
    cases hheld
    have hself : x.self = s.self := congrArg (·.number) (hxctl.trans hvbut.ctl)
    rw [hself]
    exact hxrun

/-- This station's withdraw-owed record at the front of the queue owes a RELEASE instead (R96). -/
theorem promoted_withdrawOwed (hk : k.state = .withdrawing .withdrawOwed) :
    let t := s.promoteAt k.resource
    let g := nextCandidate (s.entry k.resource).counter
    t.stack = below ++ { k with state := .releasing g true } :: above ∧ t.sendq = s.sendq ∧
      (OpenLaw s → Settled t (below ++ { k with state := .releasing g true } :: above) s.port) := by
  intro t g
  obtain ⟨more, hmore⟩ := promoteAt_front hfree hholders hw
  obtain ⟨v, hv⟩ : ∃ v, v = (s.setEntry k.resource (s.entry k.resource).promote).loadCountdown k.resource s.self g := ⟨_, rfl⟩
  have hvonly : OnlyRecord v below k above := by rw [hv]; exact honly
  have hvbut : GatesBut k.resource s v := by
    rw [hv]
    exact (gatesBut_setEntry _ s _).trans (gatesBut_loadCountdown _ _ _ _)
  have hvsame : v.port = s.port ∧ v.sendq = s.sendq := by rw [hv]; exact ⟨rfl, rfl⟩
  have hgranted : (s.setEntry k.resource (s.entry k.resource).promote).holdGranted false k.resource
      { station := s.self, mode := m, grant := g } = v.setRecord k.resource (.releasing g true) := by
    rw [← State.onGranted_withdrawOwed (State.recordOf_only hvonly) hk m g, hv]
    exact if_pos rfl
  have hnot : k.isHeld = false := by rw [Record.isHeld, hk]
  have hxonly := onlyRecord_setRecord hvonly (.releasing g true)
  have hrecord := State.recordOf_only hxonly
  have ht : t = more.foldl (fun s h => s.holdGranted false k.resource h) (v.setRecord k.resource (.releasing g true)) := by
    rw [← hgranted]
    exact hmore
  rw [ht]
  have hloads := foldl_holdGranted_loads (unwanted_of_record hrecord ⟨nofun, nofun⟩) more
  refine ⟨hloads.stack.trans hxonly.1, hloads.sendq.trans hvsame.2, fun hopen => ?_⟩
  have hvopen := hvbut.openLaw hopen (notHeld_of_only honly hnot) (notHeld_of_only hvonly hnot)
  have hset := settled_setRecord hvonly hvopen hnot (st := .releasing g true) (by nofun)
  refine ⟨hloads.stack.trans hset.stack, hloads.port.trans (hset.port.trans hvsame.1),
    hloads.openLaw hset.openLaw fun k' g' hk' hheld => ?_⟩
  rw [hrecord] at hk'
  cases hk'
  cases hheld

end

end Sys2Proof.Machine

/-! PROOFS. The application of RELEASE, LAPSE, WITHDRAW and RENEW (R10 to R12, R17 to R20, R51, R96 to R98, R134). -/

namespace Sys2Proof.Machine

open Sys2Proof.Safety

/-! ## Nothing expires in an application (R50, R51, R59) -/

/-- No countdown of the timer unit is expired. -/
def NoneExpired (s : State) : Prop := ∀ c ∈ s.timer.countdowns, c.timer ≠ .expired

section
variable {s : State} {r : Resource}

theorem NoneExpired.loadCountdown (h : NoneExpired s) (u : Station) (g : Grant) :
    NoneExpired (s.loadCountdown r u g) := fun c hc => by
  rcases List.mem_append.mp hc with hc | hc
  · exact h c (List.mem_of_mem_filter hc)
  · rw [List.mem_singleton.mp hc]
    nofun

theorem NoneExpired.holdGranted (h : NoneExpired s) (b : Bool) (x : Hold) : NoneExpired (s.holdGranted b r x) := by
  unfold NoneExpired
  rw [holdGranted_countdowns]
  exact h.loadCountdown x.station x.grant

theorem NoneExpired.promoteAt (h : NoneExpired s) : NoneExpired (s.promoteAt r) := by
  have hfold (l : List Hold) (t : State) (ht : NoneExpired t) :
      NoneExpired (l.foldl (fun s h => s.holdGranted false r h) t) := by
    induction l generalizing t with
    | nil => exact ht
    | cons x l ih => exact ih _ (ht.holdGranted false x)
  exact hfold _ _ h

theorem NoneExpired.dropHold (h : NoneExpired s) (u : Station) (g : Grant) (b : Bool) :
    NoneExpired (s.dropHold r u g b) := by
  unfold NoneExpired
  rw [dropHold_countdowns]
  exact fun c hc => h c (List.mem_of_mem_filter hc)

end

theorem tested_silence (s0 s : State) (p : Station) : (State.tested s0 s).timer.silence[p] =
    if !s.ctl.station.inBank || decide (p = s.self) || s.table.members[p].isAbsent then .stopped
    else if !s0.ctl.station.inBank || decide (s0.table.members[p].isMember ≠ s.table.members[p].isMember) ||
        decide (s0.table.members[p].isJoining ≠ s.table.members[p].isJoining) then
      .running s.timeParams.silenceLimitMs
    else s.timer.silence[p] := by
  simp [State.tested, State.staleCheck, State.testTransfers, State.updateSilence]

/-- With nothing expired after the effects, nothing is expired when the requests are made. -/
theorem unexpired_tested {s0 s : State} (hcs : NoneExpired s) (hsilence : ∀ p : Station, s.timer.silence[p] ≠ .expired) :
    Unexpired (State.tested s0 s) := by
  refine ⟨by rw [(State.tested_frame s0 s).2.2.2.2.2.1]; exact hcs, .inr fun p => ?_⟩
  rw [tested_silence]
  split
  · nofun
  · split
    · nofun
    · exact hsilence p

/-! ## APPLY_RELEASE and APPLY_LAPSE (R10, R12, R17, R19) -/

/-- The rows that remove a hold: RELEASE by its holder, LAPSE by anyone. -/
def RemovesHold (s : State) (c : Instr) (n : Notice) (rb : Byte) (h : Station) (g : Grant) (byThis : Bool) : Prop :=
  (c = .applyRelease ∧ n = { sender := h, body := .release rb g } ∧ byThis = decide (h = s.self)) ∨
    ∃ v hb, c = .applyLapse ∧ n = { sender := v, body := .lapse rb hb g } ∧ hb.toNat = h.val ∧
      byThis = decide (v = s.self)

theorem exec_holdRemoval {s : State} {c : Instr} {n : Notice} {rest : List Notice} {rb : Byte} {h : Station} {g : Grant}
    {byThis : Bool} (happ : Applies s n rest) (hrow : RemovesHold s c n rb h g byThis) : exec c s =
      .next (State.finish (s.takeNotice n rest) ((s.takeNotice n rest).holdEffects rb h g byThis)) := by
  obtain ⟨hr, hbank, hin⟩ := happ
  rcases hrow with ⟨rfl, rfl, rfl⟩ | ⟨v, hb, rfl, rfl, hhb, rfl⟩
  · rw [exec_awake hr State.applyRelease rfl, State.applyRelease, hin]
    exact congrArg _ (State.applyNotice_inBank _ rest _ hbank)
  · rw [exec_awake hr State.applyLapse rfl, State.applyLapse, hin]
    refine congrArg _ ((State.applyNotice_inBank _ rest _ hbank).trans (congrArg _ ?_))
    rw [State.lapseEffects, number16_of hhb]
    rfl

theorem holdEffects_cases {s : State} {r : Resource} {rb : Byte} (hbank : s.ctl.station.inBank = true)
    (hrb : rb.toNat = r.val) (h : Station) (g : Grant) (b : Bool) :
    (r.val < s.count ∧ (s.entry r).holds h g = true → s.holdEffects rb h g b = (s.dropHold r h g b).promoteAt r) ∧
      (¬(r.val < s.count ∧ (s.entry r).holds h g = true) → s.holdEffects rb h g b = s) := by
  unfold State.holdEffects
  rw [State.targetOf_inBank hrb hbank]
  by_cases hr : r.val < s.count
  · rw [if_pos hr]
    exact ⟨fun hh => if_pos hh.2, fun hh => if_neg fun h => hh ⟨hr, h⟩⟩
  · rw [if_neg hr]
    exact ⟨fun hh => absurd hh.1 hr, fun _ => rfl⟩

theorem tested_entry (s0 s : State) (r : Resource) : (State.tested s0 s).entry r = s.entry r := by
  unfold State.entry
  rw [(State.tested_frame s0 s).2.1]

/-- After an application a queued WITHDRAW names an entry where this station waits (R134). -/
theorem withdraw_gone {s0 s : State} {r : Resource} (hl : s.listening = true)
    (hnone : (s.entry r).hasWaiter s.self = false) {f : QFrame} (hf : f ∈ (State.finish s0 s).sendq.frames)
    (hq : f.phase = .queued) : f.body ≠ .withdraw r := by
  intro hb
  rcases State.mem_finish hl hf with ⟨-, hstale⟩ | hasked
  · refine hstale hq (.inl ?_)
    have hself : (State.tested s0 s).self = s.self := congrArg (·.number) (State.tested_frame s0 s).1
    rw [hb, State.tableStale, tested_entry, hself, hnone]
    rfl
  · rw [hb] at hasked
    exact hasked

theorem gateCondition_of_running {s : State} {r : Resource} {k : Record} {g : Grant} {n : Fin 8}
    (hn : channelResource n = r) (hst : s.ctl.station = .member) (hk : s.recordOf r = some k)
    (hheld : k.state = .held g false) (hrun : (s.countdown r s.self g).isRunning = true) : s.gateCondition n = true := by
  subst hn
  rw [State.gateCondition, hst, hk]
  dsimp only
  rw [hheld]
  exact hrun

/-- A notice taken from the inbound queue takes no room (R125, R130). -/
theorem generalRoom_takeNotice {s : State} {b : QBody} (h : GeneralRoom s b) (n : Notice) (rest : List Notice) :
    GeneralRoom (s.takeNotice n rest) b := by
  refine generalRoom_of_sublist h (List.Sublist.refl _) fun f hf => ?_
  replace hf : (if n.sender = s.self then none else s.sendq.awaiting) = some f := hf
  split at hf
  · cases hf
  · exact hf

/-- A station that is not among the waiters. -/
theorem Entry.hasWaiter_false {e : Entry} {u : Station} (h : ∀ w ∈ e.waiters, w.station ≠ u) : e.hasWaiter u = false := by
  simpa [Entry.hasWaiter] using h

/-- Settles O51: without the named hold nothing changes; with it the entry is promoted, and this station's record follows
by its state. -/
theorem holdRemovalApplied : Obligations.HoldRemovalApplied := by
  intro s c n rest r rb h g byThis happ hrb hrow term e left named
  rw [exec_holdRemoval happ hrow]
  have heffect := State.holdEffects_effect (s.takeNotice n rest) rb h g byThis
  have hframe := entryNoticeFrame_of_effect happ heffect
  generalize hs1 : s.takeNotice n rest = v at *
  have hctl : v.ctl = s.ctl := by rw [← hs1]; rfl
  have hself : v.self = s.self := congrArg (·.number) hctl
  have hentry (r' : Resource) : v.entry r' = s.entry r' := by rw [← hs1]; rfl
  have htimer : v.timer = s.timer := by rw [← hs1]; rfl
  have hcountdown (r' : Resource) (h : Station) (g : Grant) : v.countdown r' h g = s.countdown r' h g :=
    State.countdown_congr (by rw [htimer]) ..
  have hterm (x : Station) : v.countdownMs x = term x := by rw [← hs1]; rfl
  have hstack1 : v.stack = s.stack := by rw [← hs1]; rfl
  have hgate1 : v.gate = s.gate := by rw [← hs1]; rfl
  have hport1 : v.port = s.port := by rw [← hs1]; rfl
  have hopen (h : GateLaw s) : OpenLaw v := ((gateLaw_iff s).mp h).1.of_same hgate1 hctl hstack1 (by rw [htimer])
  have hbank : v.ctl.station.inBank = true := by rw [hctl]; exact happ.2.1
  have hl : (v.holdEffects rb h g byThis).listening = true := by
    rw [State.listening, heffect.same.1]
    exact StationState.listening_of_inBank hbank
  have hnamed : (r.val < v.count ∧ (v.entry r).holds h g = true) ↔ named := by
    rw [hentry, Entry.holds_iff, ← hs1]
    rfl
  obtain ⟨hdone, hnone⟩ := holdEffects_cases hbank hrb h g byThis
  rw [hnamed] at hdone hnone
  by_cases hname : named
  · have heq := hdone hname
    rw [heq] at hl heffect hframe ⊢
    have hdentry : (v.dropHold r h g byThis).entry r = e.removeHold h g := by
      rw [dropHold_entry, if_pos rfl, hentry]
    have hpentry : ((v.dropHold r h g byThis).promoteAt r).entry r = (e.removeHold h g).promote := by
      rw [promoteAt_entry, if_pos rfl, hdentry]
    refine ⟨_, rfl, hframe, fun r' hr => ?_, fun h => absurd hname h, fun _ => ⟨?_, fun hw => ?_, fun x hx hnew => ?_,
      fun hh hw below k above honly hk => ⟨fun fw hst => ?_, fun p hst => ?_⟩, fun hh hleft m ws below k hw hstack hbelow hk hst => ?_,
      fun hh hleft m ws below k hw hws hstack hbelow hk hst => ?_⟩⟩
    · rw [State.finish_entry, promoteAt_entry, if_neg hr, dropHold_entry, if_neg hr, hentry]
    · rw [State.finish_entry, hpentry, Entry.removeHold_eq]
    · rw [State.finish_countdown, promoteAt_countdown, if_neg, dropHold_countdown, if_pos rfl]
      rintro ⟨-, x, hx, hxh, -⟩
      rw [hdentry] at hx
      obtain ⟨w, hww, hwx⟩ := Entry.exists_waiter_of_promoted hx
      exact hw w hww (hwx.trans hxh)
    · rw [State.finish_entry, hpentry] at hx
      obtain ⟨new, hnew'⟩ := (e.removeHold h g).promoteOver_holders (e.removeHold h g).waiters
      have hdrop : (e.removeHold h g).promote.holders.drop (e.removeHold h g).holders.length = new := by
        rw [Entry.promote, ← hnew', List.drop_left]
      rw [Entry.promote, ← hnew'] at hx
      have hxnew : x ∈ new := (List.mem_append.mp hx).resolve_left fun h => hnew (List.mem_of_mem_filter h)
      have hms : (v.dropHold r h g byThis).countdownMs x.station = term x.station := by
        rw [← hterm]
        simp [State.countdownMs, State.self, State.bankParams]
        rfl
      rw [State.finish_countdown, promoteAt_countdown, hdentry, hdrop, if_pos ⟨rfl, x, hxnew, rfl, rfl⟩, hms]
    · subst hk hh
      rw [← hself]
      have hvonly : OnlyRecord v below k above := onlyRecord_of_stack honly hstack1
      obtain ⟨wstack, wset⟩ := removed_releasing (b := byThis) hvonly hst
      refine ⟨((State.finish_frame v _).2.2.2.2.2.1).trans wstack, fun hg => ?_⟩
      exact ((wset (hopen hg)).finish v).2.1.trans (State.raise_port_congr hport1 _)
    · subst hk hh
      rw [← hself] at hl ⊢
      have hvonly : OnlyRecord v below k above := onlyRecord_of_stack honly hstack1
      obtain ⟨wstack, wnot, wset⟩ := removed_lapsed (b := byThis) hvonly hst
      refine ⟨((State.finish_frame v _).2.2.2.2.2.1).trans wstack, fun m hm => ?_, fun hg => ?_⟩
      · rw [State.finish_gate hl]
        exact NotHeld.gateCondition (hm ▸ wnot)
      · refine ((wset (hopen hg)).finish v).2.1.trans ?_
        rw [hgate1]
        have hlapsed := State.raise_port_congr hport1
          { kind := .lapsed, subject := k.resource, grant := g, detail := if byThis then 1 else 0 }
        split
        · exact State.raise_port_congr hlapsed _
        · exact hlapsed
    · subst hk
      have hvonly : OnlyRecord v below k [] := ⟨hstack1.trans hstack, by simpa using hbelow⟩
      rw [State.dropHold_other v k.resource g (by rw [hself]; exact hh)] at hdentry hl ⊢
      have hdonly : OnlyRecord (v.dropping k.resource h g) below k [] := hvonly
      have hnot : k.isHeld = false := by rw [Record.isHeld, hst]
      have hdfree : ((v.dropping k.resource h g).entry k.resource).state = .free := by
        rw [hdentry, Entry.removeHold_eq]
        exact if_pos hleft
      have hdholders : ((v.dropping k.resource h g).entry k.resource).holders = [] := by rw [hdentry]; exact hleft
      have hdw : ((v.dropping k.resource h g).entry k.resource).waiters =
          { station := (v.dropping k.resource h g).self, mode := m } :: ws := by
        rw [hdentry]
        exact hw.trans (by rw [← hself]; rfl)
      have hdcounter : ((v.dropping k.resource h g).entry k.resource).counter = e.counter := by rw [hdentry]; rfl
      obtain ⟨wonly, wctl, wrun, wset⟩ := promoted_waiting hdonly hdfree hdholders hdw hst
      rw [hdcounter] at wonly wrun wset
      refine ⟨((State.finish_frame v _).2.2.2.2.2.1).trans wonly.1, fun hg => ?_, fun q hq hm => ?_⟩
      · have hdopen := (gatesBut_dropping v k.resource h g).openLaw (hopen hg) (notHeld_of_only hvonly hnot)
          (notHeld_of_only hdonly hnot)
        have hdetail : m.detail = if m = .shared then 0 else 1 := by cases m <;> rfl
        rw [hdetail] at wset
        exact ((wset hdopen).finish v).2.1.trans (State.raise_port_congr (s := v.dropping k.resource h g) (t := s) hport1 _)
      · rw [State.finish_gate hl]
        have hst' : ((v.dropping k.resource h g).promoteAt k.resource).ctl.station = .member := by
          rw [wctl]
          exact (congrArg (·.station) hctl).trans hm
        refine gateCondition_of_running (k := { k with state := .held (nextCandidate e.counter) false }) hq hst'
          (State.recordOf_only wonly) rfl ?_
        rw [State.self, wctl]
        exact wrun
    · subst hk
      have hvonly : OnlyRecord v below k [] := ⟨hstack1.trans hstack, by simpa using hbelow⟩
      rw [State.dropHold_other v k.resource g (by rw [hself]; exact hh)] at hdentry hpentry hl heffect ⊢
      have hdonly : OnlyRecord (v.dropping k.resource h g) below k [] := hvonly
      have hnot : k.isHeld = false := by rw [Record.isHeld, hst]
      have hdfree : ((v.dropping k.resource h g).entry k.resource).state = .free := by
        rw [hdentry, Entry.removeHold_eq]
        exact if_pos hleft
      have hdholders : ((v.dropping k.resource h g).entry k.resource).holders = [] := by rw [hdentry]; exact hleft
      have hdw : ((v.dropping k.resource h g).entry k.resource).waiters =
          { station := (v.dropping k.resource h g).self, mode := m } :: ws := by
        rw [hdentry]
        exact hw.trans (by rw [← hself]; rfl)
      have hdcounter : ((v.dropping k.resource h g).entry k.resource).counter = e.counter := by rw [hdentry]; rfl
      obtain ⟨wstack, wsendq, wset⟩ := promoted_withdrawOwed hdonly hdfree hdholders hdw hst
      rw [hdcounter] at wstack wset
      refine ⟨((State.finish_frame v _).2.2.2.2.2.1).trans wstack, fun hg => ?_, fun f hf hq => ?_, fun hroom hexp => ?_⟩
      · have hdopen := (gatesBut_dropping v k.resource h g).openLaw (hopen hg) (notHeld_of_only hvonly hnot)
          (notHeld_of_only hdonly hnot)
        exact ((wset hdopen).finish v).2.1.trans hport1
      · refine withdraw_gone hl (Entry.hasWaiter_false fun w hw' => ?_) hf hq
        rw [hpentry, Entry.promote_of_grantable (e := e.removeHold h g) (w := { station := s.self, mode := m }) (ws := ws) hw ?_] at hw'
        · have hself' : ((v.dropping k.resource h g).promoteAt k.resource).self = s.self :=
            (congrArg (·.number) heffect.same.1).trans hself
          rw [hself']
          exact hws w ((Entry.waiters_promote_sublist _).subset hw')
        · rw [Entry.promotable_iff, Entry.removeHold_eq]
          exact .inl (if_pos hleft)
      · obtain ⟨hcs, hsilence⟩ := hexp
        have hquiet : Unexpired (State.tested v ((v.dropping k.resource h g).promoteAt k.resource)) := by
          refine unexpired_tested (NoneExpired.promoteAt fun c hc => ?_) fun p => ?_
          · exact hcs c (htimer ▸ List.mem_of_mem_filter hc)
          · rw [heffect.same.2.2.2.2.2.2.1, htimer]
            exact hsilence p
        have hvroom : GeneralRoom v (.release k.resource (nextCandidate e.counter)) := by
          rw [← hs1]
          exact generalRoom_takeNotice hroom _ _
        have hnew : v.stack.any (fun k0 => decide (k0.resource = k.resource) && k0.owesRelease) = false := by
          rw [hvonly.1, List.any_eq_false]
          intro x hx
          rcases List.mem_append.mp hx with hx | hx
          · simp [hbelow x hx]
          · rw [List.mem_singleton.mp hx]
            simp [Record.owesRelease, hst]
        rw [State.finish_sendq hl]
        refine State.askAfter_release (k := { k with state := .releasing (nextCandidate e.counter) true }) hquiet
          ((State.tested_frame v _).2.2.2.2.2.2.2.2.1.trans wstack) (fun x hx howed => ?_) rfl hnew ?_
        · rw [hvonly.1, List.any_eq_true]
          exact ⟨x, by simp [hx], by simp [howed]⟩
        · refine generalRoom_tested (generalRoom_of_sublist hvroom ?_ ?_) <;> rw [wsendq]
          · exact List.Sublist.refl _
          · exact fun f hf => hf
  · rw [hnone hname] at hframe ⊢
    refine ⟨_, rfl, hframe, fun r' hr => ?_, fun _ => ⟨?_, ?_, ?_⟩, fun h => absurd h hname⟩
    · rw [State.finish_entry, hentry]
    · rw [State.finish_entry, hentry]
    · rw [(State.finish_frame v _).2.2.2.2.2.2.2.1, htimer]
    · exact ((State.finish_frame v _).2.2.2.2.2.1).trans hstack1

end Sys2Proof.Machine

/-! PROOFS. The application of WITHDRAW and RENEW (R11, R12, R18, R20, R51, R96, R98, R134). -/

namespace Sys2Proof.Machine

open Sys2Proof.Safety

/-! ## APPLY_WITHDRAW (R11, R18, R96) -/

theorem exec_applyWithdraw {s : State} {u : Station} {rb : Byte} {rest : List Notice}
    (h : Applies s { sender := u, body := .withdraw rb } rest) : exec .applyWithdraw s = .next (State.finish
      (s.takeNotice { sender := u, body := .withdraw rb } rest)
      ((s.takeNotice { sender := u, body := .withdraw rb } rest).withdrawEffects u rb)) := by
  obtain ⟨hr, hbank, hin⟩ := h
  rw [exec_awake hr State.applyWithdraw rfl, State.applyWithdraw, hin]
  exact congrArg _ (State.applyNotice_inBank _ rest _ hbank)

theorem Entry.hasWaiter_iff (e : Entry) (u : Station) : e.hasWaiter u = true ↔ ∃ w ∈ e.waiters, w.station = u := by
  simp [Entry.hasWaiter]

theorem withdrawEffects_cases {s : State} {r : Resource} {rb : Byte} (hbank : s.ctl.station.inBank = true)
    (hrb : rb.toNat = r.val) (u : Station) :
    (r.val < s.count ∧ (s.entry r).hasWaiter u = true → s.withdrawEffects u rb = (s.dropWaiter r u).promoteAt r) ∧
      (¬(r.val < s.count ∧ (s.entry r).hasWaiter u = true) → s.withdrawEffects u rb = s) := by
  unfold State.withdrawEffects
  rw [State.targetOf_inBank hrb hbank]
  by_cases hr : r.val < s.count
  · rw [if_pos hr]
    exact ⟨fun hh => if_pos hh.2, fun hh => if_neg fun h => hh ⟨hr, h⟩⟩
  · rw [if_neg hr]
    exact ⟨fun hh => absurd hh.1 hr, fun _ => rfl⟩

theorem dropWaiter_entry (s : State) (r r' : Resource) (u : Station) :
    (s.dropWaiter r u).entry r' = if r' = r then (s.entry r).removeWaiter u else s.entry r' :=
  entry_of_setEntry (dropWaiter_table s r u) r'

/-- This station's withdraw-owed record goes, WITHDRAWN, with its waiter (R96). -/
theorem removed_withdrawOwed {s : State} {below above : List Record} {k : Record} (honly : OnlyRecord s below k above)
    (hk : k.state = .withdrawing .withdrawOwed) :
    let w := (s.dropWaiter k.resource s.self).promoteAt k.resource
    w.stack = below ++ above ∧ (OpenLaw s → Settled w (below ++ above)
      (s.raise { kind := .withdrawn, subject := k.resource, grant := 0, detail := 0 }).port) := by
  intro w
  obtain ⟨v, hv⟩ : ∃ v, v = s.setEntry k.resource ((s.entry k.resource).removeWaiter s.self) := ⟨_, rfl⟩
  have hvonly : OnlyRecord v below k above := by rw [hv]; exact honly
  have hnot : k.isHeld = false := by rw [Record.isHeld, hk]
  have hdrop : s.dropWaiter k.resource s.self = (v.popRecord k.resource).report .withdrawn k.resource 0 0 := by
    rw [← State.onWaiterRemoved_withdrawOwed (State.recordOf_only hvonly) hk, hv]
    exact if_pos rfl
  have hnone := recordOf_popAndReport v k.resource .withdrawn 0 0
  rw [← hdrop] at hnone
  have hunwanted : Unwanted (s.dropWaiter k.resource s.self) k.resource := fun x hx => by
    rw [hnone] at hx
    cases hx
  refine ⟨(promoteAt_loads hunwanted).stack.trans ?_, fun hopen => ?_⟩
  · rw [← popAndReport_stack (g := 0) hvonly .withdrawn 0, ← hdrop]
    rfl
  · have hvopen : OpenLaw v := by rw [hv]; exact hopen.of_same rfl rfl rfl rfl
    have hset := settled_popRecord hvonly hvopen hnot .withdrawn 0 0
    rw [← hdrop] at hset
    refine (hset.promoteAt hunwanted fun x hx => ?_).of_port (State.raise_port_congr (by rw [hv]; rfl) _)
    rw [hnone] at hx
    cases hx

/-- The first part of O52: a WITHDRAW. -/
theorem withdraw_applied {s : State} {u : Station} {r : Resource} {rb : Byte} {rest : List Notice}
    (happ : Applies s { sender := u, body := .withdraw rb } rest) (hrb : rb.toNat = r.val) :
    let e := s.entry r
    let waits : Prop := r.val < s.count ∧ ∃ w ∈ e.waiters, w.station = u
    ∃ t, exec .applyWithdraw s = .next t ∧ EntryNoticeFrame s t ∧ (∀ r', r' ≠ r → t.entry r' = s.entry r') ∧
      (¬waits → t.entry r = e ∧ t.stack = s.stack) ∧
      (waits →
        t.entry r = ({ e with waiters := e.waiters.filter fun w => decide (w.station ≠ u) }).promote ∧
        (u = s.self → ∀ below k, s.stack = below ++ [k] → (∀ x ∈ below, x.resource ≠ r) → k.resource = r →
          k.state = .withdrawing .withdrawOwed → t.stack = below ∧
            (GateLaw s → t.port = (s.raise { kind := .withdrawn, subject := r, grant := 0, detail := 0 }).port))) := by
  intro e waits
  rw [exec_applyWithdraw happ]
  have hframe := entryNoticeFrame_of_effect happ (State.withdrawEffects_effect _ u rb)
  generalize hs1 : s.takeNotice { sender := u, body := .withdraw rb } rest = v at *
  have hctl : v.ctl = s.ctl := by rw [← hs1]; rfl
  have hself : v.self = s.self := congrArg (·.number) hctl
  have hentry (r' : Resource) : v.entry r' = s.entry r' := by rw [← hs1]; rfl
  have hstack1 : v.stack = s.stack := by rw [← hs1]; rfl
  have hport1 : v.port = s.port := by rw [← hs1]; rfl
  have hopen (h : GateLaw s) : OpenLaw v :=
    ((gateLaw_iff s).mp h).1.of_same (by rw [← hs1]; rfl) hctl hstack1 (by rw [← hs1]; rfl)
  have hwaits : (r.val < v.count ∧ (v.entry r).hasWaiter u = true) ↔ waits := by
    rw [hentry, Entry.hasWaiter_iff, ← hs1]
    rfl
  obtain ⟨hdone, hnone⟩ := withdrawEffects_cases (by rw [hctl]; exact happ.2.1) hrb u
  rw [hwaits] at hdone hnone
  by_cases hw : waits
  · rw [hdone hw] at hframe ⊢
    refine ⟨_, rfl, hframe, fun r' hr => ?_, fun h => absurd hw h, fun _ => ⟨?_, fun hu below k hstack hbelow hk hst => ?_⟩⟩
    · rw [State.finish_entry, promoteAt_entry, if_neg hr, dropWaiter_entry, if_neg hr, hentry]
    · rw [State.finish_entry, promoteAt_entry, if_pos rfl, dropWaiter_entry, if_pos rfl, hentry]
      rfl
    · subst hk hu
      rw [← hself]
      have hvonly : OnlyRecord v below k [] := ⟨hstack1.trans hstack, by simpa using hbelow⟩
      obtain ⟨wstack, wset⟩ := removed_withdrawOwed hvonly hst
      rw [List.append_nil] at wstack wset
      exact ⟨((State.finish_frame v _).2.2.2.2.2.1).trans wstack,
        fun hg => ((wset (hopen hg)).finish v).2.1.trans (State.raise_port_congr hport1 _)⟩
  · rw [hnone hw] at hframe ⊢
    refine ⟨_, rfl, hframe, fun r' _ => ?_, fun _ => ⟨?_, ?_⟩, fun h => absurd h hw⟩
    · rw [State.finish_entry, hentry]
    · rw [State.finish_entry, hentry]
    · exact ((State.finish_frame v _).2.2.2.2.2.1).trans hstack1

/-! ## APPLY_RENEW (R20, R51, R98) -/

theorem exec_applyRenew {s : State} {u : Station} {items : List (Byte × Grant)} {rest : List Notice}
    (h : Applies s { sender := u, body := .renew items } rest) : exec .applyRenew s = .next (State.finish
      (s.takeNotice { sender := u, body := .renew items } rest)
      (items.foldl (fun s i => s.renewItem u i) (s.takeNotice { sender := u, body := .renew items } rest))) := by
  obtain ⟨hr, hbank, hin⟩ := h
  rw [exec_awake hr State.applyRenew rfl, State.applyRenew, hin]
  exact congrArg _ (State.applyNotice_inBank _ rest _ hbank)

/-- The hold that an item of a RENEW names: by resource and grant number, of its sender, in an entry in use. -/
def Renews (s : State) (u : Station) (x : Byte × Grant) (r : Resource) : Prop :=
  x.1.toNat = r.val ∧ r.val < s.count ∧ (s.entry r).holds u x.2 = true

section
variable {s : State} {u : Station} {x : Byte × Grant}

theorem renewItem_of_renews {r : Resource} (hbank : s.ctl.station.inBank = true) (h : Renews s u x r) :
    s.renewItem u x = if u = s.self then (s.loadCountdown r u x.2).onRenewed r x.2 else s.loadCountdown r u x.2 := by
  obtain ⟨hx, hr, hholds⟩ := h
  unfold State.renewItem
  rw [State.targetOf_inBank hx hbank, if_pos hr]
  exact if_pos hholds

theorem renewItem_of_none (hbank : s.ctl.station.inBank = true) (h : ∀ r, ¬Renews s u x r) : s.renewItem u x = s := by
  unfold State.renewItem
  by_cases hx : x.1.toNat < 16
  · have hx' : x.1.toNat = (⟨x.1.toNat, hx⟩ : Resource).val := rfl
    rw [State.targetOf_inBank hx' hbank]
    by_cases hr : (⟨x.1.toNat, hx⟩ : Resource).val < s.count
    · rw [if_pos hr]
      exact if_neg fun hh => h _ ⟨hx', hr, hh⟩
    · rw [if_neg hr]
  · have : s.targetOf x.1 = none := by
      rw [State.targetOf, number16, dif_neg hx]
    rw [this]

theorem renewItem_countdown (hbank : s.ctl.station.inBank = true) (r : Resource) (h : Station) (g : Grant) :
    (h = u ∧ x.2 = g ∧ Renews s u x r → (s.renewItem u x).countdown r h g = .running (s.countdownMs u)) ∧
      (¬(h = u ∧ x.2 = g ∧ Renews s u x r) → (s.renewItem u x).countdown r h g = s.countdown r h g) := by
  by_cases hex : ∃ r', Renews s u x r'
  · obtain ⟨r', hr'⟩ := hex
    have hload : (s.renewItem u x).countdown r h g = (s.loadCountdown r' u x.2).countdown r h g := by
      refine State.countdown_congr ?_ ..
      rw [renewItem_of_renews hbank hr']
      split
      · simp
      · rfl
    have hkey : (r, h, g) = (r', u, x.2) ↔ h = u ∧ x.2 = g ∧ Renews s u x r := by
      constructor
      · rintro ⟨⟩
        exact ⟨rfl, rfl, hr'⟩
      · rintro ⟨rfl, rfl, hr, -⟩
        rw [Fin.ext (hr.symm.trans hr'.1)]
    rw [hload, State.countdown_loadCountdown, ← hkey]
    exact ⟨fun h => if_pos h, fun h => if_neg h⟩
  · rw [renewItem_of_none hbank fun r' h => hex ⟨r', h⟩]
    exact ⟨fun h => absurd ⟨r, h.2.2⟩ hex, fun _ => rfl⟩

/-- No countdown of this hold is expired. -/
def Fresh (s : State) (r : Resource) (u : Station) (g : Grant) : Prop :=
  ∀ c ∈ s.timer.countdowns, (c.resource, c.holder, c.grant) = (r, u, g) → c.timer.isExpired = false

theorem fresh_loadCountdown_self (s : State) (r : Resource) (u : Station) (g : Grant) :
    Fresh (s.loadCountdown r u g) r u g := fun c hc hkey => by
  rcases List.mem_append.mp hc with hc | hc
  · exact absurd ((Countdown.isOf_iff ..).mpr hkey) (by simpa using List.of_mem_filter hc)
  · rw [List.mem_singleton.mp hc]
    rfl

theorem Fresh.loadCountdown {r : Resource} {g : Grant} {h : Station} (hf : Fresh s r h g) (r' : Resource) (u : Station)
    (g' : Grant) : Fresh (s.loadCountdown r' u g') r h g := fun c hc hkey => by
  rcases List.mem_append.mp hc with hc | hc
  · exact hf c (List.mem_of_mem_filter hc) hkey
  · rw [List.mem_singleton.mp hc]
    rfl

theorem Fresh.of_countdowns {t : State} {r : Resource} {g : Grant} {h : Station} (hf : Fresh s r h g)
    (hcs : t.timer.countdowns = s.timer.countdowns) : Fresh t r h g := fun c hc => hf c (hcs ▸ hc)

theorem renewItem_countdowns {r : Resource} (hbank : s.ctl.station.inBank = true) (h : Renews s u x r) :
    (s.renewItem u x).timer.countdowns = (s.loadCountdown r u x.2).timer.countdowns := by
  rw [renewItem_of_renews hbank h]
  split
  · simp
  · rfl

theorem Fresh.renewItem {r : Resource} {g : Grant} {h : Station} (hbank : s.ctl.station.inBank = true)
    (hf : Fresh s r h g) : Fresh (s.renewItem u x) r h g := by
  by_cases hex : ∃ r', Renews s u x r'
  · obtain ⟨r', hr'⟩ := hex
    exact (hf.loadCountdown r' u x.2).of_countdowns (renewItem_countdowns hbank hr')
  · rw [renewItem_of_none hbank fun r' h => hex ⟨r', h⟩]
    exact hf

/-- What an item of a RENEW leaves alone, of what the next items read. -/
theorem renews_renewItem (s : State) (u : Station) (x y : Byte × Grant) (r : Resource) :
    Renews (s.renewItem u x) u y r ↔ Renews s u y r := by
  have htable : (s.renewItem u x).table = s.table := by simp
  unfold Renews State.count State.entry
  rw [htable]

end

/-- An item of a list names the hold. -/
def RenewedBy (s : State) (u : Station) (items : List (Byte × Grant)) (r : Resource) (g : Grant) : Prop :=
  ∃ x ∈ items, x.2 = g ∧ Renews s u x r

theorem renewItems_countdown {s : State} {u : Station} (items : List (Byte × Grant))
    (hbank : s.ctl.station.inBank = true) (r : Resource) (h : Station) (g : Grant) :
    let t := items.foldl (fun s i => s.renewItem u i) s
    (h = u ∧ RenewedBy s u items r g → t.countdown r h g = .running (s.countdownMs u) ∧ Fresh t r h g) ∧
      (¬(h = u ∧ RenewedBy s u items r g) → t.countdown r h g = s.countdown r h g) := by
  have hkeeps (l : List (Byte × Grant)) (s : State) (hbank : s.ctl.station.inBank = true) (hf : Fresh s r h g) :
      Fresh (l.foldl (fun s i => s.renewItem u i) s) r h g := by
    induction l generalizing s with
    | nil => exact hf
    | cons x l ih => exact ih _ (by simpa using hbank) (hf.renewItem hbank)
  induction items generalizing s with
  | nil => exact ⟨fun ⟨_, x, hx, _⟩ => absurd hx (by simp), fun _ => rfl⟩
  | cons x l ih =>
    intro t
    have hbank' : (s.renewItem u x).ctl.station.inBank = true := by simpa using hbank
    have hms : (s.renewItem u x).countdownMs u = s.countdownMs u := by
      simp [State.countdownMs, State.self, State.bankParams]
      rfl
    have hby : RenewedBy (s.renewItem u x) u l r g ↔ RenewedBy s u l r g := by
      unfold RenewedBy
      simp only [renews_renewItem]
    have hcons : RenewedBy s u (x :: l) r g ↔ (x.2 = g ∧ Renews s u x r) ∨ RenewedBy s u l r g := by
      simp [RenewedBy]
    obtain ⟨hthen, helse⟩ := ih hbank'
    obtain ⟨hnow, hnot⟩ := renewItem_countdown (u := u) (x := x) hbank r h g
    rw [hby, hms] at hthen
    rw [hby] at helse
    rw [hcons]
    by_cases hlater : h = u ∧ RenewedBy s u l r g
    · exact ⟨fun _ => hthen hlater, fun hno => absurd ⟨hlater.1, .inr hlater.2⟩ hno⟩
    · have hsame := helse hlater
      refine ⟨fun ⟨hu, hor⟩ => ?_, fun hno => hsame.trans (hnot fun hh => hno ⟨hh.1, .inl hh.2⟩)⟩
      have hthis := hor.resolve_right fun hr => hlater ⟨hu, hr⟩
      refine ⟨hsame.trans (hnow ⟨hu, hthis⟩), hkeeps l _ hbank' ?_⟩
      obtain ⟨hg, hrenews⟩ := hthis
      subst hu hg
      exact (fresh_loadCountdown_self s r h x.2).of_countdowns (renewItem_countdowns hbank hrenews)

/-! ### This station's own record (R98) -/

section
variable {s : State} {r : Resource} {k : Record} {g : Grant}

theorem onRenewed_recordOf_other {r' : Resource} (hr : r' ≠ r) (g' : Grant) :
    (s.onRenewed r' g').recordOf r = s.recordOf r := by
  unfold State.onRenewed
  split
  · rfl
  · split
    · split
      · rw [recordOf_congr (State.evalResource_frame ..).2.2.2.2.1, State.report,
          recordOf_congr (State.raise_frame ..).2.2.2.2.1, recordOf_setRecord_other s (Ne.symm hr)]
      · rfl
    · rfl

theorem onRenewed_unmatched (hk : s.recordOf r = some k) (h : k.state ≠ .held g true) : s.onRenewed r g = s := by
  simp only [State.onRenewed, hk]
  split
  next g' hst =>
    rw [if_neg]
    rintro rfl
    exact h hst
  · rfl

theorem onRenewed_pending (hk : s.recordOf r = some k) (h : k.state = .held g true) : s.onRenewed r g =
    ((s.setRecord r (.held g false)).report .granted r g k.mode.detail).evalResource r 2 g := by
  simp only [State.onRenewed, hk, h, if_true]

/-- The record that loses renewal pending (R98). -/
theorem recordOf_onRenewed (hk : s.recordOf r = some k) (h : k.state = .held g true) :
    (s.onRenewed r g).recordOf r = some { k with state := .held g false } := by
  rw [onRenewed_pending hk h, recordOf_congr (State.evalResource_frame ..).2.2.2.2.1, State.report,
    recordOf_congr (State.raise_frame ..).2.2.2.2.1, recordOf_setRecord, hk, Option.map_some,
    if_pos (State.mem_of_recordOf hk).2]

theorem reports_length_raise (x : Report) : (s.raise x).port.reports.length ≤ s.port.reports.length + 1 := by
  unfold State.raise
  split <;> simp [State.withPort]

theorem reports_length_evalResource (d : BitVec 4) :
    (s.evalResource r d g).port.reports.length ≤ s.port.reports.length + 1 := by
  by_cases hr : r.val < 8
  · obtain ⟨n, rfl⟩ := channelResource_surj hr
    rw [State.evalResource_channel, State.evalChannel_port]
    split
    · exact reports_length_raise _
    · exact Nat.le_succ _
  · rw [State.evalResource_no_channel (by omega)]
    exact Nat.le_succ _

theorem reports_length_onRenewed : (s.onRenewed r g).port.reports.length ≤ s.port.reports.length + 2 := by
  unfold State.onRenewed
  split
  · exact Nat.le_add_right _ 2
  · split
    · split
      · refine (reports_length_evalResource 2).trans (Nat.succ_le_succ ?_)
        exact reports_length_raise (s := s.setRecord r _) _
      · exact Nat.le_add_right _ 2
    · exact Nat.le_add_right _ 2

theorem reports_length_renewItem (u : Station) (x : Byte × Grant) :
    (s.renewItem u x).port.reports.length ≤ s.port.reports.length + 2 := by
  unfold State.renewItem
  split
  · split
    · split
      · exact reports_length_onRenewed (s := s.loadCountdown _ u x.2)
      · exact Nat.le_add_right _ 2
    · exact Nat.le_add_right _ 2
  · exact Nat.le_add_right _ 2

/-- GRANTED is the report of the record that loses renewal pending, where the queue has room. -/
theorem granted_mem_onRenewed (hk : s.recordOf r = some k) (h : k.state = .held g true)
    (hroom : s.port.reports.length < 16) : { kind := .granted, subject := r, grant := g, detail := k.mode.detail } ∈
      (s.onRenewed r g).port.reports := by
  rw [onRenewed_pending hk h]
  refine (State.evalResource_grows _ r 2 g).reports.subset ?_
  have hport := State.raise_port_congr (s := s.setRecord r (.held g false)) (t := s) rfl
    { kind := .granted, subject := r, grant := g, detail := k.mode.detail }
  show _ ∈ ((s.setRecord r (.held g false)).raise _).port.reports
  rw [hport, State.raise, if_pos (show _ < Config.reportCapacity from hroom)]
  exact List.mem_append_right _ (List.mem_singleton.mpr rfl)

/-- A record without renewal pending keeps its state through the items of a RENEW, and others are not touched by an item
that does not name them. -/
theorem recordOf_renewItem {u : Station} {x : Byte × Grant} (hbank : s.ctl.station.inBank = true)
    (hk : s.recordOf r = some k) (h : ¬(Renews s u x r ∧ k.state = .held x.2 true)) :
    (s.renewItem u x).recordOf r = some k := by
  by_cases hex : ∃ r', Renews s u x r'
  · obtain ⟨r', hr'⟩ := hex
    rw [renewItem_of_renews hbank hr']
    split
    · by_cases hr : r' = r
      · subst hr
        rw [onRenewed_unmatched (s := s.loadCountdown r' u x.2) hk fun hst => h ⟨hr', hst⟩]
        exact hk
      · rw [onRenewed_recordOf_other hr]
        exact hk
    · exact hk
  · rw [renewItem_of_none hbank fun r' h => hex ⟨r', h⟩]
    exact hk

end

theorem recordOf_renewItems_settled {s : State} {u : Station} {r : Resource} {k : Record} (items : List (Byte × Grant))
    (hbank : s.ctl.station.inBank = true) (hk : s.recordOf r = some k) (h : ∀ g, k.state ≠ .held g true) :
    (items.foldl (fun s i => s.renewItem u i) s).recordOf r = some k := by
  induction items generalizing s with
  | nil => exact hk
  | cons x l ih => exact ih (by simpa using hbank) (recordOf_renewItem hbank hk fun hh => h _ hh.2)

/-- The own record that a RENEW names loses renewal pending, with GRANTED. -/
theorem renewItems_pending {s : State} {u : Station} {r : Resource} {k : Record} {g : Grant}
    (items : List (Byte × Grant)) (hu : u = s.self) (hbank : s.ctl.station.inBank = true) (hk : s.recordOf r = some k)
    (h : k.state = .held g true) (hby : RenewedBy s u items r g) :
    let t := items.foldl (fun s i => s.renewItem u i) s
    t.recordOf r = some { k with state := .held g false } ∧ (s.port.reports.length + 2 * items.length ≤ 16 →
      { kind := .granted, subject := r, grant := g, detail := k.mode.detail } ∈ t.port.reports) := by
  induction items generalizing s with
  | nil =>
    obtain ⟨x, hx, -⟩ := hby
    cases hx
  | cons x l ih =>
    intro t
    have hbank' : (s.renewItem u x).ctl.station.inBank = true := by simpa using hbank
    by_cases hnow : Renews s u x r ∧ x.2 = g
    · obtain ⟨hrenews, rfl⟩ := hnow
      have hitem : s.renewItem u x = (s.loadCountdown r u x.2).onRenewed r x.2 :=
        (renewItem_of_renews hbank hrenews).trans (if_pos hu)
      have hk' : (s.loadCountdown r u x.2).recordOf r = some k := hk
      have hrecord : (s.renewItem u x).recordOf r = some { k with state := .held x.2 false } := by
        rw [hitem]
        exact recordOf_onRenewed hk' h
      refine ⟨recordOf_renewItems_settled l hbank' hrecord fun _ h => Bool.noConfusion (RecordState.held.inj h).2,
        fun hroom => ?_⟩
      have hgrows : Grows (s.renewItem u x) t := Grows.foldl l _ fun s i => s.renewItem_grows u i
      refine hgrows.reports.subset ?_
      rw [hitem]
      refine granted_mem_onRenewed hk' h ?_
      show s.port.reports.length < 16
      rw [List.length_cons] at hroom
      omega
    · have hrecord := recordOf_renewItem (x := x) (u := u) hbank hk fun hh => hnow ⟨hh.1, by
        rw [h] at hh
        exact (RecordState.held.inj hh.2).1.symm⟩
      have hby' : RenewedBy (s.renewItem u x) u l r g := by
        obtain ⟨y, hy, hyg, hyr⟩ := hby
        rcases List.mem_cons.mp hy with rfl | hy
        · exact absurd ⟨hyr, hyg⟩ hnow
        · exact ⟨y, hy, hyg, (renews_renewItem s u x y r).mpr hyr⟩
      have hself : u = (s.renewItem u x).self := hu.trans (by simp [State.self])
      obtain ⟨hthen, hreport⟩ := ih hself hbank' hrecord hby'
      refine ⟨hthen, fun hroom => hreport ?_⟩
      have := reports_length_renewItem (s := s) u x
      rw [List.length_cons] at hroom
      omega

theorem renewItems_other {s : State} {u : Station} (items : List (Byte × Grant)) (hu : u ≠ s.self) :
    (items.foldl (fun s i => s.renewItem u i) s).stack = s.stack := by
  induction items generalizing s with
  | nil => rfl
  | cons x l ih =>
    have hself : u ≠ (s.renewItem u x).self := by simpa [State.self] using hu
    rw [List.foldl_cons, ih hself]
    unfold State.renewItem
    simp only [if_neg hu]
    (repeat' split) <;> rfl

/-- Settles O52: the WITHDRAW by whether the sender waits, the RENEW item by item. -/
theorem withdrawAndRenewApplied : Obligations.WithdrawAndRenewApplied := by
  refine ⟨fun s u r rb rest happ hrb => withdraw_applied happ hrb, ?_⟩
  intro s u items rest happ term named
  rw [exec_applyRenew happ]
  have heffect := State.renewItems_effect (s.takeNotice { sender := u, body := .renew items } rest) u items
  have hframe := entryNoticeFrame_of_effect happ heffect
  generalize hs1 : s.takeNotice { sender := u, body := .renew items } rest = v at *
  have hctl : v.ctl = s.ctl := by rw [← hs1]; rfl
  have hself : v.self = s.self := congrArg (·.number) hctl
  have hstack1 : v.stack = s.stack := by rw [← hs1]; rfl
  have hcountdown (r' : Resource) (h : Station) (g : Grant) : v.countdown r' h g = s.countdown r' h g :=
    State.countdown_congr (by rw [← hs1]; rfl) ..
  have hbank : v.ctl.station.inBank = true := by rw [hctl]; exact happ.2.1
  have hnamed (r : Resource) (g : Grant) : RenewedBy v u items r g ↔ named r g := by
    unfold RenewedBy Renews
    simp only [Entry.holds_iff]
    rw [← hs1]
    constructor
    · rintro ⟨⟨rb, g'⟩, hx, rfl, hrb, hr, hh⟩
      exact ⟨⟨rb, hx, hrb⟩, hr, hh⟩
    · rintro ⟨⟨rb, hx, hrb⟩, hr, hh⟩
      exact ⟨(rb, g), hx, rfl, hrb, hr, hh⟩
  have hcs := renewItems_countdown (u := u) items hbank
  have htable : (items.foldl (fun s i => s.renewItem u i) v).table = v.table :=
    foldl_keeps (R := fun s t => t.table = s.table) (fun _ => rfl) (fun h h' => h'.trans h) (fun s x => by simp) items v
  have hl : (items.foldl (fun s i => s.renewItem u i) v).listening = true := by
    rw [State.listening, heffect.same.1]
    exact StationState.listening_of_inBank hbank
  have hother (hu : u ≠ v.self) := renewItems_other (s := v) items hu
  have hown (hu : u = v.self) {r : Resource} {k : Record} {g : Grant} (hk : v.recordOf r = some k)
    (h : k.state = .held g true) := renewItems_pending (g := g) items hu hbank hk h
  generalize items.foldl (fun s i => s.renewItem u i) v = w at *
  refine ⟨_, rfl, hframe, ?_, fun r g hn => ⟨?_, fun f hf hq hb => ?_⟩, fun r h g hn => ?_, fun hu => ?_,
    fun hu below k above g honly hst hn => ?_⟩
  · rw [(State.finish_frame v w).2.1, htable, ← hs1]
    rfl
  · rw [State.finish_countdown, (hcs r u g).1 ⟨rfl, (hnamed r g).mpr hn⟩ |>.1, ← hs1]
    rfl
  · obtain ⟨hrun, hfresh⟩ := (hcs r u g).1 ⟨rfl, (hnamed r g).mpr hn⟩
    rcases State.mem_finish hl hf with ⟨-, hstale⟩ | hasked
    · refine hstale hq (.inl ?_)
      rw [hb, State.tableStale, State.countdown_congr (t := w) (State.tested_frame v w).2.2.2.2.2.1, hrun]
      exact Bool.or_true _
    · rw [hb] at hasked
      obtain ⟨⟨c, hc, hkey, hex⟩, -⟩ := hasked
      rw [hfresh c hc hkey] at hex
      cases hex
  · rw [State.finish_countdown, (hcs r h g).2 fun hh => hn ⟨hh.1, (hnamed r g).mp hh.2⟩, hcountdown]
  · exact ((State.finish_frame v w).2.2.2.2.2.1).trans ((hother (by rw [hself]; exact hu)).trans hstack1)
  · have hk : v.recordOf k.resource = some k := State.recordOf_only (onlyRecord_of_stack honly hstack1)
    obtain ⟨hrecord, hreport⟩ := hown (hu.trans hself.symm) hk hst ((hnamed k.resource g).mpr hn)
    refine ⟨?_, fun hempty hlen => ?_⟩
    · rw [(State.finish_frame v w).2.2.2.2.2.1]
      exact (State.mem_of_recordOf hrecord).1
    · have hdetail : k.mode.detail = if k.mode = .shared then 0 else 1 := by cases k.mode <;> rfl
      have hport : v.port.reports = [] := by rw [← hs1]; exact hempty
      rw [← hdetail]
      exact (State.reports_prefix_finish v w).subset (hreport (by rw [hport, List.length_nil]; omega))

end Sys2Proof.Machine

/-! PROOFS. A station becomes MEMBER (R40, R47, R200), and the application of FOUND (R23, R38 to R41, R59). -/

namespace Sys2Proof.Machine

open Sys2Proof.Safety

/-! ## A station becomes MEMBER (R40, R47, R59, R200) -/

/-- The MEMBER report of a station with these flags (R40). -/
def State.memberReport (s : State) (founded : Bool) : Report :=
  { kind := .member, subject := 0, grant := 0, detail := memberDetail founded (decide (s.bankParams ≠ s.ctl.proposed)) }

/-- What entering MEMBER makes of the station (R40, R200). -/
theorem State.becomeMember_spec (s : State) (founded : Bool) :
    (s.becomeMember founded).ctl = { s.ctl with station := .member } ∧
    (s.becomeMember founded).table = { s.table with imagePending := none } ∧
    (s.becomeMember founded).timer =
      { s.timer with joinWait := .stopped, foundWait := .stopped, imageWait := .stopped } ∧
    (s.becomeMember founded).sendq = s.sendq ∧ (s.becomeMember founded).stack = s.stack ∧
    (s.becomeMember founded).line = s.line ∧
    (s.raise (s.memberReport founded)).port.reports <+: (s.becomeMember founded).port.reports ∧
    (s.stack = [] → (∀ n : Fin 8, s.gate[n].opened = false) →
      (s.becomeMember founded).gate = s.gate ∧ (s.becomeMember founded).port = (s.raise (s.memberReport founded)).port) := by
  obtain ⟨u, hu⟩ : ∃ u, u = ((s.withCtl { s.ctl with station := .member }).stopWaits).withTable
    { s.table with imagePending := none } := ⟨_, rfl⟩
  have hbecome : s.becomeMember founded = (u.raise (s.memberReport founded)).evalGates 3 := by rw [hu]; rfl
  have hport := State.raise_port_congr (s := u) (t := s) (by rw [hu]; rfl) (s.memberReport founded)
  have hblocks : u.ctl = { s.ctl with station := .member } ∧ u.table = { s.table with imagePending := none } ∧
      u.timer = { s.timer with joinWait := .stopped, foundWait := .stopped, imageWait := .stopped } ∧
      u.sendq = s.sendq ∧ u.stack = s.stack ∧ u.line = s.line ∧ u.gate = s.gate := by
    rw [hu]
    exact ⟨rfl, rfl, rfl, rfl, rfl, rfl, rfl⟩
  obtain ⟨hctl, htable, htimer, hsendq, hstack, hline, hgate⟩ := hblocks
  obtain ⟨rctl, rtable, rtimer, rsendq, rstack, rgate, rline, -⟩ := u.raise_frame (s.memberReport founded)
  rw [hbecome]
  generalize u.raise (s.memberReport founded) = v at *
  obtain ⟨ectl, etable, etimer, esendq, estack, -, eline, -⟩ := v.evalGates_frame 3
  have hprefix := v.reports_prefix_evalGates 3
  have hlawful (h : ∀ n : Fin 8, v.gate[n].opened = v.gateCondition n) := v.evalGates_of_lawful 3 h
  generalize v.evalGates 3 = w at *
  refine ⟨ectl.trans (rctl.trans hctl), etable.trans (rtable.trans htable), etimer.trans (rtimer.trans htimer),
    esendq.trans (rsendq.trans hsendq), estack.trans (rstack.trans hstack), eline.trans (rline.trans hline), ?_,
    fun hempty hclosed => ?_⟩
  · rw [← hport]
    exact hprefix
  · have hw : w = v := hlawful fun n => by
      have hnone : v.recordOf (channelResource n) = none := by
        rw [State.recordOf, rstack, hstack, hempty]
        rfl
      rw [rgate, hgate, hclosed n, State.gateCondition_of_no_record hnone]
    rw [hw]
    exact ⟨rgate.trans hgate, hport⟩

/-- The report that a peer has become MEMBER (R47). -/
def joinedReport (p : Station) : Report := { kind := .peerJoined, subject := p, grant := 0, detail := 0 }

theorem reportPeer_member {s : State} (h : s.ownRecord.isMember = true) (kind : ReportKind) (p : Station) (d : BitVec 4) :
    s.reportPeer kind p d = s.raise { kind := kind, subject := p, grant := 0, detail := d } := if_pos h

/-- A station that is MEMBER reports each other JOINING record that is MEMBER now (R47). -/
theorem State.reportJoined_eq (s0 s : State) (hown : s.ownRecord.isMember = true) : State.reportJoined s0 s =
    ((all16.filter fun p => decide (p ≠ s.self ∧ s0.table.members[p].isJoining = true ∧
      s.table.members[p].isMember = true)).map joinedReport).foldl State.raise s := by
  have hfold (l : List Station) (s : State) (hown : s.ownRecord.isMember = true) :
      l.foldl (fun s p => if p ≠ s.self ∧ s0.table.members[p].isJoining ∧ s.table.members[p].isMember then
        s.reportPeer .peerJoined p 0 else s) s =
      ((l.filter fun p => decide (p ≠ s.self ∧ s0.table.members[p].isJoining = true ∧
        s.table.members[p].isMember = true)).map joinedReport).foldl State.raise s := by
    induction l generalizing s with
    | nil => rfl
    | cons p l ih =>
      by_cases hp : p ≠ s.self ∧ s0.table.members[p].isJoining = true ∧ s.table.members[p].isMember = true
      · obtain ⟨hctl, htable, -⟩ := s.raise_frame (joinedReport p)
        rw [List.filter_cons_of_pos (by simpa using hp), List.map_cons, List.foldl_cons, List.foldl_cons, if_pos hp,
          reportPeer_member hown]
        refine (ih (s.raise (joinedReport p)) ?_).trans ?_
        · simpa [State.ownRecord, State.recordOfStation, State.self, hctl, htable] using hown
        · simp only [State.self, hctl, htable]
          rfl
      · rw [List.filter_cons_of_neg (by simpa using hp), List.foldl_cons, if_neg hp]
        exact ih s hown
  exact hfold all16 s hown

/-! ## The application of a notice at a station that listens (R6, R41) -/

theorem State.applyNotice_listening {s : State} (n : Notice) (rest : List Notice) (effects : State → State)
    (h : s.listening = true) : s.applyNotice n rest effects =
      State.finish (s.takeNotice n rest) (effects ((s.takeNotice n rest).evidence n)) :=
  if_pos (by rw [State.listening, (s.takeNotice_frame n rest).1]; exact h)

theorem exec_applyFound {s : State} {u : Station} {p : Params} {rest : List Notice} (hr : s.ctl.inReset = false)
    (hl : s.listening = true) (hin : s.line.inbound = { sender := u, body := .found p } :: rest) :
    exec .applyFound s = .next (State.finish (s.takeNotice { sender := u, body := .found p } rest)
      (((s.takeNotice { sender := u, body := .found p } rest).evidence { sender := u, body := .found p }).foundEffects
        u p)) := by
  rw [exec_awake hr State.applyFound rfl, State.applyFound, hin]
  exact congrArg _ (State.applyNotice_listening _ rest _ hl)

/-! ## APPLY_FOUND (R23, R38 to R41) -/

theorem State.evidence_found (s : State) (u : Station) (p : Params) : s.evidence { sender := u, body := .found p } =
    if !s.provisional || decide (u = s.self) then s
    else if (s.recordOfStation u).isAbsent then s.setMember u (.joining (some { attempt := 0, source := none })) else s :=
  rfl

/-- The view of a joiner that takes a FOUND: its sender is seen at the latest by this FOUND (R38, R41). -/
theorem evidence_founding {s : State} {u : Station} {p : Params} (hown : s.table.members[s.self].isJoining = true)
    (hst : s.ctl.station = .joining) (hnone : ∀ q : Station, s.table.members[q].isMember = false)
    (hu : s.table.members[u].isJoining = true ∨ (s.table.bank = none ∧ s.table.members[u] = .absent)) :
    ∃ ms : Vector MemberRecord 16, s.evidence { sender := u, body := .found p } = s.withTable { s.table with members := ms } ∧
      ∀ q : Station, ms[q].isMember = false ∧ ms[q].isJoining = (s.table.members[q].isJoining || decide (q = u)) := by
  rw [State.evidence_found]
  rcases hu with hu | ⟨hbank, habsent⟩
  · have hnot : (s.recordOfStation u).isAbsent = false := by
      rw [Bool.eq_false_iff, Ne, MemberRecord.isAbsent_iff]
      intro h
      rw [State.recordOfStation] at h
      rw [h] at hu
      cases hu
    refine ⟨s.table.members, ?_, fun q => ⟨hnone q, ?_⟩⟩
    · rw [hnot]
      exact ite_self s
    · by_cases hq : q = u
      · subst hq
        rw [hu]
        rfl
      · rw [decide_eq_false hq, Bool.or_false]
  · have hne : u ≠ s.self := fun h => by
      subst h
      rw [habsent] at hown
      cases hown
    have hprov : s.provisional = true := by
      rw [State.provisional, hst, hbank]
      rfl
    have habs : (s.recordOfStation u).isAbsent = true := (MemberRecord.isAbsent_iff _).mpr habsent
    refine ⟨s.table.members.set u (.joining (some { attempt := 0, source := none })), ?_, fun q => ?_⟩
    · rw [hprov, decide_eq_false hne, habs]
      rfl
    · have hq := State.recordOfStation_setMember s u q (.joining (some { attempt := 0, source := none }))
      replace hq : (s.table.members.set u (.joining (some { attempt := 0, source := none })))[q] = _ := hq
      rw [hq]
      split
      next h => exact ⟨rfl, by rw [h]; simp [MemberRecord.isJoining]⟩
      next h => exact ⟨hnone q, by rw [decide_eq_false h, Bool.or_false]; rfl⟩

/-- The state of a bank that a FOUND founds, before this station's own step into it (R23, R38). -/
def State.founding (s : State) (p : Params) : State :=
  (s.withTable { s.table with entries := Vector.replicate 16 Entry.clear, members := foundedMembers s.table.members,
                              bank := some p }).withTimer { s.timer with countdowns := [] }

theorem foundEffects_founding {s : State} {u : Station} {p : Params} (hst : s.ctl.station = .joining)
    (hnone : ∀ q : Station, s.table.members[q].isMember = false) (hown : s.table.members[s.self].isJoining = true)
    (hu : s.table.members[u].isJoining = true) (hp : p.inRange = true) :
    s.foundEffects u p = State.reportJoined s ((s.founding p).becomeMember true) := by
  have hany : s.anyMember = false := by
    rw [← Bool.not_eq_true, State.anyMember_iff]
    rintro ⟨q, hq⟩
    rw [hnone q] at hq
    cases hq
  have hu' : (s.recordOfStation u).isJoining = true := hu
  have hown' : s.ownRecord.isJoining = true := hown
  unfold State.foundEffects
  rw [hany, hu', hp, if_neg (by nofun)]
  exact congrArg (State.reportJoined s) (if_pos ⟨hown', hst⟩)

theorem foundedMembers_getElem (ms : Vector MemberRecord 16) (q : Station) :
    (foundedMembers ms)[q] = if ms[q].isJoining then .member none else ms[q] := by
  simp [foundedMembers]

/-- The founding of a bank at a JOINING station, up to the end of the effects (R38 to R40, R47). -/
theorem foundEffects_spec {s : State} {u : Station} {p : Params} (hst : s.ctl.station = .joining)
    (hnone : ∀ q : Station, s.table.members[q].isMember = false) (hown : s.table.members[s.self].isJoining = true)
    (hu : s.table.members[u].isJoining = true) (hp : p.inRange = true) (hstack : s.stack = [])
    (hclosed : ∀ n : Fin 8, s.gate[n].opened = false) (hreports : s.port.reports = []) :
    let w := s.foundEffects u p
    w.ctl = { s.ctl with station := .member } ∧
      w.table = { (s.founding p).table with imagePending := none } ∧
      w.timer = { s.timer with countdowns := [], joinWait := .stopped, foundWait := .stopped, imageWait := .stopped } ∧
      w.stack = [] ∧ w.gate = s.gate ∧ w.line = s.line ∧
      w.port.reports = { kind := .member, subject := 0, grant := 0, detail := if p = s.ctl.proposed then 1 else 3 } ::
        (all16.filter fun q => s.table.members[q].isJoining && decide (q ≠ s.self)).map joinedReport := by
  intro w
  obtain ⟨bctl, btable, btimer, -, bstack, bline, -, bquiet⟩ := (s.founding p).becomeMember_spec true
  obtain ⟨bgate, bport⟩ := bquiet hstack hclosed
  have hw : w = State.reportJoined s ((s.founding p).becomeMember true) := foundEffects_founding hst hnone hown hu hp
  generalize (s.founding p).becomeMember true = v at *
  have hself : v.self = s.self := congrArg (·.number) bctl
  have hmembers (q : Station) : v.table.members[q] = if s.table.members[q].isJoining then .member none else s.table.members[q] := by
    rw [btable]
    exact foundedMembers_getElem s.table.members q
  have hvown : v.ownRecord.isMember = true := by
    rw [State.ownRecord, State.recordOfStation, hself, hmembers, if_pos hown]
    rfl
  have hvreports : v.port.reports =
      [{ kind := .member, subject := 0, grant := 0, detail := if p = s.ctl.proposed then 1 else 3 }] := by
    have hdetail : (s.founding p).memberReport true =
        { kind := .member, subject := 0, grant := 0, detail := if p = s.ctl.proposed then 1 else 3 } := by
      have hbank : (s.founding p).bankParams = p := rfl
      have hprop : (s.founding p).ctl.proposed = s.ctl.proposed := rfl
      rw [State.memberReport, hbank, hprop]
      by_cases h : p = s.ctl.proposed
      · rw [if_pos h, decide_eq_false (not_not.mpr h)]
        rfl
      · rw [if_neg h, decide_eq_true h]
        rfl
    have hfounding : (s.founding p).port.reports = [] := hreports
    rw [bport, hdetail, State.raise, hfounding, if_pos (by decide)]
    rfl
  have hfilter : (all16.filter fun q => decide (q ≠ v.self ∧ s.table.members[q].isJoining = true ∧
      v.table.members[q].isMember = true)) = all16.filter fun q => s.table.members[q].isJoining && decide (q ≠ s.self) := by
    refine List.filter_congr fun q _ => ?_
    rw [hself, hmembers]
    cases hj : s.table.members[q].isJoining <;> simp [MemberRecord.isMember]
  rw [State.reportJoined_eq s v hvown, hfilter] at hw
  have hlen : (all16.filter fun q => s.table.members[q].isJoining && decide (q ≠ s.self)).length ≤ 15 := by
    have hlt : (all16.filter fun q => s.table.members[q].isJoining && decide (q ≠ s.self)).length < all16.length :=
      List.length_filter_lt_length_iff_exists.mpr ⟨s.self, mem_all16 _, by simp⟩
    exact Nat.lt_succ_iff.mp hlt
  generalize (all16.filter fun q => s.table.members[q].isJoining && decide (q ≠ s.self)) = l at *
  rw [State.foldl_raise _ _ (by rw [hvreports]; exact Nat.le_add_left 1 15)] at hw
  have hfits : v.port.queueAll (l.map joinedReport) =
      { v.port with reports := v.port.reports ++ l.map joinedReport } := by
    refine HostPort.queueAll_of_fits ?_
    rw [hvreports, List.length_append, List.length_map, List.length_singleton]
    omega
  rw [hw, hfits]
  refine ⟨bctl, btable, btimer, bstack.trans hstack, bgate, bline, ?_⟩
  show v.port.reports ++ _ = _
  rw [hvreports]
  rfl

/-- A gate of an empty stack is closed by its condition. -/
theorem openLaw_of_empty {s : State} (hstack : s.stack = []) (hclosed : ∀ n : Fin 8, s.gate[n].opened = false) :
    OpenLaw s := fun n => by
  have hnone : s.recordOf (channelResource n) = none := by
    rw [State.recordOf, hstack]
    rfl
  rw [hclosed n, State.gateCondition_of_no_record hnone]

/-- Settles O54: at a joiner without a MEMBER in its view the bank is founded; where a record is MEMBER nothing
happens. -/
theorem foundApplied : Obligations.FoundApplied := by
  refine ⟨fun s u p rest hr hst hin hp hnone hown hu hstack hclosed hreports => ?_, fun s u p rest happ hmember => ?_⟩
  · intro joined
    have hl : s.listening = true := by rw [State.listening, hst]; rfl
    rw [exec_applyFound hr hl hin]
    generalize hs1 : s.takeNotice { sender := u, body := .found p } rest = v
    have hsame : v.ctl = s.ctl ∧ v.table = s.table ∧ v.timer = s.timer ∧ v.stack = s.stack ∧ v.gate = s.gate ∧
        v.port = s.port ∧ v.line = { s.line with inbound := rest } := by
      rw [← hs1]
      exact ⟨rfl, rfl, rfl, rfl, rfl, rfl, rfl⟩
    obtain ⟨hctl, htable, htimer, hvstack, hgate, hport, hline⟩ := hsame
    have hself : v.self = s.self := congrArg (·.number) hctl
    have hvst : v.ctl.station = .joining := by rw [hctl]; exact hst
    obtain ⟨ms, he, hms⟩ := evidence_founding (s := v) (u := u) (p := p) (by simpa only [hself, htable] using hown) hvst
      (by rw [htable]; exact hnone) (by rw [htable]; exact hu)
    simp only [htable] at hms he
    rw [he]
    have hjoined (q : Station) : ms[q].isJoining = joined q := (hms q).2
    have hown' : ms[v.self].isJoining = true := by simp only [(hms _).2, hself, hown, Bool.true_or]
    have hu' : ms[u].isJoining = true := by rw [(hms _).2, decide_eq_true rfl, Bool.or_true]
    obtain ⟨wctl, wtable, wtimer, wstack, wgate, wline, wreports⟩ := foundEffects_spec
      (s := v.withTable { s.table with members := ms }) (u := u) (p := p) hvst (fun q => (hms q).1)
      hown' hu' hp (hvstack.trans hstack) (fun n => by rw [← hclosed n, ← hgate]; rfl)
      ((congrArg (·.reports) hport).trans hreports)
    generalize (v.withTable { s.table with members := ms }).foundEffects u p = w at *
    have hwl : w.listening = true := by rw [State.listening, wctl]; rfl
    obtain ⟨fctl, fentries, fmembers, fbank, fip, fstack, fline, fcs, -, fjoin, ffound, -, fimage, -⟩ :=
      State.finish_frame v w
    have hwgate : w.gate = s.gate := wgate.trans hgate
    obtain ⟨fgate, fport⟩ := State.finish_of_lawful v w
      (openLaw_of_empty wstack fun n => by rw [hwgate]; exact hclosed n)
    have hmembers (q : Station) : w.table.members[q] = if joined q then .member none else .absent := by
      have hfounded := foundedMembers_getElem ms q
      rw [hjoined] at hfounded
      rw [wtable]
      refine hfounded.trans ?_
      cases hj : joined q with
      | true => rfl
      | false =>
        have hnotmember := (hms q).1
        have hnotjoining := hjoined q
        rw [hj] at hnotjoining
        cases hm : ms[q] with
        | absent => rfl
        | joining t => rw [hm] at hnotjoining; cases hnotjoining
        | member t => rw [hm] at hnotmember; cases hnotmember
    refine ⟨_, rfl, fctl.trans (wctl.trans ?_), fbank.trans (by rw [wtable]; rfl), fun r => ?_, fun q => ?_,
      fip.trans (by rw [wtable]), fcs.trans (by rw [wtimer]), fjoin.trans (by rw [wtimer]), ffound.trans (by rw [wtimer]),
      fimage.trans (by rw [wtimer]), fstack.trans wstack, fgate.trans hwgate, fun q hq hj => ?_,
      fline.trans (wline.trans hline), ?_⟩
    · show ({ v.ctl with station := .member } : Controller) = _
      rw [hctl]
    · rw [State.finish_entry, State.entry, wtable]
      exact Vector.getElem_replicate _
    · rw [fmembers]
      exact hmembers q
    · have hwself : w.self = s.self := (congrArg (·.number) wctl).trans hself
      rw [State.finish_silence hwl, hmembers, hj, if_pos rfl, hwself, decide_eq_false hq, wctl, hvst]
      have htime : w.timeParams = p := by
        rw [State.timeParams, wctl, if_neg (by nofun), State.bankParams, wtable]
        rfl
      rw [htime]
      rfl
    · have hdetail : (v.withTable { s.table with members := ms }).ctl.proposed = s.ctl.proposed :=
        congrArg (·.proposed) hctl
      have hwself : (v.withTable { s.table with members := ms }).self = s.self := hself
      rw [fport, wreports, all16_eq_finRange, hdetail, hwself]
      refine congrArg (List.cons _) (congrArg (List.map joinedReport) (List.filter_congr fun q _ => ?_))
      exact congrArg (· && _) (hjoined q)
  · obtain ⟨hr, hbank, hin⟩ := id happ
    rw [exec_applyFound hr (StationState.listening_of_inBank hbank) hin]
    have hnot : s.ctl.station ≠ .joining := fun h => by
      rw [h] at hbank
      cases hbank
    rw [State.evidence_inBank _ (s := s.takeNotice { sender := u, body := .found p } rest) hnot]
    have hframe := entryNoticeFrame_of_effect happ (.refl _)
    have heffects : (s.takeNotice { sender := u, body := .found p } rest).foundEffects u p =
        s.takeNotice { sender := u, body := .found p } rest := by
      have hany : (s.takeNotice { sender := u, body := .found p } rest).anyMember = true :=
        (State.anyMember_iff _).mpr hmember
      rw [State.foundEffects, hany]
      rfl
    rw [heffects]
    obtain ⟨-, fentries, -, -, -, fstack, -, fcs, -⟩ :=
      State.finish_frame (s.takeNotice { sender := u, body := .found p } rest)
        (s.takeNotice { sender := u, body := .found p } rest)
    exact ⟨_, rfl, hframe, fentries, fcs, fstack⟩

end Sys2Proof.Machine

/-! PROOFS. The purge of a station (R21), the transfer list (R69), and the application of JOIN and SYNC (R34 to R37, R59,
R61, R64, R73, R81, R87). -/

namespace Sys2Proof.Machine

open Sys2Proof.Safety

/-! ## The purge of a station (R21) -/

/-- The station neither holds nor waits in the entry. -/
def Entry.Without (e : Entry) (u : Station) : Prop :=
  (∀ h ∈ e.holders, h.station ≠ u) ∧ ∀ w ∈ e.waiters, w.station ≠ u

theorem Entry.Without.promote {e : Entry} {u : Station} (h : e.Without u) : e.promote.Without u := by
  obtain ⟨hholders, hwaiters⟩ := h
  refine ⟨fun x hx => ?_, fun w hw => hwaiters w (e.waiters_promote_sublist.subset hw)⟩
  obtain ⟨new, hnew⟩ := e.promoteOver_holders e.waiters
  rw [Entry.promote, ← hnew] at hx
  rcases List.mem_append.mp hx with hx | hx
  · exact hholders x hx
  · have hmem : x ∈ e.promote.holders.drop e.holders.length := by
      rw [Entry.promote, ← hnew, List.drop_left]
      exact hx
    obtain ⟨w, hw, heq⟩ := Entry.exists_waiter_of_promoted hmem
    rw [← heq]
    exact hwaiters w hw

theorem Entry.findHold_none {e : Entry} {u : Station} : e.findHold u = none ↔ ∀ h ∈ e.holders, h.station ≠ u := by
  simp [Entry.findHold]

theorem Entry.hasWaiter_false_iff {e : Entry} {u : Station} : e.hasWaiter u = false ↔ ∀ w ∈ e.waiters, w.station ≠ u := by
  simp [Entry.hasWaiter]

/-- A station's one hold leaves: it holds nothing more (R3). -/
theorem Entry.Sound.holders_removeHold {e : Entry} (hs : e.Sound) {u : Station} {h : Hold} (hh : e.findHold u = some h) :
    ∀ x ∈ (e.removeHold u h.grant).holders, x.station ≠ u := by
  have hmem : h ∈ e.holders := List.mem_of_find?_eq_some hh
  have hu : h.station = u := by simpa using List.find?_some hh
  intro x hx hxu
  obtain ⟨hx, hkeep⟩ := List.mem_filter.mp hx
  have heq : x = h := List.inj_on_of_nodup_map hs.holders_nodup hx hmem (hxu.trans hu.symm)
  subst heq
  simp [hxu] at hkeep

section
variable (s : State) (u : Station) (r : Resource)

/-- What the purge makes of the entry it looks at. -/
theorem purgeAt_without (hs : (s.entry r).Sound) (ht : s.takesEffects r = true) : ((s.purgeAt u r).entry r).Without u := by
  unfold State.purgeAt
  rw [ht, if_neg (by nofun)]
  split
  next hnone hwaiter => exact ⟨Entry.findHold_none.mp hnone, Entry.hasWaiter_false_iff.mp hwaiter⟩
  next h hsome hwaiter =>
    rw [promoteAt_entry, if_pos rfl, dropHold_entry, if_pos rfl]
    exact Entry.Without.promote ⟨hs.holders_removeHold hsome, Entry.hasWaiter_false_iff.mp hwaiter⟩
  next hnone hwaiter =>
    rw [promoteAt_entry, if_pos rfl, dropWaiter_entry, if_pos rfl]
    exact Entry.Without.promote ⟨Entry.findHold_none.mp hnone, fun w hw => by simpa using List.of_mem_filter hw⟩
  next h hsome hwaiter =>
    rw [promoteAt_entry, if_pos rfl, dropWaiter_entry, if_pos rfl, dropHold_entry, if_pos rfl]
    exact Entry.Without.promote ⟨hs.holders_removeHold hsome, fun w hw => by simpa using List.of_mem_filter hw⟩

theorem purgeAt_entry_other {r' : Resource} (hr : r' ≠ r) : (s.purgeAt u r).entry r' = s.entry r' := by
  unfold State.purgeAt
  split
  · rfl
  · split
    · rfl
    · rw [promoteAt_entry, if_neg hr, dropHold_entry, if_neg hr]
    · rw [promoteAt_entry, if_neg hr, dropWaiter_entry, if_neg hr]
    · rw [promoteAt_entry, if_neg hr, dropWaiter_entry, if_neg hr, dropHold_entry, if_neg hr]

theorem purgeAt_keeps_without {r' : Resource} (h : (s.entry r').Without u) : ((s.purgeAt u r).entry r').Without u := by
  by_cases hr : r' = r
  · subst hr
    have hsame : s.purgeAt u r' = s := by
      unfold State.purgeAt
      rw [Entry.findHold_none.mpr h.1, Entry.hasWaiter_false_iff.mpr h.2]
      exact ite_self s
    rwa [hsame]
  · rwa [purgeAt_entry_other s u r hr]

end

theorem takesEffects_congr {s t : State} (hctl : t.ctl = s.ctl) (hbank : t.table.bank = s.table.bank)
    (hip : t.table.imagePending = s.table.imagePending) (r : Resource) : t.takesEffects r = s.takesEffects r := by
  unfold State.takesEffects State.current State.count
  rw [hctl, hbank, hip]

/-- After the purge the station holds and waits in no entry that takes effects. -/
theorem purge_without {s : State} (u : Station) (hs : ∀ r, (s.entry r).Sound) {r : Resource} (ht : s.takesEffects r = true) :
    ((s.purge u).entry r).Without u := by
  have hkeeps (l : List Resource) (s : State) (h : (s.entry r).Without u) :
      ((l.foldl (fun s r => s.purgeAt u r) s).entry r).Without u := by
    induction l generalizing s with
    | nil => exact h
    | cons r' l ih => exact ih _ (purgeAt_keeps_without s u r' h)
  have hfold (l : List Resource) (s : State) (hs : (s.entry r).Sound) (ht : s.takesEffects r = true) (hr : r ∈ l) :
      ((l.foldl (fun s r => s.purgeAt u r) s).entry r).Without u := by
    induction l generalizing s with
    | nil => cases hr
    | cons r' l ih =>
      by_cases hrr : r = r'
      · subst hrr
        exact hkeeps l _ (purgeAt_without s u r hs ht)
      · have htakes : (s.purgeAt u r').takesEffects r = s.takesEffects r :=
          takesEffects_congr (by simp) (by simp) (by simp) r
        refine ih _ ?_ (htakes.trans ht) ((List.mem_cons.mp hr).resolve_left hrr)
        rw [purgeAt_entry_other s u r' hrr]
        exact hs
  exact hfold all16 s (hs r) ht (mem_all16 r)

theorem takesEffects_inBank {s : State} (hbank : s.ctl.station.inBank = true) {r : Resource} (hr : r.val < s.count) :
    s.takesEffects r = true := by
  have hcurrent : s.current r = true := by
    unfold State.current
    cases hst : s.ctl.station <;> simp_all [StationState.inBank]
  rw [State.takesEffects, hcurrent, decide_eq_true hr]
  rfl

/-! ## The transfer list (R69, R72) -/

theorem takeTransfer_not_source {s : State} {u : Station} {a : Fin 4} {q : Option Station}
    (h : q ≠ some s.self ∨ s.ctl.station ≠ .member) : s.takeTransfer u a q = s :=
  if_neg fun hh => h.elim (· hh.1) (· hh.2)

/-- This station owes the image of the station that it is the source of (R69). -/
theorem mem_takeTransfer {s : State} (u : Station) (a : Fin 4) (hst : s.ctl.station = .member) :
    { target := u, attempt := a, next := .membership } ∈ (s.takeTransfer u a (some s.self)).table.transfers := by
  unfold State.takeTransfer
  rw [if_pos ⟨rfl, hst⟩]
  dsimp only
  split
  next h =>
    obtain ⟨i, hi, hu⟩ := List.any_eq_true.mp h
    exact List.mem_map.mpr ⟨i, hi, if_pos (of_decide_eq_true hu)⟩
  next => exact List.mem_append_right _ (List.mem_singleton.mpr rfl)

/-- An owed image stands after the application where the target's record names this station at its attempt (R72). -/
theorem transfer_stands {s0 s : State} {u : Station} {a : Fin 4} (hl : s.listening = true)
    (hi : { target := u, attempt := a, next := .membership } ∈ s.table.transfers)
    (hm : s.table.members[u].transfer = some { attempt := a, source := some s.self }) :
    { target := u, attempt := a, next := .membership } ∈ (State.finish s0 s).table.transfers := by
  rw [State.finish_transfers hl]
  exact List.mem_filter.mpr ⟨hi, decide_eq_true hm⟩

/-! ## APPLY_JOIN (R35, R36, R61, R73) -/

theorem exec_applyJoin {s : State} {u : Station} {ab : Byte} {p : Params} {rest : List Notice}
    (hr : s.ctl.inReset = false) (hl : s.listening = true)
    (hin : s.line.inbound = { sender := u, body := .join ab p } :: rest) :
    exec .applyJoin s = .next (State.finish (s.takeNotice { sender := u, body := .join ab p } rest)
      (((s.takeNotice { sender := u, body := .join ab p } rest).evidence { sender := u, body := .join ab p }).joinEffects
        u ab p)) := by
  rw [exec_awake hr State.applyJoin rfl, State.applyJoin, hin]
  exact congrArg _ (State.applyNotice_listening _ rest _ hl)

theorem attemptOf_of {b : Byte} {a : Fin 4} (h : a.val = b.toNat) (ha : a.val ≤ 2) : attemptOf b = some a := by
  have hb : b = BitVec.ofNat 8 a.val := by
    apply BitVec.eq_of_toNat_eq
    rw [← h, BitVec.toNat_ofNat]
    omega
  have hall : ∀ a : Fin 4, a.val ≤ 2 → attemptOf (BitVec.ofNat 8 a.val) = some a := by decide
  rw [hb]
  exact hall a ha

theorem attemptOf_none {b : Byte} (h : 2 < b.toNat) : attemptOf b = none := by
  unfold attemptOf
  rw [if_neg (by rintro rfl; simp at h), if_neg (by rintro rfl; simp at h), if_neg (by rintro rfl; simp at h)]

/-- A rejoin takes its sender out of every entry, with PEER_GONE (R36). -/
def State.rejoined (s : State) (u : Station) : State :=
  if (s.recordOfStation u).isMember then (s.reportPeer .peerGone u 2).purge u else s

theorem State.rejoined_frame (s : State) (u : Station) : (s.rejoined u).ctl = s.ctl ∧
    (s.rejoined u).table.members = s.table.members ∧ (s.rejoined u).table.bank = s.table.bank ∧
    (s.rejoined u).table.imagePending = s.table.imagePending ∧ (s.rejoined u).timer.silence = s.timer.silence ∧
    (s.rejoined u).line = s.line := by
  unfold State.rejoined
  split <;> simp

theorem State.rejoined_of_not_member {s : State} {u : Station} (h : s.table.members[u].isMember = false) :
    s.rejoined u = s := if_neg (by rw [State.recordOfStation, h]; nofun)

theorem State.rejoined_of_member {s : State} {u : Station} (h : s.table.members[u].isMember = true) :
    s.rejoined u = (s.reportPeer .peerGone u 2).purge u := if_pos h

/-- A record that is overwritten, and every other. -/
theorem members_of_setMember {s t : State} {u : Station} {m : MemberRecord}
    (h : t.table.members = (s.setMember u m).table.members) (q : Station) :
    t.table.members[q] = if q = u then m else s.table.members[q] := by
  have hq := State.recordOfStation_setMember s u q m
  rw [State.recordOfStation, ← h] at hq
  exact hq

theorem joinEffects_refused {s : State} {u : Station} {ab : Byte} {p : Params} (h : 2 < ab.toNat ∨ p.inRange = false) :
    s.joinEffects u ab p = s := by
  unfold State.joinEffects
  rcases h with h | h
  · rw [attemptOf_none h]
  · rw [h]
    cases attemptOf ab <;> rfl

theorem joinEffects_other {s : State} {u : Station} {ab : Byte} {a : Fin 4} {p : Params} (ha : attemptOf ab = some a)
    (hp : p.inRange = true) (hu : u ≠ s.self) : s.joinEffects u ab p =
      ((s.rejoined u).setMember u (.joining (some { attempt := a, source := chooseSource s.table.members u a }))).takeTransfer
        u a (chooseSource s.table.members u a) := by
  have hmembers := (s.rejoined_frame u).2.1
  unfold State.joinEffects
  rw [ha, hp]
  dsimp only
  have hrejoined : (if (s.recordOfStation u).isMember = true then
      (if u = s.self then s else s.reportPeer .peerGone u 2).purge u else s) = s.rejoined u := by
    rw [if_neg hu]
    rfl
  rw [hrejoined, hmembers, if_neg hu]

/-- The first part of O53: the JOIN of another station, in the bank. -/
theorem join_of_peer_applied {s : State} {u : Station} {ab : Byte} {p : Params} {rest : List Notice}
    (happ : Applies s { sender := u, body := .join ab p } rest) (hu : u ≠ s.self) : ∃ t, exec .applyJoin s = .next t ∧
      t.ctl = s.ctl ∧ t.line = { s.line with inbound := rest } ∧
      (∀ q : Station, q ≠ u → t.table.members[q] = s.table.members[q]) ∧
      (2 < ab.toNat ∨ p.inRange = false →
        t.table.members[u] = s.table.members[u] ∧ t.table.entries = s.table.entries) ∧
      (∀ a : Fin 4, a.val = ab.toNat → a.val ≤ 2 → p.inRange = true →
        t.table.members[u] = .joining (some { attempt := a, source := chooseSource s.table.members u a }) ∧
        (chooseSource s.table.members u a = some s.self → s.ctl.station = .member →
          { target := u, attempt := a, next := .membership } ∈ t.table.transfers) ∧
        (s.table.members[u].isJoining = false → t.timer.silence[u] = .running s.bankParams.silenceLimitMs) ∧
        (s.table.members[u].isMember = false → t.table.entries = s.table.entries) ∧
        (s.table.members[u].isMember = true → TableLaw s →
          (∀ r : Resource, r.val < s.count → (∀ h ∈ (t.entry r).holders, h.station ≠ u) ∧
            ∀ w ∈ (t.entry r).waiters, w.station ≠ u) ∧
          (s.table.members[s.self].isMember = true →
            (s.raise { kind := .peerGone, subject := u, grant := 0, detail := 2 }).port.reports <+:
              t.port.reports))) := by
  obtain ⟨hr, hbank, hin⟩ := id happ
  have hnot : s.ctl.station ≠ .joining := fun h => by
    rw [h] at hbank
    cases hbank
  rw [exec_applyJoin hr (StationState.listening_of_inBank hbank) hin,
    State.evidence_inBank _ (s := s.takeNotice { sender := u, body := .join ab p } rest) hnot]
  generalize hs1 : s.takeNotice { sender := u, body := .join ab p } rest = v
  have hsame : v.ctl = s.ctl ∧ v.table = s.table ∧ v.port = s.port ∧ v.line = { s.line with inbound := rest } := by
    rw [← hs1]
    exact ⟨rfl, rfl, rfl, rfl⟩
  obtain ⟨hctl, htable, hport, hline⟩ := hsame
  have hself : v.self = s.self := congrArg (·.number) hctl
  have hu' : u ≠ v.self := by rw [hself]; exact hu
  by_cases hvalid : 2 < ab.toNat ∨ p.inRange = false
  · rw [joinEffects_refused hvalid]
    obtain ⟨fctl, fentries, fmembers, -, -, -, fline, -⟩ := State.finish_frame v v
    refine ⟨_, rfl, fctl.trans hctl, fline.trans hline, fun q _ => by rw [fmembers, htable], fun _ => ?_, fun a ha hle hp => ?_⟩
    · exact ⟨by rw [fmembers, htable], by rw [fentries, htable]⟩
    · exact absurd hvalid (by rw [hp, ← ha]; simp [hle])
  · obtain ⟨hle, hp⟩ := not_or.mp hvalid
    obtain ⟨a, ha⟩ : ∃ a : Fin 4, a.val = ab.toNat := ⟨⟨ab.toNat, by omega⟩, rfl⟩
    rw [joinEffects_other (attemptOf_of ha (by omega)) (by simpa using hp) hu', htable]
    obtain ⟨jctl, jmembers, jbank, jip, jsilence, jline⟩ := v.rejoined_frame u
    generalize hw : ((v.rejoined u).setMember u (.joining (some
      { attempt := a, source := chooseSource s.table.members u a }))).takeTransfer u a
        (chooseSource s.table.members u a) = w
    obtain ⟨tctl, tentries, tmembers, tbank, tip, ttimer, -, -, tline, tport, -⟩ :=
      ((v.rejoined u).setMember u (.joining (some
        { attempt := a, source := chooseSource s.table.members u a }))).takeTransfer_frame u a
          (chooseSource s.table.members u a)
    obtain ⟨mctl, mentries, mbank, -, mip, mtimer, -, -, -, mline, mport, -⟩ :=
      (v.rejoined u).setMember_frame u (.joining (some { attempt := a, source := chooseSource s.table.members u a }))
    have hmem := mem_takeTransfer (s := (v.rejoined u).setMember u (.joining (some
      { attempt := a, source := chooseSource s.table.members u a }))) u a
    rw [hw] at tctl tentries tmembers tbank tip ttimer tline tport
    have hwctl : w.ctl = s.ctl := by rw [tctl, mctl, jctl, hctl]
    have hwself : w.self = s.self := congrArg (·.number) hwctl
    have hwbank : w.table.bank = s.table.bank := by rw [tbank, mbank, jbank, htable]
    have hwtimer : w.timer = (v.rejoined u).timer := ttimer.trans mtimer
    have hwentries : w.table.entries = (v.rejoined u).table.entries := tentries.trans mentries
    have hwport : w.port = (v.rejoined u).port := tport.trans mport
    have hmembers (q : Station) : w.table.members[q] =
        if q = u then .joining (some { attempt := a, source := chooseSource s.table.members u a })
        else s.table.members[q] := by
      rw [members_of_setMember tmembers q, jmembers, htable]
    have hl : w.listening = true := by
      rw [State.listening, hwctl]
      exact StationState.listening_of_inBank hbank
    obtain ⟨fctl, fentries, fmembers, -, -, -, fline, -⟩ := State.finish_frame v w
    refine ⟨_, rfl, fctl.trans hwctl, fline.trans (by rw [tline, mline, jline, hline]),
      fun q hq => by rw [fmembers, hmembers, if_neg hq], fun h => absurd h hvalid, fun a' ha' hle' _ => ?_⟩
    obtain rfl : a' = a := Fin.ext (ha'.trans ha.symm)
    have hmu := (hmembers u).trans (if_pos rfl)
    refine ⟨by rw [fmembers, hmu], fun hsource hst => ?_, fun hnj => ?_, fun hnm => ?_, fun hm htl => ⟨fun r hr => ?_, fun hown => ?_⟩⟩
    · refine transfer_stands hl ?_ ?_
      · rw [← hw, hsource]
        have hmine := hmem (by rw [mctl, jctl, hctl]; exact hst)
        rw [State.self, mctl, jctl, hctl, hsource] at hmine
        exact hmine
      · rw [hmu, hwself, hsource]
        rfl
    · rw [State.finish_silence hl, hwctl, hmu, hbank, hwself, decide_eq_false hu, htable, hnj, hctl, hbank]
      have hparams : w.timeParams = s.bankParams := by
        refine (if_neg (by rw [hwctl]; exact hnot)).trans ?_
        show w.table.bank.getD w.ctl.proposed = _
        rw [hwbank, hwctl]
        rfl
      rw [hparams]
      simp [MemberRecord.isAbsent, MemberRecord.isJoining]
    · rw [fentries, hwentries, State.rejoined_of_not_member (by rw [htable]; exact hnm), htable]
    · rw [State.finish_entry, State.entry, hwentries, State.rejoined_of_member (by rw [htable]; exact hm)]
      have hsound (r : Resource) : ((v.reportPeer .peerGone u 2).entry r).Sound := by
        have := ((Entry.lawful_iff _).mp (htl.1 r)).1
        rw [State.entry, (v.reportPeer_frame _ _ _).2.1, htable]
        exact this
      refine purge_without u hsound (takesEffects_inBank ?_ ?_)
      · rw [(v.reportPeer_frame _ _ _).1, hctl, hbank]
      · rw [State.count, (v.reportPeer_frame _ _ _).2.1, htable]
        exact hr
    · refine List.IsPrefix.trans ?_ (State.reports_prefix_finish _ _)
      rw [hwport, State.rejoined_of_member (by rw [htable]; exact hm),
        reportPeer_member (by rw [State.ownRecord, State.recordOfStation, htable, State.self, hctl]; exact hown)]
      rw [← State.raise_port_congr (s := v) (t := s) hport]
      exact (State.purge_grows _ u).reports

/-! ## The station's own JOIN and SYNC (R61, R64, R73, R81) -/

/-- A station is never its own image source (R34). -/
theorem chooseSource_ne_self {members : Vector MemberRecord 16} {u : Station} {a : Fin 4} :
    chooseSource members u a ≠ some u := fun h => (chooseSource_mem h).1 rfl

theorem State.evidence_self {s : State} {n : Notice} (h : n.sender = s.self) : s.evidence n = s := by
  unfold State.evidence
  rw [decide_eq_true h, Bool.or_true]
  rfl

theorem ownJoinApplied_ctl (s : State) (a : Fin 4) (q : Option Station) : (s.ownJoinApplied a q).ctl = s.ctl := by
  unfold State.ownJoinApplied
  split
  · dsimp only
    split <;> rfl
  · rfl

theorem joinEffects_self {s : State} {ab : Byte} {a : Fin 4} {p : Params} (ha : attemptOf ab = some a)
    (hp : p.inRange = true) (hm : s.table.members[s.self].isMember = false) : s.joinEffects s.self ab p =
      (s.setMember s.self (.joining (some { attempt := a, source := chooseSource s.table.members s.self a }))).ownJoinApplied
        a (chooseSource s.table.members s.self a) := by
  have hmember : (s.recordOfStation s.self).isMember = false := hm
  unfold State.joinEffects
  rw [ha, hp]
  dsimp only
  rw [hmember, if_neg (by nofun : ¬ (false = true)), if_pos rfl, takeTransfer_not_source]
  have hctl (m : MemberRecord) (q : Option Station) : ((s.setMember s.self m).ownJoinApplied a q).ctl = s.ctl :=
    (ownJoinApplied_ctl _ a q).trans (s.setMember_frame s.self m).1
  exact .inl fun h => chooseSource_ne_self (h.trans (congrArg (fun c : Controller => some c.number) (hctl _ _)))

/-- What this station's own JOIN begins (R61, R73). -/
theorem ownJoinApplied_joining {s : State} (a : Fin 4) (q : Option Station) (hst : s.ctl.station = .joining) :
    (s.ownJoinApplied a q).ctl = s.ctl ∧ (s.ownJoinApplied a q).table.members = s.table.members ∧
      (s.ownJoinApplied a q).table.imagePending = some (ImagePending.fresh a) ∧
      (s.ownJoinApplied a q).timer.foundWait = .stopped ∧
      (q = none → (s.ownJoinApplied a q).timer.joinWait = .running s.ctl.proposed.joinWaitMs ∧
        (s.ownJoinApplied a q).timer.imageWait = .stopped) ∧
      (q ≠ none → (s.ownJoinApplied a q).timer.joinWait = .stopped ∧
        (s.ownJoinApplied a q).timer.imageWait = .running s.ctl.proposed.imageWaitMs) := by
  unfold State.ownJoinApplied
  rw [if_pos hst]
  have hparams : (s.withTable { s.table with imagePending := some (ImagePending.fresh a) }).timeParams = s.ctl.proposed :=
    if_pos hst
  cases q with
  | none => exact ⟨rfl, rfl, rfl, rfl, fun _ => ⟨congrArg (fun p => Timer.running (Params.joinWaitMs p)) hparams, rfl⟩, fun h => absurd rfl h⟩
  | some q => exact ⟨rfl, rfl, rfl, rfl, nofun, fun _ => ⟨rfl, congrArg (fun p => Timer.running (Params.imageWaitMs p)) hparams⟩⟩

/-- The second part of O53: the station's own JOIN. -/
theorem own_join_applied {s : State} {a : Fin 4} {ab : Byte} {p : Params} {rest : List Notice}
    (hr : s.ctl.inReset = false) (hst : s.ctl.station = .joining)
    (hin : s.line.inbound = { sender := s.self, body := .join ab p } :: rest) (ha : a.val = ab.toNat) (hle : a.val ≤ 2)
    (hp : p.inRange = true) (hm : s.table.members[s.self].isMember = false) :
    ∃ t, exec .applyJoin s = .next t ∧ t.ctl = s.ctl ∧
      t.table.members[s.self] = .joining (some { attempt := a, source := chooseSource s.table.members s.self a }) ∧
      t.table.imagePending = some (ImagePending.fresh a) ∧ t.timer.foundWait = .stopped ∧
      (chooseSource s.table.members s.self a = none →
        t.timer.joinWait = .running s.ctl.proposed.joinWaitMs ∧ t.timer.imageWait = .stopped) ∧
      (chooseSource s.table.members s.self a ≠ none →
        t.timer.joinWait = .stopped ∧ t.timer.imageWait = .running s.ctl.proposed.imageWaitMs) := by
  have hl : s.listening = true := by rw [State.listening, hst]; rfl
  rw [exec_applyJoin hr hl hin, State.evidence_self rfl]
  generalize hs1 : s.takeNotice { sender := s.self, body := .join ab p } rest = v
  obtain ⟨hctl, htable⟩ : v.ctl = s.ctl ∧ v.table = s.table := by
    rw [← hs1]
    exact ⟨rfl, rfl⟩
  have hself : s.self = v.self := congrArg (·.number) hctl.symm
  simp only [← htable, hself] at hm ⊢
  rw [joinEffects_self (attemptOf_of ha hle) hp hm]
  generalize hq : chooseSource v.table.members v.self a = q
  generalize hw : v.setMember v.self (.joining (some { attempt := a, source := q })) = w
  have hwctl : w.ctl = s.ctl := by rw [← hw, (v.setMember_frame _ _).1, hctl]
  obtain ⟨octl, omembers, oip, ofound, onone, osome⟩ := ownJoinApplied_joining (s := w) a q (by rw [hwctl, hst])
  rw [hwctl] at octl onone osome
  obtain ⟨fctl, -, fmembers, -, fip, -, -, -, -, fjoin, ffound, -, fimage, -⟩ := State.finish_frame v (w.ownJoinApplied a q)
  refine ⟨_, rfl, fctl.trans octl, ?_, fip.trans oip, ffound.trans ofound, fun h => ⟨fjoin.trans (onone h).1, fimage.trans (onone h).2⟩,
    fun h => ⟨fjoin.trans (osome h).1, fimage.trans (osome h).2⟩⟩
  rw [members_of_setMember (fmembers.trans (omembers.trans (congrArg (·.table.members) hw.symm))), if_pos rfl]

/-! ## APPLY_SYNC (R37, R64, R81, R87) -/

theorem exec_applySync {s : State} {u : Station} {ab : Byte} {rest : List Notice}
    (hr : s.ctl.inReset = false) (hbank : s.ctl.station.inBank = true)
    (hin : s.line.inbound = { sender := u, body := .sync ab } :: rest) :
    exec .applySync s = .next (State.finish (s.takeNotice { sender := u, body := .sync ab } rest)
      ((s.takeNotice { sender := u, body := .sync ab } rest).syncEffects u ab)) := by
  rw [exec_awake hr State.applySync rfl, State.applySync, hin]
  refine congrArg _ ((State.applyNotice_listening _ rest _ (StationState.listening_of_inBank hbank)).trans ?_)
  rw [State.evidence_inBank]
  rw [(s.takeNotice_frame _ rest).1]
  intro h
  rw [h] at hbank
  cases hbank

theorem syncEffects_refused {s : State} {u : Station} {ab : Byte}
    (h : 2 < ab.toNat ∨ s.table.members[u].isMember = false) : s.syncEffects u ab = s := by
  unfold State.syncEffects
  rcases h with h | h
  · rw [attemptOf_none h]
  · rw [State.recordOfStation, h]
    cases attemptOf ab <;> rfl

/-- The record that a SYNC leaves (R37). -/
def syncRecord (a : Fin 4) (source : Option Station) : MemberRecord :=
  .member (if source.isSome then some { attempt := a, source := source } else none)

theorem syncEffects_other {s : State} {u : Station} {ab : Byte} {a : Fin 4} (ha : attemptOf ab = some a)
    (hm : s.table.members[u].isMember = true) (hu : u ≠ s.self) : s.syncEffects u ab =
      (s.setMember u (syncRecord a (chooseSource s.table.members u a))).takeTransfer u a
        (chooseSource s.table.members u a) := by
  have hmember : (s.recordOfStation u).isMember = true := hm
  unfold State.syncEffects
  rw [ha]
  dsimp only
  rw [hmember, if_pos rfl, if_neg hu]
  rfl

theorem ownSyncApplied_resync {s : State} (a : Fin 4) (q : Station) (hst : s.ctl.station = .resync) :
    s.ownSyncApplied a (some q) =
      (s.withTable { s.table with imagePending := some (ImagePending.fresh a) }).startImageWait :=
  (if_pos hst).trans (if_pos rfl)

theorem ownSyncApplied_none {s : State} (a : Fin 4) (hst : s.ctl.station = .resync) :
    s.ownSyncApplied a none = s.reconcile := if_pos hst

theorem ownSyncApplied_number (s : State) (a : Fin 4) (q : Option Station) :
    (s.ownSyncApplied a q).ctl.number = s.ctl.number := by
  unfold State.ownSyncApplied
  split
  · split
    · rfl
    · rcases reconcile_cases s with h | ⟨h, -⟩
      · rw [h, exhaust_ctl, (settleAll_frame s).1]
      · rw [h]
  · rfl

theorem syncEffects_self {s : State} {ab : Byte} {a : Fin 4} (ha : attemptOf ab = some a)
    (hm : s.table.members[s.self].isMember = true) : s.syncEffects s.self ab =
      ((s.setMember s.self (syncRecord a (chooseSource s.table.members s.self a))).ownSyncApplied
        a (chooseSource s.table.members s.self a)) := by
  have hmember : (s.recordOfStation s.self).isMember = true := hm
  unfold State.syncEffects
  rw [ha]
  dsimp only
  rw [hmember, if_pos rfl, if_pos rfl, takeTransfer_not_source]
  · rfl
  · have hnumber (m : MemberRecord) (q : Option Station) :
        ((s.setMember s.self m).ownSyncApplied a q).ctl.number = s.ctl.number :=
      (ownSyncApplied_number _ a q).trans (congrArg (·.number) (s.setMember_frame s.self m).1)
    exact .inl fun h => chooseSource_ne_self (h.trans (congrArg some (hnumber _ _)))

/-- A station without records, holds or waiters has nothing to reconcile: it is MEMBER at once (R86, R87). -/
theorem reconcile_of_clear {s : State} (hstack : s.stack = []) (hclear : ∀ r, (s.entry r).Without s.self) :
    s.reconcile = ((((s.withCtl { s.ctl with station := .member, exhausted := false }).stopWaits).withTable
      { s.table with imagePending := none }).raise
        { kind := .resyncDone, subject := 0, grant := 0, detail := 0 }).evalGates 3 := by
  have hmatched : s.unmatched = false := by
    unfold State.unmatched
    rw [List.any_eq_false]
    intro r _
    obtain ⟨hholders, hwaiters⟩ := hclear r
    rw [Entry.hasWaiter_false_iff.mpr hwaiters, Bool.false_and, Bool.or_false]
    have hnone : (s.entry r).holders.any (fun h => decide (h.station = s.self) && !s.recordHolds r h.grant) = false := by
      rw [List.any_eq_false]
      intro h hh
      simp [hholders h hh]
    rw [hnone]
    nofun
  unfold State.reconcile
  rw [hstack]
  exact if_neg (by rw [List.foldl_nil, hmatched]; nofun)

/-- Frames that leave the queue before the effects end are frames that leave it (R125). -/
theorem QueueMoves.of_filter {before after : List QFrame} (keep : QFrame → Bool)
    (hline : ∀ f ∈ before, f.phase ≠ .queued → keep f = true) (h : QueueMoves (before.filter keep) after) :
    QueueMoves before after := by
  obtain ⟨kept, added, heq, hsub, hstay, hnew⟩ := h
  exact ⟨kept, added, heq, hsub.trans List.filter_sublist,
    fun f hf hphase => hstay f (List.mem_filter.mpr ⟨hf, hline f hf hphase⟩) hphase, hnew⟩

/-- The frames that a new transfer leaves in the queue: an old part for the target goes (R69). -/
theorem takeTransfer_sendq (s : State) (u : Station) (a : Fin 4) (q : Option Station) :
    (s.takeTransfer u a q).sendq.awaiting = s.sendq.awaiting ∧
      ∃ keep : QFrame → Bool, (∀ f, f.phase ≠ .queued → keep f = true) ∧
        (s.takeTransfer u a q).sendq.frames = s.sendq.frames.filter keep := by
  have hall : ∃ keep : QFrame → Bool, (∀ f, f.phase ≠ .queued → keep f = true) ∧
      s.sendq.frames = s.sendq.frames.filter keep :=
    ⟨fun _ => true, fun _ _ => rfl, by simp⟩
  unfold State.takeTransfer
  split
  · dsimp only
    split
    · refine ⟨rfl, fun f => !(f.isQueued && _), fun f hf => ?_, rfl⟩
      have hqueued : f.isQueued = false := by
        cases hphase : f.phase <;> simp_all [QFrame.isQueued]
      dsimp only
      rw [hqueued]
      rfl
    · exact ⟨rfl, hall⟩
  · exact ⟨rfl, hall⟩

/-- Beside the sender's record and the transfers, a SYNC is applied as a notice about an entry is. -/
theorem entryNoticeFrame_of_syncEffects {s : State} {u : Station} {ab : Byte} {rest : List Notice}
    (happ : Applies s { sender := u, body := .sync ab } rest) (a : Fin 4) (q : Option Station)
    (hm : s.table.members[u].isMember = true) : EntryNoticeFrame s
      (let v := s.takeNotice { sender := u, body := .sync ab } rest
       let t := State.finish v ((v.setMember u (syncRecord a q)).takeTransfer u a q)
       { t with table := { t.table with members := s.table.members, transfers := standing s } }) := by
  obtain ⟨-, hbank, hin⟩ := id happ
  dsimp only
  generalize hw : ((s.takeNotice { sender := u, body := .sync ab } rest).setMember u (syncRecord a q)).takeTransfer u a q = w
  obtain ⟨tctl, tentries, tmembers, tbank, tip, ttimer, tstack, tgate, tline, tport, tpending⟩ :=
    ((s.takeNotice { sender := u, body := .sync ab } rest).setMember u (syncRecord a q)).takeTransfer_frame u a q
  obtain ⟨hawaiting, keep, hkeep, hframes⟩ :=
    takeTransfer_sendq ((s.takeNotice { sender := u, body := .sync ab } rest).setMember u (syncRecord a q)) u a q
  rw [hw] at tctl tentries tmembers tbank tip ttimer tstack tgate tline tport tpending hawaiting hframes
  simp only [State.setMember_frame, State.takeNotice_frame] at tctl tbank tip ttimer tgate tline tport tpending hawaiting
  have hl : w.listening = true := by
    rw [State.listening, tctl]
    exact StationState.listening_of_inBank hbank
  have hmembers (p : Station) : w.table.members[p] = if p = u then syncRecord a q else s.table.members[p] :=
    members_of_setMember tmembers p
  have hmember : s.table.members[u].isJoining = false ∧ (syncRecord a q).isMember = true ∧
      (syncRecord a q).isJoining = false ∧ (syncRecord a q).isAbsent = false := by
    refine ⟨?_, rfl, rfl, rfl⟩
    cases hmu : s.table.members[u] <;> simp_all [MemberRecord.isMember, MemberRecord.isJoining]
  refine ⟨?_, rfl, ?_, ?_, rfl, ?_, ?_, ?_, ?_, ?_, ?_, fun p hp habs => ?_, fun n' rest' hn => ?_, ?_, ?_, ?_, ?_, ?_, ?_,
    fun m => ?_, ?_⟩
  · simp [tctl]
  · simp [tbank]
  · simp [tip]
  · simp [tline, hin]
  · simp [ttimer]
  · simp [ttimer]
  · simp [ttimer]
  · simp [ttimer]
  · simp [ttimer]
  · have habs' : w.table.members[p].isAbsent = false := by
      rw [hmembers]
      split
      · exact hmember.2.2.2
      · exact Bool.eq_false_iff.mpr (mt (MemberRecord.isAbsent_iff _).mp habs)
    have hsame : w.table.members[p].isMember = s.table.members[p].isMember ∧
        w.table.members[p].isJoining = s.table.members[p].isJoining := by
      rw [hmembers]
      split
      next h => rw [h, hm, hmember.1]; exact ⟨rfl, rfl⟩
      next => exact ⟨rfl, rfl⟩
    have hp' : p ≠ s.ctl.number := hp
    show (State.finish _ w).timer.silence[p] = _
    rw [State.finish_silence hl, habs', hsame.1, hsame.2, ttimer, State.self, tctl, hbank, (s.takeNotice_frame _ rest).1, hbank,
      (s.takeNotice_frame _ rest).2.1, decide_eq_false hp']
    simp
  · rw [hin] at hn
    cases hn
    obtain ⟨asked, hasked, -⟩ := State.askAfter_addsFrames (s.takeNotice { sender := u, body := .sync ab } rest)
      (State.tested (s.takeNotice { sender := u, body := .sync ab } rest) w)
    show (State.finish _ w).sendq.awaiting = _
    rw [State.finish_sendq hl, hasked]
    dsimp only
    rw [(State.tested_frame _ w).2.2.2.2.2.2.2.1, hawaiting]
    rfl
  · refine QueueMoves.of_filter keep (fun f _ => hkeep f) ?_
    have hmoves := QueueMoves.of_finish (s0 := s.takeNotice { sender := u, body := .sync ab } rest) hl (.refl w)
    rw [hframes] at hmoves
    simpa using hmoves
  · refine List.IsPrefix.trans ?_ (State.reports_prefix_finish _ _)
    rw [tport]
  · simp [tport]
  · simp [tport]
  · simp [tport]
  · simp [tport]
  · simp [tgate]
  · simp [tpending]

/-- The third part of O53: the SYNC of another station. -/
theorem sync_of_peer_applied {s : State} {u : Station} {ab : Byte} {rest : List Notice}
    (happ : Applies s { sender := u, body := .sync ab } rest) (hu : u ≠ s.self) : ∃ t, exec .applySync s = .next t ∧
      EntryNoticeFrame s { t with table := { t.table with members := s.table.members, transfers := standing s } } ∧
      t.table.entries = s.table.entries ∧ t.stack = s.stack ∧
      (∀ q : Station, q ≠ u → t.table.members[q] = s.table.members[q]) ∧
      (2 < ab.toNat ∨ s.table.members[u].isMember = false → t.table.members[u] = s.table.members[u]) ∧
      (∀ a : Fin 4, a.val = ab.toNat → a.val ≤ 2 → s.table.members[u].isMember = true →
        (chooseSource s.table.members u a = none → t.table.members[u] = .member none) ∧
        (∀ q, chooseSource s.table.members u a = some q →
          t.table.members[u] = .member (some { attempt := a, source := some q }) ∧
          (q = s.self → s.ctl.station = .member →
            { target := u, attempt := a, next := .membership } ∈ t.table.transfers))) := by
  obtain ⟨hr, hbank, hin⟩ := id happ
  rw [exec_applySync hr hbank hin]
  by_cases hvalid : 2 < ab.toNat ∨ s.table.members[u].isMember = false
  · rw [syncEffects_refused (s := s.takeNotice { sender := u, body := .sync ab } rest) hvalid]
    have hframe := entryNoticeFrame_of_effect happ (.refl _)
    generalize hv : s.takeNotice { sender := u, body := .sync ab } rest = v at hframe ⊢
    obtain ⟨htable, hstack⟩ : v.table = s.table ∧ v.stack = s.stack := by
      rw [← hv]
      exact ⟨rfl, rfl⟩
    obtain ⟨-, fentries, fmembers, -, -, fstack, -⟩ := State.finish_frame v v
    refine ⟨_, rfl, ?_, fentries.trans (by rw [htable]), fstack.trans hstack,
      fun q _ => by rw [fmembers, htable], fun _ => by rw [fmembers, htable], fun a ha hle hm => ?_⟩
    · have hsame : { State.finish v v with table := { (State.finish v v).table with
          members := s.table.members, transfers := standing s } } = State.finish v v := by
        rw [← hframe.2.1, ← hframe.2.2.2.2.1]
      rw [hsame]
      exact hframe
    · exact absurd hvalid (by rw [hm, ← ha]; simp [hle])
  · obtain ⟨hle, hm⟩ := not_or.mp hvalid
    obtain ⟨a, ha⟩ : ∃ a : Fin 4, a.val = ab.toNat := ⟨⟨ab.toNat, by omega⟩, rfl⟩
    have hmember : s.table.members[u].isMember = true := by simpa using hm
    rw [syncEffects_other (s := s.takeNotice { sender := u, body := .sync ab } rest) (attemptOf_of ha (by omega)) hmember hu]
    have hframe := entryNoticeFrame_of_syncEffects happ a (chooseSource s.table.members u a) hmember
    simp only [State.takeNotice_frame]
    dsimp only at hframe
    generalize hv : s.takeNotice { sender := u, body := .sync ab } rest = v at hframe ⊢
    obtain ⟨hctl, htable, hstack⟩ : v.ctl = s.ctl ∧ v.table = s.table ∧ v.stack = s.stack := by
      rw [← hv]
      exact ⟨rfl, rfl, rfl⟩
    generalize hq : chooseSource s.table.members u a = source at hframe ⊢
    obtain ⟨tctl, tentries, tmembers, -, -, -, tstack, -⟩ := (v.setMember u (syncRecord a source)).takeTransfer_frame u a source
    obtain ⟨mctl, mentries, -, -, -, -, -, mstack, -⟩ := v.setMember_frame u (syncRecord a source)
    have hmem := mem_takeTransfer (s := v.setMember u (syncRecord a source)) u a
    rw [State.self, mctl, hctl] at hmem
    generalize hw : (v.setMember u (syncRecord a source)).takeTransfer u a source = w at *
    obtain ⟨-, fentries, fmembers, -, -, fstack, -⟩ := State.finish_frame v w
    have hwctl : w.ctl = s.ctl := tctl.trans (mctl.trans hctl)
    have hmembers (p : Station) : w.table.members[p] = if p = u then syncRecord a source else s.table.members[p] := by
      rw [members_of_setMember tmembers p, htable]
    have hmu := (hmembers u).trans (if_pos rfl)
    refine ⟨_, rfl, hframe, fentries.trans (tentries.trans (mentries.trans (by rw [htable]))),
      fstack.trans (tstack.trans (mstack.trans hstack)), fun p hp => by rw [fmembers, hmembers, if_neg hp],
      fun h => absurd h hvalid, fun a' ha' _ _ => ?_⟩
    obtain rfl : a' = a := Fin.ext (ha'.trans ha.symm)
    rw [hq, fmembers, hmu]
    refine ⟨fun h => by rw [h]; rfl, fun q h => ⟨by rw [h]; rfl, fun hself hst => ?_⟩⟩
    refine transfer_stands (by rw [State.listening, hwctl]; exact StationState.listening_of_inBank hbank) ?_ ?_
    · have hmine := hmem hst
      rw [h, hself] at hmine
      rw [← hw, h, hself]
      exact hmine
    · rw [hmu, h, hself, State.self, State.self, hwctl]
      rfl

/-- The fourth part of O53: the station's own SYNC in RESYNC. -/
theorem own_sync_applied {s : State} {a : Fin 4} {ab : Byte} {rest : List Notice} (hr : s.ctl.inReset = false)
    (hst : s.ctl.station = .resync) (hin : s.line.inbound = { sender := s.self, body := .sync ab } :: rest)
    (ha : a.val = ab.toNat) (hle : a.val ≤ 2) (hm : s.table.members[s.self].isMember = true) :
    ∃ t, exec .applySync s = .next t ∧
      (∀ q, chooseSource s.table.members s.self a = some q → t.ctl = s.ctl ∧
        t.table.members[s.self] = .member (some { attempt := a, source := some q }) ∧
        t.table.imagePending = some (ImagePending.fresh a) ∧
        t.timer.imageWait = .running s.bankParams.imageWaitMs) ∧
      (chooseSource s.table.members s.self a = none → s.stack = [] →
        (∀ r, (∀ h ∈ (s.entry r).holders, h.station ≠ s.self) ∧ ∀ w ∈ (s.entry r).waiters, w.station ≠ s.self) →
        t.ctl = { s.ctl with station := .member, exhausted := false } ∧ t.table.imagePending = none ∧
        t.timer.imageWait = .stopped ∧
        (s.raise { kind := .resyncDone, subject := 0, grant := 0, detail := 0 }).port.reports <+: t.port.reports) := by
  have hbank : s.ctl.station.inBank = true := by rw [hst]; rfl
  rw [exec_applySync hr hbank hin]
  have heffects := syncEffects_self (s := s.takeNotice { sender := s.self, body := .sync ab } rest) (attemptOf_of ha hle) hm
  refine ⟨_, rfl, ?_⟩
  have hshape : (s.takeNotice { sender := s.self, body := .sync ab } rest).syncEffects s.self ab =
    ((s.takeNotice { sender := s.self, body := .sync ab } rest).setMember s.self
      (syncRecord a (chooseSource s.table.members s.self a))).ownSyncApplied a (chooseSource s.table.members s.self a) :=
    heffects
  rw [hshape]
  generalize hv : s.takeNotice { sender := s.self, body := .sync ab } rest = v
  obtain ⟨hctl, htable, hstack, hport⟩ : v.ctl = s.ctl ∧ v.table = s.table ∧ v.stack = s.stack ∧ v.port = s.port := by
    rw [← hv]
    exact ⟨rfl, rfl, rfl, rfl⟩
  generalize hq : chooseSource s.table.members s.self a = source
  obtain ⟨mctl, mentries, mbank, -, -, -, -, mstack, -, -, mport, -⟩ := v.setMember_frame s.self (syncRecord a source)
  generalize hw : v.setMember s.self (syncRecord a source) = w at *
  have hwctl : w.ctl = s.ctl := mctl.trans hctl
  constructor
  · rintro q rfl
    rw [ownSyncApplied_resync a q (by rw [hwctl, hst])]
    generalize hx : (w.withTable { w.table with imagePending := some (ImagePending.fresh a) }).startImageWait = x
    obtain ⟨xctl, xmembers, xip, ximage⟩ : x.ctl = w.ctl ∧ x.table.members = w.table.members ∧
        x.table.imagePending = some (ImagePending.fresh a) ∧ x.timer.imageWait = .running w.timeParams.imageWaitMs := by
      rw [← hx]
      exact ⟨rfl, rfl, rfl, rfl⟩
    obtain ⟨fctl, -, fmembers, -, fip, -, -, -, -, -, -, -, fimage, -⟩ := State.finish_frame v x
    refine ⟨fctl.trans (xctl.trans hwctl), ?_, fip.trans xip, fimage.trans (ximage.trans ?_)⟩
    · rw [members_of_setMember (fmembers.trans (xmembers.trans (congrArg (·.table.members) hw.symm))), if_pos rfl]
      rfl
    · have hparams : w.timeParams = s.bankParams := by
        refine (if_neg (by rw [hwctl, hst]; nofun)).trans ?_
        show w.table.bank.getD w.ctl.proposed = _
        rw [mbank, htable, hwctl]
        rfl
      rw [hparams]
  · rintro rfl hempty hclear
    have hwentry (r : Resource) : w.entry r = s.entry r := by
      rw [State.entry, mentries, htable]
      rfl
    rw [ownSyncApplied_none a (by rw [hwctl, hst]), reconcile_of_clear (by rw [mstack, hstack, hempty]) fun r => by
      rw [hwentry, State.self, hwctl]
      exact hclear r]
    generalize hx : ((w.withCtl { w.ctl with station := .member, exhausted := false }).stopWaits).withTable
      { w.table with imagePending := none } = x
    obtain ⟨xctl, xip, ximage, xport⟩ : x.ctl = { w.ctl with station := .member, exhausted := false } ∧
        x.table.imagePending = none ∧ x.timer.imageWait = .stopped ∧ x.port = w.port := by
      rw [← hx]
      exact ⟨rfl, rfl, rfl, rfl⟩
    have hgrow := State.reports_prefix_evalGates (x.raise { kind := .resyncDone, subject := 0, grant := 0, detail := 0 }) 3
    have hctl' : ((x.raise { kind := .resyncDone, subject := 0, grant := 0, detail := 0 }).evalGates 3).ctl = x.ctl := by simp
    have htable' : ((x.raise { kind := .resyncDone, subject := 0, grant := 0, detail := 0 }).evalGates 3).table = x.table := by simp
    have htimer' : ((x.raise { kind := .resyncDone, subject := 0, grant := 0, detail := 0 }).evalGates 3).timer = x.timer := by simp
    generalize (x.raise { kind := .resyncDone, subject := 0, grant := 0, detail := 0 }).evalGates 3 = y at *
    obtain ⟨fctl, -, -, -, fip, -, -, -, -, -, -, -, fimage, -⟩ := State.finish_frame v y
    refine ⟨fctl.trans (hctl'.trans (xctl.trans (by rw [hwctl]))), fip.trans (by rw [htable', xip]),
      fimage.trans (by rw [htimer', ximage]), ?_⟩
    rw [State.raise_port_congr (s := s) (t := x) (by rw [xport, mport, hport])]
    exact hgrow.trans (State.reports_prefix_finish v y)

/-- Settles O53. -/
theorem joinAndSyncApplied : Obligations.JoinAndSyncApplied := by
  unfold Obligations.JoinAndSyncApplied
  exact ⟨fun _ _ _ _ _ => join_of_peer_applied, fun _ _ _ _ _ => own_join_applied,
    fun _ _ _ _ => sync_of_peer_applied, fun _ _ _ _ => own_sync_applied⟩

end Sys2Proof.Machine

/-! PROOFS. The departure of a peer and the teardown of this station, record by record: the application of LEAVE and EVICT
(R21, R44, R45, R108, R109, R114, R116, R202, R203). -/

namespace Sys2Proof.Machine

open Sys2Proof.Safety

/-! ## One record of a teardown (R108, R109) -/

/-- The CUT that closing the gate of a resource raises. -/
def State.cutOf (s : State) (r : Resource) (g : Grant) (d : BitVec 4) : List Report :=
  if ∃ m : Fin 8, channelResource m = r ∧ s.gate[m].goutLow = true then
    [{ kind := .cut, subject := r, grant := g, detail := d }] else []

/-- What a teardown leaves of a record. -/
def Record.kept (evicted : Bool) (k : Record) : Option Record :=
  match k.state with
  | .lapsed _ => some k
  | .held g _ => if evicted then some { k with state := .lapsed g } else none
  | .expired g => if evicted then some { k with state := .lapsed g } else none
  | _ => none

/-- The report of a hold that a teardown ends. -/
def holdEnded (evicted : Bool) (r : Resource) (g : Grant) : Report :=
  if evicted then { kind := .lapsed, subject := r, grant := g, detail := 3 }
  else { kind := .released, subject := r, grant := g, detail := 1 }

/-- What a teardown reports of a record. -/
def State.told (s : State) (evicted : Bool) (k : Record) : List Report :=
  match k.state with
  | .lapsed _ => []
  | .held g _ => holdEnded evicted k.resource g :: s.cutOf k.resource g (if evicted then 2 else Config.leaveCutDetail)
  | .expired g => [holdEnded evicted k.resource g]
  | .releasing g _ => [{ kind := .released, subject := k.resource, grant := g, detail := 1 }]
  | .sending => [{ kind := .withdrawn, subject := k.resource, grant := 0, detail := 1 }]
  | .waiting => [{ kind := .withdrawn, subject := k.resource, grant := 0, detail := 1 }]
  | .withdrawing _ => [{ kind := .withdrawn, subject := k.resource, grant := 0, detail := 1 }]

/-- One record of a teardown, at own EVICT or at own LEAVE. -/
def State.tearRecord (evicted : Bool) (s : State) (k : Record) : State :=
  if evicted then s.evictRecord k else s.leaveRecord k

/-- A step at one resource: the stack it leaves, what it reports, and the resource's channel closed. -/
structure Torn (t t' : State) (r : Resource) (stack : List Record) (reports : List Report) : Prop where
  stack : t'.stack = stack
  port : t'.port = (reports.foldl State.raise t).port
  other : ∀ m : Fin 8, channelResource m ≠ r → t'.gate[m] = t.gate[m]
  closed : ∀ m : Fin 8, channelResource m = r → t'.gate[m].opened = false

theorem cutOf_of_closed {s : State} {r : Resource} (h : ∀ m : Fin 8, channelResource m = r → s.gate[m].opened = false)
    (g : Grant) (d : BitVec 4) : s.cutOf r g d = [] :=
  if_neg fun ⟨m, hm, hlow⟩ => by
    rw [goutLow_of_closed (h m hm)] at hlow
    cases hlow

theorem cutOf_congr {s t : State} {r : Resource} (h : ∀ m : Fin 8, channelResource m = r → t.gate[m] = s.gate[m])
    (g : Grant) (d : BitVec 4) : t.cutOf r g d = s.cutOf r g d := by
  have hiff : (∃ m : Fin 8, channelResource m = r ∧ t.gate[m].goutLow = true) ↔
      ∃ m : Fin 8, channelResource m = r ∧ s.gate[m].goutLow = true :=
    exists_congr fun m => and_congr_right fun hm => by rw [h m hm]
  by_cases hlow : ∃ m : Fin 8, channelResource m = r ∧ s.gate[m].goutLow = true
  · exact (if_pos (hiff.mpr hlow)).trans (if_pos hlow).symm
  · exact (if_neg (mt hiff.mp hlow)).trans (if_neg hlow).symm

theorem told_congr {s t : State} {k : Record} (h : ∀ m : Fin 8, channelResource m = k.resource → t.gate[m] = s.gate[m])
    (evicted : Bool) : t.told evicted k = s.told evicted k := by
  unfold State.told
  split <;> simp only [cutOf_congr h]

/-- A record without an open gate that leaves with a report. -/
theorem torn_of_report {t u : State} {r : Resource} {x : Report} (hport : u.port = (t.raise x).port) (hgate : u.gate = t.gate)
    (hclosed : ∀ m : Fin 8, channelResource m = r → t.gate[m].opened = false) : Torn t u r u.stack [x] :=
  ⟨rfl, hport, fun _ _ => by rw [hgate], fun m hm => by rw [hgate]; exact hclosed m hm⟩

/-- A hold that ends with a report: its gate is evaluated, and closes (R114, R116). -/
theorem torn_of_evaluated {t u : State} {r : Resource} {x : Report} (hport : u.port = (t.raise x).port)
    (hgate : u.gate = t.gate) (hnot : NotHeld u r) (d : BitVec 4) (g : Grant) :
    Torn t (u.evalResource r d g) r u.stack (x :: t.cutOf r g d) := by
  refine ⟨by simp, ?_, fun m hm => by rw [State.evalResource_gate_other u hm, hgate], fun m hm => ?_⟩
  · rw [evalResource_port_of_notHeld hnot, State.cutOf, hgate, List.foldl_cons]
    split
    · exact State.raise_port_congr hport _
    · exact hport
  · subst hm
    exact (State.evalResource_closes hnot.gateCondition d g).1

section
variable {t : State} {below above : List Record} {k : Record} (honly : OnlyRecord t below k above)
include honly

theorem torn_popped (hclosed : ∀ m : Fin 8, channelResource m = k.resource → t.gate[m].opened = false) (kind : ReportKind)
    (g : Grant) (d : BitVec 4) : Torn t ((t.popRecord k.resource).report kind k.resource g d) k.resource (below ++ above)
      [{ kind := kind, subject := k.resource, grant := g, detail := d }] := by
  rw [← popAndReport_stack honly (g := g) kind d]
  exact torn_of_report (State.report_port_congr (by simp) ..) (by simp) hclosed

/-- A hold that ends at own LEAVE. -/
theorem torn_left (g : Grant) (d : BitVec 4) :
    Torn t (((t.popRecord k.resource).report .released k.resource g 1).evalResource k.resource d g) k.resource
      (below ++ above) ({ kind := .released, subject := k.resource, grant := g, detail := 1 } :: t.cutOf k.resource g d) := by
  rw [← popAndReport_stack honly (g := g) .released 1]
  refine torn_of_evaluated (State.report_port_congr (by simp) ..) (by simp) (fun k' hk' => ?_) d g
  rw [recordOf_popAndReport] at hk'
  cases hk'

/-- A hold that ends at own EVICT. -/
theorem torn_evicted (g : Grant) (d : BitVec 4) :
    Torn t (((t.setRecord k.resource (.lapsed g)).report .lapsed k.resource g 3).evalResource k.resource d g) k.resource
      (below ++ { k with state := .lapsed g } :: above)
      ({ kind := .lapsed, subject := k.resource, grant := g, detail := 3 } :: t.cutOf k.resource g d) := by
  have hset := onlyRecord_setAndReport (g := g) honly (.lapsed g) .lapsed 3
  rw [← hset.1]
  exact torn_of_evaluated (State.report_port_congr (by simp) ..) (by simp) (notHeld_of_only (k := { k with state := .lapsed g }) hset rfl) d g

/-- One record of a teardown, whatever its state. -/
theorem tearRecord_torn (evicted : Bool)
    (hclosed : k.isHeld = false → ∀ m : Fin 8, channelResource m = k.resource → t.gate[m].opened = false) :
    Torn t (t.tearRecord evicted k) k.resource (below ++ (k.kept evicted).toList ++ above) (t.told evicted k) := by
  unfold State.told Record.kept holdEnded
  cases hk : k.state with
  | lapsed g =>
    have hsame : t.tearRecord evicted k = t := by
      cases evicted
      · exact (if_neg nofun).trans (by rw [State.leaveRecord, hk])
      · exact (if_pos rfl).trans (by rw [State.evictRecord, hk])
    rw [hsame]
    exact ⟨by simpa using honly.1, rfl, fun _ _ => rfl, hclosed (by rw [Record.isHeld, hk])⟩
  | held g p =>
    cases evicted
    · have hleave : t.tearRecord false k = _ := (if_neg nofun).trans (by rw [State.leaveRecord, hk])
      rw [hleave]
      simpa using torn_left honly g Config.leaveCutDetail
    · have hevict : t.tearRecord true k = _ := (if_pos rfl).trans (by rw [State.evictRecord, hk])
      rw [hevict]
      simpa using torn_evicted honly g 2
  | expired g =>
    have hcut (d : BitVec 4) := cutOf_of_closed (hclosed (by rw [Record.isHeld, hk])) g d
    cases evicted
    · have hleave : t.tearRecord false k = _ := (if_neg nofun).trans (by rw [State.leaveRecord, hk])
      rw [hleave]
      simpa [hcut] using torn_left honly g Config.leaveCutDetail
    · have hevict : t.tearRecord true k = _ := (if_pos rfl).trans (by rw [State.evictRecord, hk])
      rw [hevict]
      simpa [hcut] using torn_evicted honly g 2
  | _ =>
    have hpop := torn_popped honly (hclosed (by rw [Record.isHeld, hk]))
    cases evicted
    · have hleave : t.tearRecord false k = _ := (if_neg nofun).trans (by rw [State.leaveRecord, hk])
      rw [hleave]
      simpa using hpop _ _ _
    · have hevict : t.tearRecord true k = _ := (if_pos rfl).trans (by rw [State.evictRecord, hk])
      rw [hevict]
      simpa using hpop _ _ _

end

/-! ## The visit of the stack from top to bottom (R108, R109) -/

/-- The records l stand at the bottom, not yet visited: their gates are as in s, and every other gate is closed. -/
structure Visiting (s : State) (l above : List Record) (t : State) : Prop where
  stack : t.stack = l ++ above
  left : ∀ m : Fin 8, (∃ k ∈ l, k.resource = channelResource m) → t.gate[m] = s.gate[m]
  closed : ∀ m : Fin 8, (∀ k ∈ l, k.resource ≠ channelResource m) → t.gate[m].opened = false

theorem kept_resource {evicted : Bool} {k x : Record} (h : k.kept evicted = some x) : x.resource = k.resource := by
  unfold Record.kept at h
  cases hk : k.state <;> cases evicted <;> simp_all <;> rw [← h]

/-- A channel whose record is not HELD is closed. -/
theorem closed_of_not_held {s : State} (ho : OpenLaw s) {below above : List Record} {k : Record} (honly : OnlyRecord s below k above)
    (hk : k.isHeld = false) (m : Fin 8) (hm : channelResource m = k.resource) : s.gate[m].opened = false := by
  rw [ho m]
  refine NotHeld.gateCondition ?_
  rw [hm]
  exact notHeld_of_only honly hk

theorem visits {s : State} (hs : StackLaw s) (ho : OpenLaw s) {evicted : Bool} (l rest above : List Record) (t : State) (hstack : s.stack = l ++ rest)
    (habove : ∀ x ∈ above, x.resource ∈ rest.map (·.resource)) (hv : Visiting s l above t) :
    (l.reverse.foldl (State.tearRecord evicted) t).stack = l.filterMap (Record.kept evicted) ++ above ∧
      (l.reverse.foldl (State.tearRecord evicted) t).port =
        ((l.reverse.flatMap (s.told evicted)).foldl State.raise t).port ∧
      ∀ m : Fin 8, (l.reverse.foldl (State.tearRecord evicted) t).gate[m].opened = false := by
  induction l using List.reverseRecOn generalizing rest above t with
  | nil => exact ⟨hv.stack, rfl, fun m => hv.closed m (by nofun)⟩
  | append_singleton l k ih =>
    have hsplit : s.stack = l ++ k :: rest := by rw [hstack, List.append_assoc]; rfl
    have hnodup := stackLaw_resource_nodup hs
    rw [hsplit, List.map_append, List.map_cons] at hnodup
    obtain ⟨hl, hr, hdisjoint⟩ := List.nodup_append.mp hnodup
    have hbelow : ∀ x ∈ l, x.resource ≠ k.resource := fun x hx =>
      hdisjoint _ (List.mem_map_of_mem hx) _ List.mem_cons_self
    have hrest : k.resource ∉ rest.map (·.resource) := (List.nodup_cons.mp hr).1
    have honly : OnlyRecord t l k above := by
      refine ⟨by rw [hv.stack, List.append_assoc]; rfl, fun x hx => ?_⟩
      rcases List.mem_append.mp hx with hx | hx
      · exact hbelow x hx
      · exact fun h => hrest (h ▸ habove x hx)
    have honly' : OnlyRecord s l k rest := by
      refine ⟨hsplit, fun x hx => ?_⟩
      rcases List.mem_append.mp hx with hx | hx
      · exact hbelow x hx
      · exact fun h => hrest (h ▸ List.mem_map_of_mem hx)
    have hgate (m : Fin 8) (hm : channelResource m = k.resource) : t.gate[m] = s.gate[m] :=
      hv.left m ⟨k, by simp, hm.symm⟩
    have htorn := tearRecord_torn honly evicted fun hk m hm => by
      rw [hgate m hm]
      exact closed_of_not_held ho honly' hk m hm
    rw [told_congr hgate] at htorn
    have hnext : Visiting s l ((k.kept evicted).toList ++ above) (t.tearRecord evicted k) := by
      refine ⟨by rw [htorn.stack, List.append_assoc], ?_, fun m hm => ?_⟩
      · rintro m ⟨x, hx, hres⟩
        rw [htorn.other m fun h => hbelow x hx (hres.trans h)]
        exact hv.left m ⟨x, by simp [hx], hres⟩
      · by_cases hmk : channelResource m = k.resource
        · exact htorn.closed m hmk
        · rw [htorn.other m hmk]
          refine hv.closed m fun x hx => ?_
          rcases List.mem_append.mp hx with hx | hx
          · exact hm x hx
          · rw [List.mem_singleton.mp hx]
            exact Ne.symm hmk
    have hresources : ∀ x ∈ (k.kept evicted).toList ++ above, x.resource ∈ (k :: rest).map (·.resource) := by
      intro x hx
      rcases List.mem_append.mp hx with hx | hx
      · rw [kept_resource (Option.mem_toList.mp hx)]
        exact List.mem_cons_self
      · exact List.mem_cons_of_mem _ (habove x hx)
    obtain ⟨istack, iport, iclosed⟩ := ih (k :: rest) _ _ hsplit hresources hnext
    rw [List.reverse_append, List.reverse_singleton, List.singleton_append, List.foldl_cons, List.flatMap_cons,
      List.foldl_append]
    refine ⟨?_, iport.trans (State.foldl_raise_port_congr htorn.port _), iclosed⟩
    rw [istack, List.filterMap_append, List.append_assoc]
    cases hkept : k.kept evicted <;> simp [hkept]

/-! ## The teardown (R49, R202, R203) -/

/-- The teardown at own EVICT, or at own LEAVE with its detail. -/
def State.teardown (s : State) (evicted : Bool) : State :=
  if evicted then s.teardownEvict else s.teardownLeave (if s.ctl.exhausted then 1 else 0)

/-- The last report of a teardown. -/
def State.lastReport (s : State) (evicted : Bool) : Report :=
  if evicted then { kind := .evicted, subject := 0, grant := 0, detail := 0 }
  else { kind := .left, subject := 0, grant := 0, detail := if s.ctl.exhausted then 1 else 0 }

theorem teardown_eq (s : State) (evicted : Bool) : s.teardown evicted =
    (((s.stack.reverse.foldl (State.tearRecord evicted) s.tornTables).clearToReady).evalGates
      (if evicted then 2 else Config.leaveCutDetail)).raise (s.lastReport evicted) := by
  have hleave : State.tearRecord false = State.leaveRecord := rfl
  have hevict : State.tearRecord true = State.evictRecord := rfl
  unfold State.teardown State.lastReport
  cases evicted
  · simp only [Bool.false_eq_true, if_false]
    rw [hleave]
    exact s.teardownLeave_eq _
  · simp only [if_true]
    rw [hevict]
    exact s.teardownEvict_eq

theorem teardown_tornDown (s : State) (evicted : Bool) : TornDown s (s.teardown evicted) := by
  unfold State.teardown
  split
  · exact teardownEvict_tornDown s
  · exact teardownLeave_tornDown s _

theorem tearRecord_visited (evicted : Bool) (s : State) (k : Record) : Visited s k (s.tearRecord evicted k) := by
  cases evicted
  · exact leaveRecord_visited s k
  · exact evictRecord_visited s k

theorem tearRecord_ginLow (evicted : Bool) (s : State) (k : Record) (m : Fin 8) :
    (s.tearRecord evicted k).gate[m].ginLow = s.gate[m].ginLow := by
  cases evicted
  · exact (s.leaveRecord_frame k).2.2.2.2.1 m m.isLt
  · exact (s.evictRecord_frame k).2.2.2.2.1 m m.isLt

/-- The stack, the gates and the reports after a teardown. -/
theorem teardown_spec {s : State} (hs : StackLaw s) (hg : GateLaw s) (evicted : Bool) :
    (s.teardown evicted).stack = s.stack.filterMap (Record.kept evicted) ∧
      (∀ m : Fin 8, (s.teardown evicted).gate[m] = { opened := false, armed := false, ginLow := s.gate[m].ginLow }) ∧
      (s.teardown evicted).port =
        ((s.stack.reverse.flatMap (s.told evicted) ++ [s.lastReport evicted]).foldl State.raise s).port := by
  obtain ⟨ho, ha⟩ := (gateLaw_iff s).mp hg
  have hv : Visiting s s.stack [] s.tornTables := by
    refine ⟨(List.append_nil _).symm, fun _ _ => rfl, fun m hm => ?_⟩
    rw [← Bool.not_eq_true, show s.tornTables.gate = s.gate from rfl, ho m, State.gateCondition_iff]
    rintro ⟨-, k, g, -, hk, -⟩
    obtain ⟨hmem, hres⟩ := State.mem_of_recordOf hk
    exact hm k hmem hres
  obtain ⟨vstack, vport, vclosed⟩ := visits hs ho (evicted := evicted) s.stack [] [] s.tornTables (List.append_nil _).symm
    (by nofun) hv
  have hinner := Inner.foldl (f := State.tearRecord evicted) s.stack.reverse s.tornTables fun s k => (tearRecord_visited evicted s k).1
  have hgin (m : Fin 8) : (s.stack.reverse.foldl (State.tearRecord evicted) s.tornTables).gate[m].ginLow = s.gate[m].ginLow :=
    foldl_keeps (R := fun s t => t.gate[m].ginLow = s.gate[m].ginLow) (fun _ => rfl) (fun h h' => h'.trans h)
      (fun s k => tearRecord_ginLow evicted s k m) _ _
  rw [teardown_eq]
  generalize s.stack.reverse.foldl (State.tearRecord evicted) s.tornTables = v at *
  have harmed : ArmedLaw v.clearToReady := hinner.armed ha
  have hready : v.clearToReady.ctl.station ≠ .member := by nofun
  obtain ⟨-, -, -, -, estack, -⟩ := v.clearToReady.evalGates_frame (if evicted then 2 else Config.leaveCutDetail)
  refine ⟨?_, fun m => ?_, ?_⟩
  · rw [(State.raise_frame _ _).2.2.2.2.1, estack]
    exact vstack.trans (List.append_nil _)
  · rw [(State.raise_frame _ _).2.2.2.2.2.1, State.evalGates_gate_closed hready harmed, ← hgin m]
    rfl
  · rw [List.foldl_append]
    refine State.raise_port_congr ?_ _
    rw [evalGates_port_of_high (s := v.clearToReady) fun m => goutLow_of_closed (vclosed m)]
    exact vport.trans (State.foldl_raise_port_congr (s := s.tornTables) (t := s) rfl _)

/-! ## APPLY_LEAVE and APPLY_EVICT (R21, R44, R45, R202, R203) -/

/-- A departure as applied: of this station a teardown, of a peer a purge with its report. -/
def State.departed (s : State) (u : Station) (evicted : Bool) : State :=
  if u = s.self then s.teardown evicted else s.departure u (if evicted then 1 else 0)

theorem leaveEffects_departed {s : State} {u : Station} (hu : s.table.members[u].isMember = true) :
    s.leaveEffects u = s.departed u false := by
  have hmember : (s.recordOfStation u).isMember = true := hu
  unfold State.leaveEffects State.departed State.teardown
  rw [hmember]
  simp only [Bool.not_true, Bool.false_eq_true, if_false]

theorem evictEffects_departed {s : State} {u v : Station} {ub : Byte} (hub : ub.toNat = u.val)
    (hv : s.table.members[v].isMember = true) (hu : s.table.members[u] ≠ .absent) :
    s.evictEffects v ub = s.departed u true := by
  have hmember : (s.recordOfStation v).isMember = true := hv
  have habsent : (s.recordOfStation u).isAbsent = false := Bool.eq_false_iff.mpr (mt (MemberRecord.isAbsent_iff _).mp hu)
  unfold State.evictEffects State.departed State.teardown
  rw [number16_of hub]
  dsimp only
  rw [hmember, habsent]
  simp only [Bool.not_true, Bool.or_self, Bool.false_eq_true, if_false, if_true]

theorem exec_departed {s : State} {c : Instr} {n : Notice} {rest : List Notice} {u : Station} {evicted : Bool}
    (happ : Applies s n rest)
    (h : (c = .applyLeave ∧ n = { sender := u, body := .leave } ∧ s.table.members[u].isMember = true ∧ evicted = false) ∨
      (∃ v ub, c = .applyEvict ∧ n = { sender := v, body := .evict ub } ∧ ub.toNat = u.val ∧
        s.table.members[v].isMember = true ∧ s.table.members[u] ≠ .absent ∧ evicted = true)) :
    exec c s = .next (State.finish (s.takeNotice n rest) ((s.takeNotice n rest).departed u evicted)) := by
  obtain ⟨hr, hbank, hin⟩ := happ
  rcases h with ⟨rfl, rfl, hu, rfl⟩ | ⟨v, ub, rfl, rfl, hub, hv, hu, rfl⟩
  · rw [exec_awake hr State.applyLeave rfl, State.applyLeave, hin, ← leaveEffects_departed (by exact hu)]
    exact congrArg _ (State.applyNotice_inBank _ rest _ hbank)
  · rw [exec_awake hr State.applyEvict rfl, State.applyEvict, hin, ← evictEffects_departed hub (by exact hv) (by exact hu)]
    exact congrArg _ (State.applyNotice_inBank _ rest _ hbank)

/-- The peer part of O55. -/
theorem departure_applied {s v : State} {rest : List Notice} {u : Station} (hbank : s.ctl.station.inBank = true)
    (hctl : v.ctl = s.ctl) (htable : v.table = s.table) (hport : v.port = s.port)
    (hline : v.line = { s.line with inbound := rest }) (htl : TableLaw s) (d : BitVec 4) :
    ∃ t, State.finish v (v.departure u d) = t ∧ t.ctl = s.ctl ∧ t.line = { s.line with inbound := rest } ∧
      t.table.members[u] = .absent ∧ (∀ q : Station, q ≠ u → t.table.members[q] = s.table.members[q]) ∧
      t.table.bank = s.table.bank ∧ t.timer.silence[u] = .stopped ∧
      (∀ r : Resource, r.val < s.count → (t.entry r).Without u) ∧
      (s.table.members[s.self].isMember = true →
        (s.raise { kind := .peerGone, subject := u, grant := 0, detail := d }).port.reports <+: t.port.reports) := by
  obtain ⟨pctl, pmembers, pbank, -, -, -, -, -, -, -, -, -, -, pline, -⟩ :=
    ((v.reportPeer .peerGone u d).setMember u .absent).purge_frame u
  obtain ⟨mctl, mentries, mbank, -, -, -, -, -, -, mline, mport, -⟩ := (v.reportPeer .peerGone u d).setMember_frame u .absent
  obtain ⟨rctl, rtable, -, -, -, -, rline, -⟩ := v.reportPeer_frame .peerGone u d
  have hgrows := State.purge_grows ((v.reportPeer .peerGone u d).setMember u .absent) u
  have hdeparture : v.departure u d = ((v.reportPeer .peerGone u d).setMember u .absent).purge u := by rw [State.departure]
  have hwithout : ∀ r : Resource, r.val < s.count → ((v.departure u d).entry r).Without u := fun r hr => by
    rw [hdeparture]
    refine purge_without u (fun r => ?_) (takesEffects_inBank ?_ ?_)
    · have hsound := ((Entry.lawful_iff _).mp (htl.1 r)).1
      rw [State.entry, mentries, rtable, htable]
      exact hsound
    · rw [mctl, rctl, hctl, hbank]
    · rw [State.count, mbank, rtable, htable]
      exact hr
  rw [← hdeparture] at pctl pmembers pbank pline hgrows
  generalize v.departure u d = w at *
  have hmembers (q : Station) : w.table.members[q] = if q = u then .absent else s.table.members[q] := by
    rw [members_of_setMember pmembers q, rtable, htable]
  have hmine (h : s.table.members[s.self].isMember = true) :
      (s.raise { kind := .peerGone, subject := u, grant := 0, detail := d }).port.reports <+:
        w.port.reports := by
    have hreport := hgrows.reports
    rw [mport, reportPeer_member (by rw [State.ownRecord, State.recordOfStation, htable, State.self, hctl]; exact h),
      State.raise_port_congr hport] at hreport
    exact hreport
  replace pctl : w.ctl = s.ctl := pctl.trans (mctl.trans (rctl.trans hctl))
  replace pline : w.line = { s.line with inbound := rest } := pline.trans (mline.trans (rline.trans hline))
  replace pbank : w.table.bank = s.table.bank := pbank.trans (mbank.trans (by rw [rtable, htable]))
  obtain ⟨fctl, -, fmembers, fbank, -, -, fline, -⟩ := State.finish_frame v w
  have hl : w.listening = true := by
    rw [State.listening, pctl]
    exact StationState.listening_of_inBank hbank
  refine ⟨_, rfl, fctl.trans pctl, fline.trans pline, by rw [fmembers, hmembers, if_pos rfl],
    fun q hq => by rw [fmembers, hmembers, if_neg hq], fbank.trans pbank, ?_, fun r hr => ?_,
    fun h => (hmine h).trans (State.reports_prefix_finish v w)⟩
  · rw [State.finish_silence hl, hmembers, if_pos rfl]
    simp [MemberRecord.isAbsent]
  · rw [State.finish_entry]
    exact hwithout r hr

/-- Settles O55: a peer is purged, this station is torn down. -/
theorem leaveAndEvictApplied : Obligations.LeaveAndEvictApplied := by
  intro s c n rest u evicted happ hnotice
  have hexec := exec_departed happ hnotice
  obtain ⟨-, hbank, -⟩ := id happ
  rw [hexec]
  generalize hv : s.takeNotice n rest = v
  have hblocks : v.ctl = s.ctl ∧ v.table = s.table ∧ v.timer = s.timer ∧ v.stack = s.stack ∧ v.gate = s.gate ∧
      v.port = s.port ∧ v.line = { s.line with inbound := rest } := by
    rw [← hv]
    exact ⟨rfl, rfl, rfl, rfl, rfl, rfl, rfl⟩
  obtain ⟨hctl, htable, htimer, hstack, hgate, hport, hline⟩ := hblocks
  have hself : v.self = s.self := congrArg (·.number) hctl
  refine ⟨fun hu htl => ?peer, fun hu hs hg => ?own⟩
  case peer =>
    have hdeparted : v.departed u evicted = v.departure u (if evicted then 1 else 0) := if_neg (by rw [hself]; exact hu)
    rw [hdeparted]
    obtain ⟨t, ht, hrest⟩ := departure_applied hbank hctl htable hport hline htl (if evicted then 1 else 0)
    exact ⟨t, congrArg _ ht, hrest⟩
  case own =>
    have hdeparted : v.departed u evicted = v.teardown evicted := if_pos (by rw [hself]; exact hu)
    obtain ⟨tctl, ttable, ttimer, tsendq, tline⟩ := teardown_tornDown v evicted
    have hsv : StackLaw v := by
      unfold StackLaw
      rw [hstack]
      exact hs
    obtain ⟨tstack, tgate, tport⟩ := teardown_spec hsv (gateLaw_of_same hg hctl hstack (by rw [htimer]) hgate) evicted
    have hquiet : (v.teardown evicted).listening = false := by
      rw [State.listening, tctl]
      rfl
    have htold : v.told evicted = s.told evicted := funext fun k => told_congr (fun m _ => by rw [hgate]) evicted
    rw [hdeparted, State.finish_quiet hquiet]
    refine ⟨_, rfl, tctl.trans (by rw [hctl]), ttable, ttimer, tsendq, by rw [tline]; rfl, fun m => by rw [tgate, hgate],
      ?_, ?_⟩
    · rw [tstack, hstack]
      rfl
    · intro cut told all hfits
      have hlast : v.lastReport evicted = s.lastReport evicted := by
        unfold State.lastReport
        rw [hctl]
      have hall : s.stack.reverse.flatMap (s.told evicted) ++ [s.lastReport evicted] = all := rfl
      rw [tport, hstack, htold, hlast, hall, State.foldl_raise_port_congr hport, State.foldl_raise _ _ (by omega),
        HostPort.queueAll_of_fits (by rw [List.length_append]; exact hfits)]
      rfl

end Sys2Proof.Machine

/-! PROOFS. The application of an IMAGE part: installing, spoiled attempts, completing, and the source's next part (R33,
R42, R43, R52, R64, R70, R74, R76, R79, R200, R204). -/

namespace Sys2Proof.Machine

open Sys2Proof.Safety

/-! ## The application -/

theorem exec_applyImage {s : State} {u v : Station} {a : Fin 4} {last : Bool} {c : PartContent} {rest : List Notice}
    (hr : s.ctl.inReset = false) (hl : s.listening = true)
    (hin : s.line.inbound = { sender := v, body := .image u a last c } :: rest) :
    exec .applyImage s = .next (State.finish (s.takeNotice { sender := v, body := .image u a last c } rest)
      (((s.takeNotice { sender := v, body := .image u a last c } rest).evidence
        { sender := v, body := .image u a last c }).imageEffects v u a last c)) := by
  rw [exec_awake hr State.applyImage rfl, State.applyImage, hin]
  exact congrArg _ (State.applyNotice_listening _ rest _ hl)

/-- A view that holds bank parameters takes no evidence (R41). -/
theorem State.evidence_of_bank {s : State} (n : Notice) (h : s.table.bank ≠ none) : s.evidence n = s := by
  have hprovisional : s.provisional = false := by
    cases hb : s.table.bank with
    | none => exact absurd hb h
    | some p => rw [State.provisional, hb]; exact Bool.and_false _
  unfold State.evidence
  rw [hprovisional]
  rfl

/-- A MEMBER's notice shows nothing new of its sender (R41). -/
theorem State.evidence_of_member {s : State} {n : Notice} (h : s.table.members[n.sender].isMember = true) :
    s.evidence n = s := by
  have hmember : (s.recordOfStation n.sender).isMember = true := h
  unfold State.evidence
  split
  · rfl
  · split
    · split
      next habs =>
        rw [(MemberRecord.isAbsent_iff _).mp habs] at hmember
        cases hmember
      · rfl
    · rw [hmember, Bool.not_true, Bool.and_false]
      rfl

theorem viewGained_transfer (s : State) : s.viewGained.ownTransfer.map (·.attempt) = s.ownTransfer.map (·.attempt) := by
  unfold State.viewGained
  split
  next tr hown =>
    have hset (m : MemberRecord) : ((s.setMember s.self m).recordOfStation s.self) = m := by
      rw [State.recordOfStation_setMember, if_pos rfl]
    have hold : s.ownTransfer = some tr := by rw [State.ownTransfer, hown]; rfl
    rw [hold]
    dsimp only
    split <;> exact congrArg (fun m : MemberRecord => m.transfer.map (·.attempt)) (hset _)
  · rfl

/-- What a part shows of its sender leaves the attempt of this station's own record (R41). -/
theorem evidence_transfer {s : State} {n : Notice} (h : n.sender ≠ s.self) :
    (s.evidence n).ownTransfer.map (·.attempt) = s.ownTransfer.map (·.attempt) := by
  have hset (m : MemberRecord) : (s.setMember n.sender m).ownTransfer = s.ownTransfer := by
    have hrecord := State.recordOfStation_setMember s n.sender s.self m
    rw [if_neg (Ne.symm h)] at hrecord
    exact congrArg MemberRecord.transfer hrecord
  unfold State.evidence
  split
  · rfl
  · split
    · split
      · rw [hset]
      · rfl
    · split
      · rw [viewGained_transfer, hset]
      · rfl

/-! ## Installing a part (R33, R42, R52, R64, R74) -/

section
variable {s : State} {a : Fin 4} {last : Bool} {c : PartContent} {ip : ImagePending}

theorem installPart_other {u : Station} (hu : u ≠ s.self) : s.installPart u a last c = s := if_neg fun h => hu h.1

theorem installPart_spoiled (u : Station) (hip : s.table.imagePending = some ip) (hsp : ip.spoiled = true) :
    s.installPart u a last c = s := by
  unfold State.installPart
  split
  · rw [hip]
    exact if_pos hsp
  · rfl

variable (hst : s.ctl.station = .joining ∨ s.ctl.station = .resync) (htr : s.ownTransfer.map (·.attempt) = some a)
  (hip : s.table.imagePending = some ip) (hsp : ip.spoiled = false)
include hst htr hip hsp

theorem installPart_membership (ms : Vector MemberRecord 16) (ps : Params) :
    s.installPart s.self a false (.membership ms ps) = (s.installMembership ms ps).startImageWait := by
  unfold State.installPart
  rw [if_pos ⟨rfl, hst, htr⟩, hip]
  dsimp only
  rw [hsp, if_neg (by nofun)]
  rfl

theorem installPart_resource (r : Resource) (e : Entry) (hm : ip.membershipInstalled = true) (hr : r.val < s.count) :
    s.installPart s.self a last (.resource r e) =
      if last then s.installEntry r e else (s.installEntry r e).startImageWait := by
  unfold State.installPart
  rw [if_pos ⟨rfl, hst, htr⟩, hip]
  dsimp only
  rw [hsp, hm, if_neg (by nofun)]
  exact (if_neg (by nofun)).trans (if_pos hr)

theorem installPart_early (r : Resource) (e : Entry) (hm : ip.membershipInstalled = false) :
    s.installPart s.self a last (.resource r e) = s.spoil := by
  unfold State.installPart
  rw [if_pos ⟨rfl, hst, htr⟩, hip]
  dsimp only
  rw [hsp, hm, if_neg (by nofun)]
  rfl

end

theorem imageEffects_more {s : State} {u v : Station} (hv : v ≠ s.self) (a : Fin 4) (c : PartContent) :
    s.imageEffects v u a false c = s.installPart u a false c := by
  unfold State.imageEffects State.advanceTransfer
  dsimp only
  have hctl := (s.installPart_inner u a false c).ctl
  have hself : (s.installPart u a false c).self = s.self := congrArg (·.number) hctl
  exact (if_neg (by rw [if_neg Bool.false_ne_true, hself]; exact hv)).trans (if_neg Bool.false_ne_true)

/-- What the membership part makes of the tables (R33, R42). -/
theorem installMembership_spec (s : State) (ms : Vector MemberRecord 16) (ps : Params) :
    (s.installMembership ms ps).ctl = s.ctl ∧ (s.installMembership ms ps).stack = s.stack ∧
    (s.installMembership ms ps).table.members = ms ∧ (s.installMembership ms ps).table.bank = some ps ∧
    (s.installMembership ms ps).table.imagePending =
      s.table.imagePending.map (fun ip => { ip with membershipInstalled := true }) ∧
    ∀ r, (s.installMembership ms ps).entry r =
      if ps.count.toNat < s.count ∧ ps.count.toNat ≤ r.val then Entry.clear else s.entry r := by
  unfold State.installMembership State.updateImagePending State.entry
  simp

theorem startImageWait_imageWait (s : State) :
    (s.startImageWait).timer.imageWait = .running s.timeParams.imageWaitMs := by
  rw [State.startImageWait, State.withTimer_timer]

section
variable (s : State) (r : Resource) (e : Entry)

theorem installEntry_entry (r' : Resource) : (s.installEntry r e).entry r' = if r' = r then e else s.entry r' :=
  (show (s.installEntry r e).entry r' = (s.setEntry r e).entry r' from rfl).trans (State.entry_setEntry ..)

/-- The countdown of an entry that a part overwrites (R52). -/
theorem installEntry_countdown (h : Station) (g : Grant) : (s.installEntry r e).countdown r h g =
    if e.holds h g = true then
      if s.keepsCountdown r h g = true then s.countdown r h g
      else .running (s.bankParams.leaseTermMs + s.bankParams.graceMs)
    else .stopped := by
  have hkept : (s.timer.countdowns.filter fun c =>
      decide (c.resource ≠ r) || (s.keepsCountdown r c.holder c.grant && e.holds c.holder c.grant)).find?
        (fun c => c.isOf r h g) =
      if e.holds h g = true ∧ s.keepsCountdown r h g = true then s.timer.countdowns.find? fun c => c.isOf r h g
      else none := by
    rw [List.find?_filter]
    split
    next hk =>
      refine congrArg (List.find? · _) (funext fun c => ?_)
      cases hc : c.isOf r h g with
      | false => simp
      | true =>
        obtain ⟨rfl, rfl, rfl⟩ := by simpa using (Countdown.isOf_iff c r h g).mp hc
        simp [hk.1, hk.2]
    next hk =>
      refine List.find?_eq_none.mpr fun c _ hc => hk ?_
      simp only [decide_eq_true_eq] at hc
      obtain ⟨hkeep, hc⟩ := hc
      obtain ⟨rfl, rfl, rfl⟩ := by simpa using (Countdown.isOf_iff c r h g).mp hc
      simpa [and_comm] using hkeep
  have hloaded (c : Countdown) : c ∈ ((e.holders.filter fun h => !s.keepsCountdown r h.station h.grant).map fun h =>
      ({ resource := r, holder := h.station, grant := h.grant,
         timer := .running (s.bankParams.leaseTermMs + s.bankParams.graceMs) } : Countdown)) → c.isOf r h g = true →
      e.holds h g = true ∧ s.keepsCountdown r h g = false ∧
        c.timer = .running (s.bankParams.leaseTermMs + s.bankParams.graceMs) := by
    intro hc hof
    obtain ⟨x, hx, rfl⟩ := List.mem_map.mp hc
    obtain ⟨hx, hkeep⟩ := List.mem_filter.mp hx
    obtain ⟨rfl, rfl⟩ := by simpa using (Countdown.isOf_iff _ r h g).mp hof
    exact ⟨(Entry.holds_iff ..).mpr ⟨x, hx, rfl, rfl⟩, by simpa using hkeep, rfl⟩
  have hlist : (s.installEntry r e).timer.countdowns = (s.timer.countdowns.filter fun c =>
      decide (c.resource ≠ r) || (s.keepsCountdown r c.holder c.grant && e.holds c.holder c.grant)) ++
      (e.holders.filter fun h => !s.keepsCountdown r h.station h.grant).map fun h =>
        ({ resource := r, holder := h.station, grant := h.grant,
           timer := .running (s.bankParams.leaseTermMs + s.bankParams.graceMs) } : Countdown) := rfl
  unfold State.countdown
  rw [hlist, List.find?_append, hkept]
  by_cases hholds : e.holds h g = true
  · rw [if_pos hholds]
    by_cases hkeep : s.keepsCountdown r h g = true
    · rw [if_pos ⟨hholds, hkeep⟩, if_pos hkeep]
      have hany : (s.timer.countdowns.find? fun c => c.isOf r h g).isSome = true := by
        unfold State.keepsCountdown at hkeep
        simpa using (Bool.and_eq_true_iff.mp hkeep).2
      rw [Option.or_of_isSome hany]
    · rw [if_neg fun h => hkeep h.2, if_neg hkeep, Option.none_or]
      split
      next c hc => exact (hloaded c (List.mem_of_find?_eq_some hc) (by simpa using List.find?_some hc)).2.2
      next hnone =>
        obtain ⟨x, hx, rfl, rfl⟩ := (Entry.holds_iff ..).mp hholds
        have hmem := List.find?_eq_none.mp hnone _ (List.mem_map_of_mem (List.mem_filter.mpr ⟨hx, by simpa using hkeep⟩))
        exact absurd ((Countdown.isOf_iff ..).mpr rfl) hmem
  · rw [if_neg hholds, if_neg fun h => hholds h.1, Option.none_or]
    split
    next c hc => exact absurd (hloaded c (List.mem_of_find?_eq_some hc) (by simpa using List.find?_some hc)).1 hholds
    next => rfl

end

/-! ## A part at its target, but the last (R33, R42, R52, R64, R74) -/

theorem listening_of_target {s : State} (hst : s.ctl.station = .joining ∨ s.ctl.station = .resync) :
    s.listening = true := by
  rcases hst with hst | hst <;> rw [State.listening, hst] <;> rfl

section
variable {s : State} {v : Station} {a : Fin 4} {rest : List Notice} {tr : Transfer} {ip : ImagePending}
  (hr : s.ctl.inReset = false) (hst : s.ctl.station = .joining ∨ s.ctl.station = .resync) (hv : v ≠ s.self)
  (htr : s.table.members[s.self].transfer = some tr) (ha : tr.attempt = a) (hip : s.table.imagePending = some ip)
  (hsp : ip.spoiled = false)
include hr hst hv htr ha hip hsp

/-- The first part of O56: the membership part. -/
theorem membership_applied {ms : Vector MemberRecord 16} {ps : Params}
    (hin : s.line.inbound = { sender := v, body := .image s.self a false (.membership ms ps) } :: rest) :
    ∃ t, exec .applyImage s = .next t ∧ t.ctl = s.ctl ∧ t.stack = s.stack ∧ t.table.members = ms ∧
      t.table.bank = some ps ∧ t.table.imagePending = some { ip with membershipInstalled := true } ∧
      (∀ r : Resource, r.val < ps.count.toNat → t.entry r = s.entry r) ∧
      (∀ r : Resource, ps.count.toNat ≤ r.val → ps.count.toNat < s.count → t.entry r = Entry.clear) ∧
      t.timer.imageWait = .running
        (if s.ctl.station = .joining then s.ctl.proposed.imageWaitMs else ps.imageWaitMs) := by
  rw [exec_applyImage hr (listening_of_target hst) hin]
  generalize hn : ({ sender := v, body := .image s.self a false (.membership ms ps) } : Notice) = n
  have hsender : n.sender = v := by rw [← hn]
  have hshown := evidence_transfer (s := s.takeNotice n rest) (n := n) (by rw [hsender]; exact hv)
  obtain ⟨ectl, eentries, ebank, -, eip, -, -, -, -, -, -, estack, -⟩ := (s.takeNotice n rest).evidence_frame n
  simp only [State.takeNotice_frame] at ectl eentries ebank eip estack
  generalize (s.takeNotice n rest).evidence n = w at *
  have hself : s.self = w.self := congrArg (·.number) ectl.symm
  have hattempt : w.ownTransfer.map (·.attempt) = some a := by
    have hold : (s.takeNotice n rest).ownTransfer = some tr := htr
    rw [hshown, hold, Option.map_some, ha]
  rw [hself, imageEffects_more (by rw [← hself]; exact hv),
    installPart_membership (by rw [ectl]; exact hst) hattempt (eip.trans hip) hsp]
  obtain ⟨ictl, istack, imembers, ibank, iip, ientry⟩ := installMembership_spec w ms ps
  have hcount : w.count = s.count := by rw [State.count, ebank]; rfl
  generalize w.installMembership ms ps = x at *
  obtain ⟨wctl, wtable, -, -, -, -, -, wstack, -⟩ := x.startImageWait_frame
  have wimage := startImageWait_imageWait x
  generalize x.startImageWait = y at *
  obtain ⟨fctl, -, fmembers, fbank, fip, fstack, -, -, -, -, -, -, fimage, -⟩ := State.finish_frame (s.takeNotice n rest) y
  have hentry (r : Resource) : (State.finish (s.takeNotice n rest) y).entry r =
      if ps.count.toNat < s.count ∧ ps.count.toNat ≤ r.val then Entry.clear else s.entry r := by
    rw [State.finish_entry, State.entry, wtable]
    refine (ientry r).trans ?_
    rw [hcount, State.entry, State.entry, eentries]
  refine ⟨_, rfl, fctl.trans (wctl.trans (ictl.trans ectl)), fstack.trans (wstack.trans (istack.trans estack)),
    fmembers.trans (by rw [wtable, imembers]), fbank.trans (by rw [wtable, ibank]),
    fip.trans (by rw [wtable, iip, eip, hip]; rfl), fun r hlt => ?_, fun r hge hlow => ?_,
    fimage.trans (wimage.trans ?_)⟩
  · rw [hentry, if_neg fun h => absurd h.2 (by omega)]
  · rw [hentry, if_pos ⟨hlow, hge⟩]
  · rw [State.timeParams, State.bankParams, ibank, ictl, ectl]
    split <;> rfl

/-- The second part of O56: a resource part after the membership part. -/
theorem resource_applied {r : Resource} {e : Entry}
    (hin : s.line.inbound = { sender := v, body := .image s.self a false (.resource r e) } :: rest)
    (hm : ip.membershipInstalled = true) (hr' : r.val < s.count) :
    ∃ t, exec .applyImage s = .next t ∧ t.ctl = s.ctl ∧ t.stack = s.stack ∧ t.table.members = s.table.members ∧
      t.table.bank = s.table.bank ∧ t.entry r = e ∧ (∀ r', r' ≠ r → t.entry r' = s.entry r') ∧
      t.table.imagePending = some { ip with installed := ip.installed.set r true } ∧
      t.timer.imageWait = .running s.timeParams.imageWaitMs ∧
      (∀ h g, e.holds h g = true →
        let kept : Prop := s.ctl.station = .resync ∧ h = s.self ∧ (s.entry r).holds h g = true ∧
          ∃ c ∈ s.timer.countdowns, c.isOf r h g = true
        (kept → t.countdown r h g = s.countdown r h g) ∧
        (¬kept → t.countdown r h g = .running (s.bankParams.leaseTermMs + s.bankParams.graceMs))) ∧
      (∀ h g, e.holds h g = false → t.countdown r h g = .stopped) := by
  rw [exec_applyImage hr (listening_of_target hst) hin]
  generalize hn : ({ sender := v, body := .image s.self a false (.resource r e) } : Notice) = n
  have hbank : (s.takeNotice n rest).table.bank ≠ none := fun h => by
    have hcount : s.count = 0 := by
      have h' : s.table.bank = none := h
      rw [State.count, h']
    omega
  rw [State.evidence_of_bank n hbank, imageEffects_more (s := s.takeNotice n rest) hv]
  have hattempt : (s.takeNotice n rest).ownTransfer.map (·.attempt) = some a := by
    have hold : (s.takeNotice n rest).ownTransfer = some tr := htr
    rw [hold, Option.map_some, ha]
  have hinstall := installPart_resource (s := s.takeNotice n rest) (last := false) hst hattempt hip hsp r e hm hr'
  replace hinstall : (s.takeNotice n rest).installPart s.self a false (.resource r e) =
    ((s.takeNotice n rest).installEntry r e).startImageWait := hinstall
  have hentry := installEntry_entry (s.takeNotice n rest) r e
  have hcountdown := installEntry_countdown (s.takeNotice n rest) r e
  rw [hinstall]
  obtain ⟨fctl, -, fmembers, fbank, fip, fstack, -, -, -, -, -, -, fimage, -⟩ :=
    State.finish_frame (s.takeNotice n rest) ((s.takeNotice n rest).installEntry r e).startImageWait
  have hkeeps (h : Station) (g : Grant) : (s.takeNotice n rest).keepsCountdown r h g = true ↔
      s.ctl.station = .resync ∧ h = s.self ∧ (s.entry r).holds h g = true ∧
        ∃ c ∈ s.timer.countdowns, c.isOf r h g = true := by
    rw [show (s.takeNotice n rest).keepsCountdown r h g = s.keepsCountdown r h g from rfl, State.keepsCountdown]
    simp [and_assoc]
  refine ⟨_, rfl, fctl, fstack, fmembers, fbank, ?_, fun r' hne => ?_, fip.trans ?_, fimage, fun h g hh => ⟨fun hk => ?_, fun hk => ?_⟩,
    fun h g hh => ?_⟩
  · rw [State.finish_entry]
    exact (hentry r).trans (if_pos rfl)
  · rw [State.finish_entry]
    exact (hentry r').trans (if_neg hne)
  · show s.table.imagePending.map (fun ip : ImagePending => { ip with installed := ip.installed.set r true }) = _
    rw [hip]
    rfl
  · rw [State.finish_countdown]
    exact (hcountdown h g).trans ((if_pos hh).trans (if_pos ((hkeeps h g).mpr hk)))
  · rw [State.finish_countdown]
    exact (hcountdown h g).trans ((if_pos hh).trans (if_neg (mt (hkeeps h g).mp hk)))
  · rw [State.finish_countdown]
    exact (hcountdown h g).trans (if_neg (by rw [hh]; nofun))

/-- The fifth part of O56: a resource part before the membership part. -/
theorem early_resource_applied {r : Resource} {e : Entry}
    (hin : s.line.inbound = { sender := v, body := .image s.self a false (.resource r e) } :: rest)
    (hmember : s.table.members[v].isMember = true) (hm : ip.membershipInstalled = false) :
    ∃ t, exec .applyImage s = .next t ∧ t.ctl = s.ctl ∧ t.stack = s.stack ∧ t.table.members = s.table.members ∧
      t.table.bank = s.table.bank ∧ t.table.entries = s.table.entries ∧ t.timer.countdowns = s.timer.countdowns ∧
      t.timer.imageWait = s.timer.imageWait ∧ t.table.imagePending = some { ip with spoiled := true } := by
  rw [exec_applyImage hr (listening_of_target hst) hin]
  generalize hn : ({ sender := v, body := .image s.self a false (.resource r e) } : Notice) = n
  have hattempt : (s.takeNotice n rest).ownTransfer.map (·.attempt) = some a := by
    have hold : (s.takeNotice n rest).ownTransfer = some tr := htr
    rw [hold, Option.map_some, ha]
  have hspoil := installPart_early (s := s.takeNotice n rest) (last := false) hst hattempt hip hsp r e hm
  replace hspoil : (s.takeNotice n rest).installPart s.self a false (.resource r e) = (s.takeNotice n rest).spoil := hspoil
  rw [State.evidence_of_member (by subst hn; exact hmember), imageEffects_more (s := s.takeNotice n rest) hv, hspoil]
  obtain ⟨fctl, fentries, fmembers, fbank, fip, fstack, -, fcs, -, -, -, -, fimage, -⟩ :=
    State.finish_frame (s.takeNotice n rest) (s.takeNotice n rest).spoil
  refine ⟨_, rfl, fctl, fstack, fmembers, fbank, fentries, fcs, fimage, fip.trans ?_⟩
  show s.table.imagePending.map (fun ip : ImagePending => { ip with spoiled := true }) = _
  rw [hip]
  rfl

end

end Sys2Proof.Machine

/-! PROOFS. The last part of a transfer, and the source's next part (R43, R64, R70, R76, R79, R84, R200, R204). -/

namespace Sys2Proof.Machine

open Sys2Proof.Safety

/-! ## The membership effect of the last part (R43, R76) -/

theorem advanceTransfer_other {s : State} {v : Station} (hv : v ≠ s.self) (u : Station) (a : Fin 4) (last : Bool) (p : Part) :
    s.advanceTransfer v u a last p = s := if_neg hv

section
variable {s : State} {a : Fin 4} {tr : Transfer}

theorem lastEffects_own_join (hrecord : s.table.members[s.self] = .joining (some tr)) (ha : tr.attempt = a)
    (hst : s.ctl.station = .joining) : s.lastEffects s.self a = s.completeJoin := by
  have hown : s.recordOfStation s.self = .joining (some tr) := hrecord
  unfold State.lastEffects
  rw [hown]
  dsimp only
  rw [if_neg (not_not.mpr ha), if_pos ⟨rfl, hst⟩]

theorem lastEffects_own_sync (hrecord : s.table.members[s.self] = .member (some tr)) (ha : tr.attempt = a)
    (hst : s.ctl.station = .resync) : s.lastEffects s.self a = s.completeResync a := by
  have hown : s.recordOfStation s.self = .member (some tr) := hrecord
  unfold State.lastEffects
  rw [hown]
  dsimp only
  rw [if_neg (not_not.mpr ha), if_pos ⟨rfl, hst⟩]

/-- The target's record takes the last part at every other station (R43). -/
theorem lastEffects_other {u : Station} (htr : s.table.members[u].transfer = some tr) (ha : tr.attempt = a)
    (hu : u ≠ s.self) : s.lastEffects u a =
      if s.table.members[u].isJoining = true then (s.setMember u (.member none)).reportPeer .peerJoined u 0
      else s.setMember u (.member none) := by
  unfold State.lastEffects State.recordOfStation
  cases hrecord : s.table.members[u] with
  | absent =>
    rw [hrecord] at htr
    cases htr
  | joining o =>
    rw [hrecord] at htr
    replace htr : o = some tr := htr
    rw [htr]
    dsimp only
    rw [if_neg (not_not.mpr ha), if_neg fun h => hu h.1, if_neg hu]
    rfl
  | member o =>
    rw [hrecord] at htr
    replace htr : o = some tr := htr
    rw [htr]
    dsimp only
    rw [if_neg (not_not.mpr ha), if_neg fun h => hu h.1]
    rfl

variable {ip : ImagePending}

theorem completeJoin_installed (hip : s.table.imagePending = some ip) (hm : ip.membershipInstalled = true) :
    s.completeJoin = if ip.spoiled = true then ((s.setMember s.self (.member none)).becomeMember false).enterResync 1
      else (s.setMember s.self (.member none)).becomeMember false := by
  unfold State.completeJoin
  rw [hip]
  dsimp only
  rw [hm, if_neg (by nofun)]

theorem completeJoin_not_installed (hip : s.table.imagePending = some ip) (hm : ip.membershipInstalled = false) :
    s.completeJoin = s := by
  unfold State.completeJoin
  rw [hip]
  dsimp only
  rw [hm]
  rfl

theorem completeResync_spoiled (hip : s.table.imagePending = some ip) (hsp : ip.spoiled = true) :
    s.completeResync a = if a.val < 2 then
        ((s.setMember s.self (.member none)).stopWaits).updateImagePending (fun ip => { ip with attempt := a })
      else ((s.setMember s.self (.member none)).stopWaits).exhaust := by
  unfold State.completeResync
  rw [hip]
  dsimp only
  rw [hsp, if_neg (by nofun)]
  rfl

end

/-- The report of a station that joins through an image. -/
theorem memberReport_joined (s : State) : s.memberReport false =
    { kind := .member, subject := 0, grant := 0, detail := if s.bankParams = s.ctl.proposed then 0 else 2 } := by
  rw [State.memberReport]
  by_cases h : s.bankParams = s.ctl.proposed
  · rw [if_pos h, decide_eq_false (not_not.mpr h)]
    rfl
  · rw [if_neg h, decide_eq_true h]
    rfl

/-! ## The last part at its target -/

/-- The third part of O56: the joiner is MEMBER. -/
theorem last_part_joins {s : State} {v : Station} {a : Fin 4} {r : Resource} {e : Entry} {rest : List Notice}
    {tr : Transfer} {ip : ImagePending} (hr : s.ctl.inReset = false) (hst : s.ctl.station = .joining) (hv : v ≠ s.self)
    (hin : s.line.inbound = { sender := v, body := .image s.self a true (.resource r e) } :: rest)
    (hrecord : s.table.members[s.self] = .joining (some tr)) (ha : tr.attempt = a) (hip : s.table.imagePending = some ip)
    (hsp : ip.spoiled = false) (hm : ip.membershipInstalled = true) (hr' : r.val < s.count) :
    ∃ t, exec .applyImage s = .next t ∧ t.ctl = { s.ctl with station := .member } ∧ t.stack = s.stack ∧
      t.entry r = e ∧ (∀ r', r' ≠ r → t.entry r' = s.entry r') ∧ t.table.members[s.self] = .member none ∧
      (∀ q : Station, q ≠ s.self → t.table.members[q] = s.table.members[q]) ∧ t.table.imagePending = none ∧
      t.timer.joinWait = .stopped ∧ t.timer.foundWait = .stopped ∧ t.timer.imageWait = .stopped ∧
      (s.raise { kind := .member, subject := 0, grant := 0,
                 detail := if s.bankParams = s.ctl.proposed then 0 else 2 }).port.reports <+: t.port.reports := by
  rw [exec_applyImage hr (listening_of_target (.inl hst)) hin]
  generalize hn : ({ sender := v, body := .image s.self a true (.resource r e) } : Notice) = n
  have hbank : (s.takeNotice n rest).table.bank ≠ none := fun h => by
    have hcount : s.count = 0 := by
      have h' : s.table.bank = none := h
      rw [State.count, h']
    omega
  rw [State.evidence_of_bank n hbank]
  have hattempt : (s.takeNotice n rest).ownTransfer.map (·.attempt) = some a := by
    have hold : (s.takeNotice n rest).ownTransfer = some tr := congrArg MemberRecord.transfer hrecord
    rw [hold, Option.map_some, ha]
  have hinstall := installPart_resource (s := s.takeNotice n rest) (last := true) (.inl hst) hattempt hip hsp r e hm hr'
  replace hinstall : (s.takeNotice n rest).installPart s.self a true (.resource r e) =
    (s.takeNotice n rest).installEntry r e := hinstall
  have hentry := installEntry_entry (s.takeNotice n rest) r e
  have hblocks : ((s.takeNotice n rest).installEntry r e).ctl = s.ctl ∧
      ((s.takeNotice n rest).installEntry r e).table.members = s.table.members ∧
      ((s.takeNotice n rest).installEntry r e).table.bank = s.table.bank ∧
      ((s.takeNotice n rest).installEntry r e).table.imagePending =
        some { ip with installed := ip.installed.set r true } ∧
      ((s.takeNotice n rest).installEntry r e).stack = s.stack ∧
      ((s.takeNotice n rest).installEntry r e).port = s.port := by
    unfold State.installEntry State.updateImagePending
    simp [hip]
  unfold State.imageEffects
  dsimp only
  rw [hinstall]
  generalize (s.takeNotice n rest).installEntry r e = w at *
  obtain ⟨wctl, wmembers, wbank, wip, wstack, wport⟩ := hblocks
  have hself : w.self = s.self := congrArg (·.number) wctl
  have hlast := lastEffects_own_join (s := w) (by simpa only [wmembers, hself] using hrecord) ha (by rw [wctl]; exact hst)
  rw [hself, completeJoin_installed wip hm, if_neg (by rw [hsp]; nofun)] at hlast
  rw [if_pos rfl, hlast, hself]
  obtain ⟨mctl, mentries, mbank, -, -, -, -, mstack, -, -, mport, -⟩ := w.setMember_frame s.self (.member none)
  have hmembers (q : Station) := members_of_setMember (s := w) (u := s.self) (m := .member none) rfl q
  have hparams : (w.setMember s.self (.member none)).bankParams = s.bankParams := by
    rw [State.bankParams, mbank, mctl, wbank, wctl]
    rfl
  obtain ⟨bctl, btable, btimer, -, bstack, -, breports, -⟩ := (w.setMember s.self (.member none)).becomeMember_spec false
  rw [memberReport_joined, hparams, mctl, wctl, State.raise_port_congr (mport.trans wport)] at breports
  have hbself : v ≠ ((w.setMember s.self (.member none)).becomeMember false).self := by
    rw [State.self, bctl, mctl, wctl]
    exact hv
  rw [advanceTransfer_other hbself]
  generalize (w.setMember s.self (.member none)).becomeMember false = x at *
  obtain ⟨fctl, -, fmembers, -, fip, fstack, -, -, -, fjoin, ffound, -, fimage, -⟩ := State.finish_frame (s.takeNotice n rest) x
  have hxentry (r' : Resource) : (State.finish (s.takeNotice n rest) x).entry r' = if r' = r then e else s.entry r' := by
    rw [State.finish_entry, State.entry, btable]
    refine (congrArg (fun es : Vector Entry 16 => es[r']) mentries).trans (hentry r')
  refine ⟨_, rfl, fctl.trans (bctl.trans (by rw [mctl, wctl])), fstack.trans (bstack.trans (mstack.trans wstack)),
    (hxentry r).trans (if_pos rfl), fun r' hne => (hxentry r').trans (if_neg hne), ?_, fun q hq => ?_,
    fip.trans (by rw [btable]), fjoin.trans (by rw [btimer]), ffound.trans (by rw [btimer]), fimage.trans (by rw [btimer]),
    breports.trans (State.reports_prefix_finish _ x)⟩
  · rw [fmembers, btable]
    exact (hmembers s.self).trans (if_pos rfl)
  · rw [fmembers, btable]
    exact (hmembers q).trans ((if_neg hq).trans (by rw [wmembers]))

/-! ## A part for another station (R43, R70) -/

/-- A transfer that the last part has ended is in no list (R70, R72). -/
theorem transfer_gone {s0 s : State} {i : TransferItem} (hl : s.listening = true)
    (hm : s.table.members[i.target].transfer = none) : i ∉ (State.finish s0 s).table.transfers := fun hi => by
  rw [State.finish_transfers hl] at hi
  have htr := of_decide_eq_true (List.mem_filter.mp hi).2
  rw [hm] at htr
  cases htr

/-- The fourth part of O56. -/
theorem part_for_other {s : State} {u v : Station} {a : Fin 4} {last : Bool} {content : PartContent} {rest : List Notice}
    {tr : Transfer} (happ : Applies s { sender := v, body := .image u a last content } rest) (hu : u ≠ s.self)
    (htr : s.table.members[u].transfer = some tr) (ha : tr.attempt = a) :
    ∃ t, exec .applyImage s = .next t ∧ t.ctl = s.ctl ∧ t.stack = s.stack ∧ t.table.entries = s.table.entries ∧
      (∀ q : Station, q ≠ u → t.table.members[q] = s.table.members[q]) ∧
      (last = false → t.table.members[u] = s.table.members[u] ∧
        ∀ more, v = s.self → tr.source = some s.self →
          s.table.transfers = { target := u, attempt := a, next := content.part } :: more →
          { target := u, attempt := a, next := content.part.following } ∈ t.table.transfers) ∧
      (last = true → t.table.members[u] = .member none ∧
        (v = s.self → { target := u, attempt := a, next := content.part } ∉ t.table.transfers) ∧
        (s.table.members[u].isJoining = true → s.table.members[s.self].isMember = true →
          (s.raise { kind := .peerJoined, subject := u, grant := 0, detail := 0 }).port.reports <+: t.port.reports)) := by
  obtain ⟨hr, hbank, hin⟩ := happ
  have hl := StationState.listening_of_inBank hbank
  have hnot : s.ctl.station ≠ .joining := fun h => by
    rw [h] at hbank
    cases hbank
  rw [exec_applyImage hr hl hin]
  generalize hn : ({ sender := v, body := .image u a last content } : Notice) = n
  rw [State.evidence_inBank n (by exact hnot)]
  have hblocks : (s.takeNotice n rest).ctl = s.ctl ∧ (s.takeNotice n rest).table = s.table ∧
      (s.takeNotice n rest).stack = s.stack ∧ (s.takeNotice n rest).port = s.port := ⟨rfl, rfl, rfl, rfl⟩
  generalize s.takeNotice n rest = w at *
  obtain ⟨wctl, wtable, wstack, wport⟩ := hblocks
  have hself : w.self = s.self := congrArg (·.number) wctl
  unfold State.imageEffects
  dsimp only
  rw [installPart_other (by rw [hself]; exact hu)]
  cases last with
  | false =>
    rw [if_neg Bool.false_ne_true]
    have hfirst (more : List TransferItem) (hv : v = s.self)
        (hmore : s.table.transfers = { target := u, attempt := a, next := content.part } :: more) :
        { target := u, attempt := a, next := content.part.following } ∈
          (w.advanceTransfer v u a false content.part).table.transfers := by
      unfold State.advanceTransfer
      rw [if_pos (by rw [hself]; exact hv), State.withTable_table, wtable, hmore]
      simp
    have hadvance : (w.advanceTransfer v u a false content.part).ctl = s.ctl ∧
        (w.advanceTransfer v u a false content.part).table.entries = s.table.entries ∧
        (w.advanceTransfer v u a false content.part).table.members = s.table.members ∧
        (w.advanceTransfer v u a false content.part).stack = s.stack := by
      unfold State.advanceTransfer
      split <;> simp [wctl, wtable, wstack]
    generalize w.advanceTransfer v u a false content.part = x at *
    obtain ⟨xctl, xentries, xmembers, xstack⟩ := hadvance
    obtain ⟨fctl, fentries, fmembers, -, -, fstack, -⟩ := State.finish_frame w x
    refine ⟨_, rfl, fctl.trans xctl, fstack.trans xstack, fentries.trans xentries, fun q _ => by rw [fmembers, xmembers],
      fun _ => ⟨by rw [fmembers, xmembers], fun more hv hsource hmore => ?_⟩, nofun⟩
    rw [State.finish_transfers (by rw [State.listening, xctl]; exact hl)]
    refine List.mem_filter.mpr ⟨hfirst more hv hmore, decide_eq_true ?_⟩
    rw [xmembers, htr, State.self, xctl, ← ha, ← show s.self = s.ctl.number from rfl, ← hsource]
  | true =>
    rw [if_pos rfl, lastEffects_other (by rw [wtable]; exact htr) ha (by rw [hself]; exact hu), wtable]
    obtain ⟨mctl, mentries, -, -, -, -, -, mstack, -, -, mport, -⟩ := w.setMember_frame u (.member none)
    have hmembers (q : Station) := members_of_setMember (s := w) (u := u) (m := .member none) rfl q
    have hpeer (hj : s.table.members[u].isJoining = true) (hown : s.table.members[s.self].isMember = true) :
        ((w.setMember u (.member none)).reportPeer .peerJoined u 0).port =
          (s.raise { kind := .peerJoined, subject := u, grant := 0, detail := 0 }).port := by
      rw [reportPeer_member]
      · exact State.raise_port_congr (mport.trans wport) _
      · rw [State.ownRecord, State.self, mctl, wctl]
        have hq := hmembers s.self
        rw [if_neg (Ne.symm hu), wtable] at hq
        exact (congrArg MemberRecord.isMember hq).trans hown
    generalize hx : (if s.table.members[u].isJoining = true then (w.setMember u (.member none)).reportPeer .peerJoined u 0
      else w.setMember u (.member none)) = x
    have hxblocks : x.ctl = s.ctl ∧ x.table = (w.setMember u (.member none)).table ∧ x.stack = s.stack := by
      rw [← hx]
      split <;> simp [wctl, wstack]
    have hxport (hj : s.table.members[u].isJoining = true) (hown : s.table.members[s.self].isMember = true) :
        x.port = (s.raise { kind := .peerJoined, subject := u, grant := 0, detail := 0 }).port := by
      rw [← hx, if_pos hj]
      exact hpeer hj hown
    obtain ⟨xctl, xtable, xstack⟩ := hxblocks
    have hadvance : (x.advanceTransfer v u a true content.part).ctl = s.ctl ∧
        (x.advanceTransfer v u a true content.part).table.entries = s.table.entries ∧
        (x.advanceTransfer v u a true content.part).table.members = (w.setMember u (.member none)).table.members ∧
        (x.advanceTransfer v u a true content.part).stack = s.stack ∧
        (x.advanceTransfer v u a true content.part).port = x.port := by
      unfold State.advanceTransfer
      split <;> simp [xctl, xtable, xstack, wtable]
    generalize x.advanceTransfer v u a true content.part = y at *
    obtain ⟨yctl, yentries, ymembers, ystack, yport⟩ := hadvance
    obtain ⟨fctl, fentries, fmembers, -, -, fstack, -⟩ := State.finish_frame w y
    refine ⟨_, rfl, fctl.trans yctl, fstack.trans ystack, fentries.trans yentries, fun q hq => ?_, nofun,
      fun _ => ⟨?_, fun _ => ?_, fun hj hown => ?_⟩⟩
    · rw [fmembers, ymembers]
      exact (hmembers q).trans ((if_neg hq).trans (by rw [wtable]))
    · rw [fmembers, ymembers]
      exact (hmembers u).trans (if_pos rfl)
    · refine transfer_gone (by rw [State.listening, yctl]; exact hl) ?_
      rw [ymembers]
      exact congrArg MemberRecord.transfer ((hmembers u).trans (if_pos rfl))
    · refine List.IsPrefix.trans ?_ (State.reports_prefix_finish w y)
      rw [yport, hxport hj hown]

/-! ## The last part of a spoiled attempt (R76, R79, R204) -/

/-- RESYNC begins with one report where every gate is closed (R79, R114). -/
theorem enterResync_port_of_closed {s : State} (h : ∀ n : Fin 8, s.gate[n].opened = false) (c : BitVec 4) :
    (s.enterResync c).port = (s.raise { kind := .resyncBegun, subject := 0, grant := 0, detail := c }).port := by
  generalize hu : (s.withCtl { s.ctl with station := .resync, exhausted := false }).raise
    { kind := .resyncBegun, subject := 0, grant := 0, detail := c } = u
  have hport : u.port = (s.raise { kind := .resyncBegun, subject := 0, grant := 0, detail := c }).port := by
    rw [← hu]
    exact State.raise_port_congr (s := s.withCtl { s.ctl with station := .resync, exhausted := false }) (t := s) rfl _
  have hgate : u.gate = s.gate := by
    rw [← hu, (State.raise_frame _ _).2.2.2.2.2.1]
    rfl
  have henter : s.enterResync c = ((u.evalGates 3).abandonTransfers).stateCheck := by rw [← hu]; rfl
  have hhigh := evalGates_port_of_high (s := u) (fun n => goutLow_of_closed (by rw [hgate]; exact h n)) 3
  rw [henter, ← hport, ← hhigh]
  generalize u.evalGates 3 = y
  rfl

/-- The sender is another station, and MEMBER: its last part brings its membership effect alone. -/
theorem exec_last_spoiled {s : State} {v : Station} {a : Fin 4} {content : PartContent} {rest : List Notice}
    {ip : ImagePending} (hr : s.ctl.inReset = false) (hl : s.listening = true) (hv : v ≠ s.self)
    (hin : s.line.inbound = { sender := v, body := .image s.self a true content } :: rest)
    (hmember : s.table.members[v].isMember = true) (hip : s.table.imagePending = some ip) (hsp : ip.spoiled = true)
    {w : State} (hw : (s.takeNotice { sender := v, body := .image s.self a true content } rest).lastEffects s.self a = w)
    (hself : w.ctl.number = s.ctl.number) :
    exec .applyImage s = .next (State.finish (s.takeNotice { sender := v, body := .image s.self a true content } rest) w) := by
  rw [exec_applyImage hr hl hin]
  rw [State.evidence_of_member (by exact hmember)]
  unfold State.imageEffects
  dsimp only
  rw [installPart_spoiled (s := s.takeNotice { sender := v, body := .image s.self a true content } rest) _ hip hsp,
    if_pos rfl, hw, advanceTransfer_other]
  rw [State.self, hself]
  exact hv

section
variable {s : State} {v : Station} {a : Fin 4} {content : PartContent} {rest : List Notice} {tr : Transfer}
  {ip : ImagePending} (hr : s.ctl.inReset = false) (hv : v ≠ s.self)
  (hin : s.line.inbound = { sender := v, body := .image s.self a true content } :: rest)
  (hmember : s.table.members[v].isMember = true) (ha : tr.attempt = a) (hip : s.table.imagePending = some ip)
  (hsp : ip.spoiled = true)
include hr hv hin hmember ha hip hsp

/-- The first half of the sixth part of O56: a joiner. -/
theorem spoiled_join (hst : s.ctl.station = .joining) (hrecord : s.table.members[s.self] = .joining (some tr))
    (hstack : s.stack = []) (hclosed : ∀ n : Fin 8, s.gate[n].opened = false) :
    ∃ t, exec .applyImage s = .next t ∧ t.stack = [] ∧
      t.table.entries = s.table.entries ∧ t.table.bank = s.table.bank ∧ t.timer.countdowns = s.timer.countdowns ∧
      (∀ n : Fin 8, t.gate[n].opened = false) ∧
      (ip.membershipInstalled = true →
        t.ctl = { s.ctl with station := .resync, exhausted := false } ∧ t.table.imagePending = none ∧
        t.table.members = s.table.members.set s.self (.member none) ∧
        t.timer.joinWait = .stopped ∧ t.timer.foundWait = .stopped ∧ t.timer.imageWait = .stopped ∧
        t.port = ((s.raise { kind := .member, subject := 0, grant := 0,
                             detail := if s.bankParams = s.ctl.proposed then 0 else 2 }).raise
          { kind := .resyncBegun, subject := 0, grant := 0, detail := 1 }).port ∧
        (∀ f ∈ t.sendq.frames, f.phase = .queued → ∀ x p, f.body ≠ .join x p) ∧
        (GeneralRoom s (.sync 0) → NothingExpired s → generalFrame (.sync 0) ∈ t.sendq.frames)) ∧
      (ip.membershipInstalled = false → t.ctl = s.ctl ∧ t.table.members = s.table.members ∧
        t.table.imagePending = some ip ∧ t.timer.imageWait = s.timer.imageWait ∧ t.port = s.port) := by
  have hl := listening_of_target (.inl hst)
  have hexec (w : State) := exec_last_spoiled (w := w) hr hl hv hin hmember hip hsp
  have hroom0 (h : GeneralRoom s (.sync 0)) := generalRoom_takeNotice h { sender := v, body := .image s.self a true content } rest
  have hblocks : (s.takeNotice { sender := v, body := .image s.self a true content } rest).ctl = s.ctl ∧
      (s.takeNotice { sender := v, body := .image s.self a true content } rest).table = s.table ∧
      (s.takeNotice { sender := v, body := .image s.self a true content } rest).timer = s.timer ∧
      (s.takeNotice { sender := v, body := .image s.self a true content } rest).stack = s.stack ∧
      (s.takeNotice { sender := v, body := .image s.self a true content } rest).gate = s.gate ∧
      (s.takeNotice { sender := v, body := .image s.self a true content } rest).port = s.port := ⟨rfl, rfl, rfl, rfl, rfl, rfl⟩
  generalize s.takeNotice { sender := v, body := .image s.self a true content } rest = n at *
  obtain ⟨nctl, ntable, ntimer, nstack, ngate, nport⟩ := hblocks
  have hself : n.self = s.self := congrArg (·.number) nctl
  have hlast := lastEffects_own_join (s := n) (by simpa only [ntable, hself] using hrecord) ha (by rw [nctl]; exact hst)
  rw [hself] at hlast
  cases hm : ip.membershipInstalled with
  | false =>
    rw [completeJoin_not_installed (by rw [ntable]; exact hip) hm] at hlast
    rw [hexec n hlast (by rw [nctl])]
    obtain ⟨fctl, fentries, fmembers, fbank, fip, fstack, -, fcs, -, -, -, -, fimage, -⟩ := State.finish_frame n n
    obtain ⟨fgate, fport⟩ := State.finish_of_lawful n n fun m => by
      rw [ngate, hclosed m]
      exact (State.gateCondition_of_not_member (by rw [nctl, hst]; nofun) m).symm
    refine ⟨_, rfl, fstack.trans (nstack.trans hstack), by rw [fentries, ntable], by rw [fbank, ntable], by rw [fcs, ntimer],
      fun m => by rw [fgate, ngate, hclosed m], nofun, fun _ => ⟨fctl.trans nctl, by rw [fmembers, ntable],
        fip.trans (by rw [ntable, hip]), by rw [fimage, ntimer], fport.trans nport⟩⟩
  | true =>
    rw [completeJoin_installed (by rw [ntable]; exact hip) hm, if_pos hsp, hself] at hlast
    obtain ⟨mctl, mentries, mbank, -, -, mtimer, msendq, mstack, mgate, -, mport, -⟩ := n.setMember_frame s.self (.member none)
    have hmset : (n.setMember s.self (.member none)).table.members = s.table.members.set s.self (.member none) := by
      rw [← ntable]
      rfl
    generalize n.setMember s.self (.member none) = j at *
    obtain ⟨bctl, btable, btimer, bsendq, bstack, -, -, bquiet⟩ := j.becomeMember_spec false
    obtain ⟨bgate, bport⟩ := bquiet (mstack.trans (nstack.trans hstack)) fun m => by rw [mgate, ngate, hclosed m]
    have hparams : j.bankParams = s.bankParams := by
      rw [State.bankParams, mbank, mctl, ntable, nctl]
      rfl
    rw [memberReport_joined, hparams, mctl, nctl, State.raise_port_congr (mport.trans nport)] at bport
    have hjsendq : j.sendq = n.sendq := msendq
    generalize j.becomeMember false = b at *
    obtain ⟨ectl, etable, etimer, estack, -, egate, -, esub, eawait, -⟩ := b.enterResync_spec 1
    have eport := enterResync_port_of_closed (s := b) (fun m => by rw [bgate, mgate, ngate, hclosed m]) 1
    rw [State.raise_port_congr bport] at eport
    generalize b.enterResync 1 = x at *
    have xctl : x.ctl = { s.ctl with station := .resync, exhausted := false } := by rw [ectl, bctl, mctl, nctl]
    have xstack : x.stack = [] := by rw [estack, bstack, mstack, nstack, hstack]
    rw [hexec x hlast (by rw [xctl])]
    have hlx : x.listening = true := by
      rw [State.listening, xctl]
      rfl
    have hresync : x.ctl.station ≠ .member := by
      rw [xctl]
      nofun
    obtain ⟨fctl, fentries, fmembers, fbank, fip, fstack, -, fcs, -, fjoin, ffound, -, fimage, -⟩ := State.finish_frame n x
    obtain ⟨fgate, fport⟩ := State.finish_of_lawful n x fun m => by
      rw [egate m]
      exact (State.gateCondition_of_not_member hresync m).symm
    refine ⟨_, rfl, fstack.trans xstack, by rw [fentries, etable, btable, mentries, ntable],
      by rw [fbank, etable, btable, mbank, ntable], by rw [fcs, etimer, btimer, mtimer, ntimer],
      fun m => by rw [fgate, egate m], fun _ => ⟨fctl.trans xctl, by rw [fip, etable, btable],
        by rw [fmembers, etable, btable, hmset], by rw [fjoin, etimer, btimer], by rw [ffound, etimer, btimer],
        by rw [fimage, etimer, btimer], fport.trans eport, fun f hf hq y p hb => ?_, fun hroom hexp => ?_⟩, nofun⟩
    · rcases State.mem_finish hlx hf with ⟨-, hstale⟩ | hasked
      · refine hstale hq (.inr ?_)
        rw [hb, State.stateStale, (State.tested_frame n x).1, xctl]
        rfl
      · rw [hb] at hasked
        exact hasked
    · obtain ⟨hcs, -⟩ := hexp
      obtain ⟨tctl, -, -, -, tip, tcs, -, tawait, -⟩ := State.tested_frame n x
      have hroom' : GeneralRoom (State.tested n x) (.sync 0) :=
        generalRoom_tested (generalRoom_of_sublist (hroom0 hroom) (by rw [← hjsendq, ← bsendq]; exact esub) fun f hf => by
          rwa [eawait, bsendq, hjsendq] at hf)
      have hwanted : (State.tested n x).syncWanted = some 0 := by
        rw [State.syncWanted, tctl, xctl, tip, etable, btable]
        rfl
      rw [State.finish_sendq hlx, State.askAfter_sync ⟨by rw [tcs, etimer, btimer, mtimer, ntimer]; exact hcs, .inl (by rw [tctl]; exact hresync)⟩
        (by simp [NoNewRelease, xstack]) (by rw [tctl, xctl]) (by simp [xstack]) hwanted
        (.inl (by rw [nctl, hst]; nofun)) hroom']
      simp [queuedLast]

/-- The second half of the sixth part of O56: a station in RESYNC. -/
theorem spoiled_sync (hst : s.ctl.station = .resync) (hrecord : s.table.members[s.self] = .member (some tr))
    (hex : s.ctl.exhausted = false) (hg : GateLaw s) :
    ∃ t, exec .applyImage s = .next t ∧ t.stack = s.stack ∧ t.table.entries = s.table.entries ∧
      t.table.members = s.table.members.set s.self (.member none) ∧ t.timer.countdowns = s.timer.countdowns ∧
      t.timer.imageWait = .stopped ∧ t.gate = s.gate ∧ t.port = s.port ∧
      (a.val < 2 → t.ctl = s.ctl ∧ t.table.imagePending = some { ip with attempt := a } ∧
        (GeneralRoom s (.sync (a + 1)) → NothingExpired s → generalFrame (.sync (a + 1)) ∈ t.sendq.frames)) ∧
      (a.val = 2 → t.ctl = { s.ctl with exhausted := true } ∧ t.table.imagePending = some ip ∧
        (GeneralRoom s .leave → NothingExpired s → generalFrame .leave ∈ t.sendq.frames)) := by
  have hl := listening_of_target (.inr hst)
  have hexec (w : State) := exec_last_spoiled (w := w) hr hl hv hin hmember hip hsp
  have hroom0 (b : QBody) (h : GeneralRoom s b) :=
    generalRoom_takeNotice h { sender := v, body := .image s.self a true content } rest
  have hblocks : (s.takeNotice { sender := v, body := .image s.self a true content } rest).ctl = s.ctl ∧
      (s.takeNotice { sender := v, body := .image s.self a true content } rest).table = s.table ∧
      (s.takeNotice { sender := v, body := .image s.self a true content } rest).timer = s.timer ∧
      (s.takeNotice { sender := v, body := .image s.self a true content } rest).stack = s.stack ∧
      (s.takeNotice { sender := v, body := .image s.self a true content } rest).gate = s.gate ∧
      (s.takeNotice { sender := v, body := .image s.self a true content } rest).port = s.port := ⟨rfl, rfl, rfl, rfl, rfl, rfl⟩
  generalize s.takeNotice { sender := v, body := .image s.self a true content } rest = n at *
  obtain ⟨nctl, ntable, ntimer, nstack, ngate, nport⟩ := hblocks
  have hself : n.self = s.self := congrArg (·.number) nctl
  have hnrecord : n.table.members[n.self] = .member (some tr) := by simpa only [ntable, hself] using hrecord
  have hlast := lastEffects_own_sync (s := n) hnrecord ha (by rw [nctl]; exact hst)
  rw [hself, completeResync_spoiled (by rw [ntable]; exact hip) hsp, hself] at hlast
  have hj : ((n.setMember s.self (.member none)).stopWaits).ctl = s.ctl ∧
      ((n.setMember s.self (.member none)).stopWaits).table =
        { s.table with members := s.table.members.set s.self (.member none) } ∧
      ((n.setMember s.self (.member none)).stopWaits).timer =
        { s.timer with joinWait := .stopped, foundWait := .stopped, imageWait := .stopped } ∧
      ((n.setMember s.self (.member none)).stopWaits).sendq = n.sendq ∧
      ((n.setMember s.self (.member none)).stopWaits).stack = s.stack ∧
      ((n.setMember s.self (.member none)).stopWaits).gate = s.gate ∧
      ((n.setMember s.self (.member none)).stopWaits).port = s.port := by
    unfold State.setMember State.stopWaits
    simp [nctl, ntable, ntimer, nstack, ngate, nport]
  generalize (n.setMember s.self (.member none)).stopWaits = j at *
  obtain ⟨jctl, jtable, jtimer, jsendq, jstack, jgate, jport⟩ := hj
  generalize hx : (if a.val < 2 then j.updateImagePending (fun ip => { ip with attempt := a }) else j.exhaust) = x at hlast
  have hxlow (h : a.val < 2) : x.ctl = s.ctl ∧ x.table.imagePending = some { ip with attempt := a } := by
    rw [← hx, if_pos h]
    exact ⟨jctl, by rw [State.updateImagePending, State.withTable_table, jtable, hip]; rfl⟩
  have hxhigh (h : ¬a.val < 2) : x.ctl = { s.ctl with exhausted := true } ∧ x.table.imagePending = some ip := by
    rw [← hx, if_neg h, State.exhaust_of_fresh (ip := ip) (by rw [jctl]; exact hex) (by rw [jtable]; exact hip), jctl, ← hsp]
    exact ⟨rfl, rfl⟩
  have hxblocks : x.table.entries = s.table.entries ∧ x.table.members = s.table.members.set s.self (.member none) ∧
      x.timer = j.timer ∧ x.sendq = n.sendq ∧ x.stack = s.stack ∧ x.gate = s.gate ∧ x.port = s.port := by
    rw [← hx]
    split
    · exact ⟨by rw [State.updateImagePending, State.withTable_table, jtable],
        by rw [State.updateImagePending, State.withTable_table, jtable], rfl, jsendq, jstack, jgate, jport⟩
    · rw [State.exhaust_of_fresh (ip := ip) (by rw [jctl]; exact hex) (by rw [jtable]; exact hip)]
      exact ⟨by rw [jtable], by rw [jtable], rfl, jsendq, jstack, jgate, jport⟩
  obtain ⟨xentries, xmembers, xtimer, xsendq, xstack, xgate, xport⟩ := hxblocks
  have hxctl : x.ctl.station = .resync ∧ x.ctl.number = s.ctl.number := by
    by_cases h : a.val < 2
    · rw [(hxlow h).1]
      exact ⟨hst, rfl⟩
    · rw [(hxhigh h).1]
      exact ⟨hst, rfl⟩
  rw [hexec x hlast hxctl.2]
  have hlx : x.listening = true := by
    rw [State.listening, hxctl.1]
    rfl
  have hshut (u : State) (h : u.ctl.station = .resync) (m : Fin 8) : u.gateCondition m = false :=
    State.gateCondition_of_not_member (by rw [h]; nofun) m
  obtain ⟨fgate, fport⟩ := State.finish_of_lawful n x fun m => by
    rw [xgate, (hg m).1, hshut s hst m, hshut x hxctl.1 m]
  obtain ⟨fctl, fentries, fmembers, -, fip, fstack, -, fcs, -, -, -, -, fimage, -⟩ := State.finish_frame n x
  obtain ⟨tctl, -, tmembers, -, tip, tcs, -, -, tstack, -⟩ := State.tested_frame n x
  have hquiet (h : NothingExpired s) : Unexpired (State.tested n x) := by
    refine unexpired_tested (fun c hc => h.1 c ?_) fun p => ?_
    · rwa [xtimer, jtimer] at hc
    · rw [xtimer, jtimer]
      exact h.2 p
  have hrelease : NoNewRelease n (State.tested n x) := fun k hk ho => by
    rw [tstack, xstack] at hk
    rw [nstack]
    exact List.any_eq_true.mpr ⟨k, hk, by rw [ho, decide_eq_true rfl]; rfl⟩
  have hroom (b : QBody) (h : GeneralRoom s b) : GeneralRoom (State.tested n x) b :=
    generalRoom_tested (generalRoom_of_sublist (hroom0 b h) (by rw [xsendq]) fun f hf => by rwa [xsendq] at hf)
  refine ⟨_, rfl, fstack.trans xstack, fentries.trans xentries, fmembers.trans xmembers, by rw [fcs, xtimer, jtimer],
    by rw [fimage, xtimer, jtimer], fgate.trans xgate, fport.trans xport, fun h => ?low, fun h => ?high⟩
  case low =>
    obtain ⟨xctl, xip⟩ := hxlow h
    refine ⟨fctl.trans xctl, fip.trans xip, fun hr' hexp => ?_⟩
    have hnone : (State.tested n x).ownTransfer = none := by
      have hown : (State.tested n x).ownRecord = .member none := by
        rw [State.ownRecord, State.recordOfStation, State.self, tctl, xctl]
        exact (congrArg (fun ms : Vector MemberRecord 16 => ms[s.self]) (tmembers.trans xmembers)).trans (Vector.getElem_set_self _)
      rw [State.ownTransfer, hown]
      rfl
    have hwanted : (State.tested n x).syncWanted = some (a + 1) := by
      rw [State.syncWanted, hnone, tctl, xctl, tip, xip, if_pos hst]
      exact if_pos ⟨hsp, by rw [hex]; rfl, h⟩
    have hsome : n.ownTransfer.isSome = true := by
      have hown : n.ownRecord = .member (some tr) := hnrecord
      rw [State.ownTransfer, hown]
      rfl
    have hrenew : ∀ k ∈ (State.tested n x).stack, k.renewalPending = true →
        n.stack.any (fun k0 => decide (k0.resource = k.resource) && k0.renewalPending) = true := fun k hk ho => by
      rw [tstack, xstack] at hk
      rw [nstack]
      exact List.any_eq_true.mpr ⟨k, hk, by rw [ho, decide_eq_true rfl]; rfl⟩
    rw [State.finish_sendq hlx, State.askAfter_sync (hquiet hexp) hrelease (by rw [tctl, xctl]; exact hex) hrenew hwanted
      (.inr ⟨hsome, by rw [hnone]; rfl⟩) (hroom _ hr')]
    simp [queuedLast]
  case high =>
    obtain ⟨xctl, xip⟩ := hxhigh (by omega)
    refine ⟨fctl.trans xctl, fip.trans xip, fun hr' hexp => ?_⟩
    rw [State.finish_sendq hlx]
    exact State.askAfter_leave (hquiet hexp) hrelease (by rw [tctl, xctl]) (by rw [nctl]; exact hex)
      (by rw [tctl]; exact hxctl.1) (hroom _ hr')

end

/-- Settles O56. -/
theorem imageApplied : Obligations.ImageApplied := by
  unfold Obligations.ImageApplied
  refine ⟨fun s v a ms ps rest tr ip hr hst hv hin htr ha hip hsp => membership_applied hr hst hv htr ha hip hsp hin,
    fun s v a r e rest tr ip hr hst hv hin htr ha hip hsp hm hr' => resource_applied hr hst hv htr ha hip hsp hin hm hr',
    fun s v a r e rest tr ip hr hst hv hin hrecord ha hip hsp hm hr' => last_part_joins hr hst hv hin hrecord ha hip hsp hm hr',
    fun s u v a last content rest tr happ hu htr ha => part_for_other happ hu htr ha,
    fun s v a r e rest tr ip hr hst hv hin hmember htr ha hip hsp hm =>
      early_resource_applied hr hst hv htr ha hip hsp hin hmember hm,
    fun s v a content rest tr ip hr hv hin hmember ha hip hsp =>
      ⟨spoiled_join hr hv hin hmember ha hip hsp, spoiled_sync hr hv hin hmember ha hip hsp⟩⟩

end Sys2Proof.Machine

/-! PROOFS. Reconciliation, record by record (R43, R81, R84 to R87, R107, R204). -/

namespace Sys2Proof.Machine

open Sys2Proof.Safety

/-! ## One record against its entry (R84, R85, R107) -/

/-- A HELD or EXPIRED record without its hold. -/
def lapsedRecord (k : Record) (g : Grant) : Option Record × List Report :=
  (some { k with state := .lapsed g }, [{ kind := .lapsed, subject := k.resource, grant := g, detail := 2 }])

/-- A record of a waiter, kept in this state where the station waits. -/
def waiterRecord (u : Station) (e : Entry) (k : Record) (kept : RecordState) : Option Record × List Report :=
  if e.hasWaiter u then (some { k with state := kept }, [])
  else
    match e.findHold u with
    | some x => (some { k with state := .held x.grant true }, [])
    | none => (none, [{ kind := .withdrawn, subject := k.resource, grant := 0, detail := 2 }])

/-- What reconciliation makes of a record of this station, and what it reports. -/
def settledRecord (u : Station) (e : Entry) (k : Record) : Option Record × List Report :=
  match k.state with
  | .held g _ => if e.holds u g then (some k, []) else lapsedRecord k g
  | .expired g => if e.holds u g then (some k, []) else lapsedRecord k g
  | .releasing g _ =>
    if e.holds u g then (some k, [])
    else (none, [{ kind := .released, subject := k.resource, grant := g, detail := 2 }])
  | .waiting => waiterRecord u e k .waiting
  | .withdrawing _ => waiterRecord u e k (.withdrawing .withdrawOwed)
  | .sending => (some k, [])
  | .lapsed _ => (some k, [])

/-- A record of a waiter is kept, made HELD with renewal pending, or popped with WITHDRAWN. -/
theorem waiterRecord_cases (u : Station) (e : Entry) (k : Record) (kept : RecordState) :
    waiterRecord u e k kept = (some { k with state := kept }, []) ∨
      (∃ g, waiterRecord u e k kept = (some { k with state := .held g true }, [])) ∨
      waiterRecord u e k kept = (none, [{ kind := .withdrawn, subject := k.resource, grant := 0, detail := 2 }]) := by
  unfold waiterRecord
  split
  · exact .inl rfl
  · split
    · exact .inr (.inl ⟨_, rfl⟩)
    · exact .inr (.inr rfl)

theorem waiterRecord_resource {u : Station} {e : Entry} {k x : Record} {kept : RecordState}
    (h : (waiterRecord u e k kept).1 = some x) : x.resource = k.resource := by
  rcases waiterRecord_cases u e k kept with hw | ⟨g, hw⟩ | hw <;> rw [hw] at h <;> cases h <;> rfl

theorem settledRecord_resource {u : Station} {e : Entry} {k x : Record} (h : (settledRecord u e k).1 = some x) :
    x.resource = k.resource := by
  unfold settledRecord lapsedRecord at h
  split at h
  · split at h <;> cases h <;> rfl
  · split at h <;> cases h <;> rfl
  · split at h <;> cases h
    rfl
  · exact waiterRecord_resource h
  · exact waiterRecord_resource h
  · cases h
    rfl
  · cases h
    rfl

/-- A record that is settled: the stack and the reports. -/
structure SettledTo (t t' : State) (below above : List Record) (result : Option Record × List Report) : Prop where
  stack : t'.stack = below ++ result.1.toList ++ above
  port : t'.port = (result.2.foldl State.raise t).port

section
variable {t : State} {below above : List Record} {k : Record} (honly : OnlyRecord t below k above)
include honly

theorem settles_kept : SettledTo t t below above (some k, []) := ⟨by simpa using honly.1, rfl⟩

theorem settles_set (st : RecordState) :
    SettledTo t (t.setRecord k.resource st) below above (some { k with state := st }, []) := by
  rw [State.setRecord_only honly st]
  exact ⟨by simp, rfl⟩

theorem settles_lapsed (g : Grant) :
    SettledTo t ((t.setRecord k.resource (.lapsed g)).report .lapsed k.resource g 2) below above (lapsedRecord k g) :=
  ⟨by simpa [lapsedRecord] using (onlyRecord_setAndReport (g := g) honly (.lapsed g) .lapsed 2).1,
    State.report_port_congr (by simp) ..⟩

theorem settles_popped (kind : ReportKind) (g : Grant) :
    SettledTo t ((t.popRecord k.resource).report kind k.resource g 2) below above
      (none, [{ kind := kind, subject := k.resource, grant := g, detail := 2 }]) :=
  ⟨by simpa using popAndReport_stack honly (g := g) kind 2, State.report_port_congr (by simp) ..⟩

/-- The settlement of a waiter's record. -/
theorem settles_waiter {kept : State} {st : RecordState}
    (hkept : SettledTo t kept below above (some { k with state := st }, [])) :
    SettledTo t (if (t.entry k.resource).hasWaiter t.self then kept
      else
        match (t.entry k.resource).findHold t.self with
        | some h => t.setRecord k.resource (.held h.grant true)
        | none => (t.popRecord k.resource).report .withdrawn k.resource 0 2) below above
      (waiterRecord t.self (t.entry k.resource) k st) := by
  unfold waiterRecord
  split
  · exact hkept
  · cases (t.entry k.resource).findHold t.self with
    | some h => exact settles_set honly _
    | none => exact settles_popped honly .withdrawn 0

theorem settleRecord_settles :
    SettledTo t (t.settleRecord k) below above (settledRecord t.self (t.entry k.resource) k) := by
  unfold State.settleRecord settledRecord
  dsimp only
  cases hk : k.state <;> dsimp only
  case held g _ =>
    split
    · exact settles_kept honly
    · exact settles_lapsed honly g
  case expired g =>
    split
    · exact settles_kept honly
    · exact settles_lapsed honly g
  case releasing g _ =>
    split
    · exact settles_kept honly
    · exact settles_popped honly .released g
  case waiting =>
    refine settles_waiter honly ?_
    have hsame : ({ k with state := .waiting } : Record) = k := by rw [← hk]
    rw [hsame]
    exact settles_kept honly
  case withdrawing => exact settles_waiter honly (settles_set honly _)
  all_goals exact settles_kept honly

end

/-! ## Every record, bottom first (R84) -/

/-- Settling a record touches the stack and the reports alone. -/
theorem stackAndReports_blocks {s t : State} (h : StackAndReports s t) : t.ctl = s.ctl ∧ t.table = s.table ∧
    t.timer = s.timer ∧ t.sendq = s.sendq ∧ t.gate = s.gate ∧ t.line = s.line := by
  obtain ⟨rs, -, ht⟩ := h
  rw [ht]
  exact foldl_keeps (R := fun s t => t.ctl = s.ctl ∧ t.table = s.table ∧ t.timer = s.timer ∧ t.sendq = s.sendq ∧
      t.gate = s.gate ∧ t.line = s.line) (fun _ => ⟨rfl, rfl, rfl, rfl, rfl, rfl⟩)
    (fun h h' => ⟨h'.1.trans h.1, h'.2.1.trans h.2.1, h'.2.2.1.trans h.2.2.1, h'.2.2.2.1.trans h.2.2.2.1,
      h'.2.2.2.2.1.trans h.2.2.2.2.1, h'.2.2.2.2.2.trans h.2.2.2.2.2⟩)
    (fun s r => by simp) rs (s.withStack t.stack)

/-- The stack after reconciliation, in terms of the entries. -/
def settledStack (u : Station) (entries : Resource → Entry) (l : List Record) : List Record :=
  l.filterMap fun k => (settledRecord u (entries k.resource) k).1

/-- The reports of the records. -/
def settledReports (u : Station) (entries : Resource → Entry) (l : List Record) : List Report :=
  l.flatMap fun k => (settledRecord u (entries k.resource) k).2

theorem settleAll_settles (l : List Record) (done : List Record) (t : State) (hstack : t.stack = done ++ l)
    (hnodup : ((done ++ l).map (·.resource)).Nodup) :
    (l.foldl State.settleRecord t).stack = done ++ settledStack t.self t.entry l ∧
      (l.foldl State.settleRecord t).port = ((settledReports t.self t.entry l).foldl State.raise t).port := by
  induction l generalizing done t with
  | nil => exact ⟨hstack, rfl⟩
  | cons k l ih =>
    have hresources := hnodup
    rw [List.map_append, List.map_cons] at hresources
    obtain ⟨-, hr, hdisjoint⟩ := List.nodup_append.mp hresources
    have honly : OnlyRecord t done k l := by
      refine ⟨hstack, fun x hx => ?_⟩
      rcases List.mem_append.mp hx with hx | hx
      · exact hdisjoint _ (List.mem_map_of_mem hx) _ List.mem_cons_self
      · exact fun h => (List.nodup_cons.mp hr).1 (h ▸ List.mem_map_of_mem hx)
    obtain ⟨sstack, sport⟩ := settleRecord_settles honly
    obtain ⟨sctl, stable, -⟩ := stackAndReports_blocks (settleRecord_stackAndReports t k)
    have hself : (t.settleRecord k).self = t.self := congrArg (·.number) sctl
    have hentry : (t.settleRecord k).entry = t.entry := funext fun r => by
      rw [State.entry, stable]
      rfl
    generalize hres : settledRecord t.self (t.entry k.resource) k = res at sstack sport
    have hkept : ((done ++ res.1.toList ++ l).map (·.resource)).Nodup := by
      refine List.Nodup.sublist ?_ hnodup
      rw [List.append_assoc, List.map_append, List.map_append, List.map_append, List.map_cons]
      refine (List.Sublist.refl _).append ?_
      cases hx : res.1 with
      | none => exact List.sublist_cons_self _ _
      | some x =>
        have hxk : x.resource = k.resource := settledRecord_resource (by rw [hres, hx])
        rw [Option.toList_some, List.map_singleton, List.singleton_append, hxk]
    obtain ⟨istack, iport⟩ := ih (done ++ res.1.toList) (t.settleRecord k) sstack hkept
    rw [hself, hentry] at istack iport
    refine ⟨?_, ?_⟩
    · rw [List.foldl_cons, istack, settledStack, settledStack, List.filterMap_cons, hres, List.append_assoc]
      cases res.1 <;> rfl
    · rw [List.foldl_cons, iport, settledReports, settledReports, List.flatMap_cons, hres, List.foldl_append]
      exact State.foldl_raise_port_congr sport _

/-! ## What no record matches (R86, R104) -/

/-- A hold or a waiter of the station that no record of the stack accounts for. -/
def Unmatched (u : Station) (entries : Resource → Entry) (stack : List Record) : Prop :=
  ∃ r : Resource,
    (∃ x ∈ (entries r).holders, x.station = u ∧ ∀ k ∈ stack, k.resource = r →
      (∀ p, k.state ≠ .held x.grant p) ∧ k.state ≠ .expired x.grant ∧ ∀ p, k.state ≠ .releasing x.grant p) ∨
    ((entries r).hasWaiter u = true ∧ ∀ k ∈ stack, k.resource = r → k.state ≠ .waiting ∧ ∀ w, k.state ≠ .withdrawing w)

theorem recordHolds_false {s : State} {r : Resource} {g : Grant} : s.recordHolds r g = false ↔
    ∀ k ∈ s.stack, k.resource = r →
      (∀ p, k.state ≠ .held g p) ∧ k.state ≠ .expired g ∧ ∀ p, k.state ≠ .releasing g p := by
  unfold State.recordHolds
  rw [List.any_eq_false]
  refine forall₂_congr fun k _ => ?_
  by_cases hr : k.resource = r
  · cases hk : k.state <;> simp [hr]
  · simp [hr]

theorem recordWaits_false {s : State} {r : Resource} : s.recordWaits r = false ↔
    ∀ k ∈ s.stack, k.resource = r → k.state ≠ .waiting ∧ ∀ w, k.state ≠ .withdrawing w := by
  unfold State.recordWaits
  rw [List.any_eq_false]
  refine forall₂_congr fun k _ => ?_
  by_cases hr : k.resource = r
  · cases hk : k.state <;> simp [hr]
  · simp [hr]

theorem unmatched_iff (s : State) : s.unmatched = true ↔ Unmatched s.self s.entry s.stack := by
  unfold State.unmatched Unmatched
  rw [List.any_eq_true]
  simp only [mem_all16, true_and, Bool.or_eq_true, List.any_eq_true, Bool.and_eq_true, decide_eq_true_eq,
    Bool.not_eq_true', recordHolds_false, recordWaits_false]

/-! ## Exhausted, or MEMBER (R86, R87, R204) -/

/-- The report of a station that has reconciled. -/
def resyncDoneReport : Report := { kind := .resyncDone, subject := 0, grant := 0, detail := 0 }

section
variable {j : State} (hs : StackLaw j)
include hs

/-- The records of a station in RESYNC, all settled. -/
theorem settled_spec : (j.stack.foldl State.settleRecord j).stack = settledStack j.self j.entry j.stack ∧
    (j.stack.foldl State.settleRecord j).port = ((settledReports j.self j.entry j.stack).foldl State.raise j).port ∧
    ((j.stack.foldl State.settleRecord j).unmatched = true ↔
      Unmatched j.self j.entry (settledStack j.self j.entry j.stack)) := by
  obtain ⟨hstack, hport⟩ := settleAll_settles j.stack [] j rfl (stackLaw_resource_nodup hs)
  obtain ⟨hctl, htable, -⟩ := stackAndReports_blocks (settleAll_stackAndReports j.stack j)
  refine ⟨hstack, hport, ?_⟩
  rw [unmatched_iff, hstack]
  have hself : (j.stack.foldl State.settleRecord j).self = j.self := congrArg (·.number) hctl
  have hentry : (j.stack.foldl State.settleRecord j).entry = j.entry := funext fun r => by
    rw [State.entry, htable]
    rfl
  rw [hself, hentry]
  rfl

/-- Where a hold or a waiter is left over, the station is exhausted (R86, R204). -/
theorem reconcile_unmatched (hex : j.ctl.exhausted = false)
    (h : Unmatched j.self j.entry (settledStack j.self j.entry j.stack)) :
    j.reconcile.ctl = { j.ctl with exhausted := true } ∧
      j.reconcile.table = { j.table with imagePending := j.table.imagePending.map fun ip => { ip with spoiled := true } } ∧
      j.reconcile.timer = j.timer ∧ j.reconcile.sendq = j.sendq ∧ j.reconcile.gate = j.gate ∧
      j.reconcile.line = j.line ∧ j.reconcile.stack = settledStack j.self j.entry j.stack ∧
      j.reconcile.port = ((settledReports j.self j.entry j.stack).foldl State.raise j).port := by
  obtain ⟨hstack, hport, hiff⟩ := settled_spec hs
  obtain ⟨hctl, htable, htimer, hsendq, hgate, hline⟩ := stackAndReports_blocks (settleAll_stackAndReports j.stack j)
  unfold State.reconcile
  generalize j.stack.foldl State.settleRecord j = w at *
  dsimp only
  rw [if_pos (hiff.mpr h), State.exhaust, if_neg (by rw [hctl, hex]; nofun)]
  exact ⟨by rw [← hctl]; rfl, by rw [← htable]; rfl, htimer, hsendq, hgate, hline, hstack, hport⟩

/-- Else it is MEMBER, with RESYNC_DONE, its gates as R113 says (R87). -/
theorem reconcile_matched (hclosed : ∀ m : Fin 8, j.gate[m].opened = false ∧ j.gate[m].armed = false)
    (h : ¬Unmatched j.self j.entry (settledStack j.self j.entry j.stack)) :
    j.reconcile.ctl = { j.ctl with station := .member, exhausted := false } ∧
      j.reconcile.table = { j.table with imagePending := none } ∧
      j.reconcile.timer = { j.timer with joinWait := .stopped, foundWait := .stopped, imageWait := .stopped } ∧
      j.reconcile.sendq = j.sendq ∧ j.reconcile.line = j.line ∧
      j.reconcile.stack = settledStack j.self j.entry j.stack ∧
      j.reconcile.port = ((settledReports j.self j.entry j.stack ++
        [resyncDoneReport]).foldl State.raise j).port ∧
      ∀ m : Fin 8, j.reconcile.gate[m].armed = false ∧ j.reconcile.gate[m].opened = j.reconcile.gateCondition m := by
  obtain ⟨hstack, hport, hiff⟩ := settled_spec hs
  obtain ⟨hctl, htable, htimer, hsendq, hgate, hline⟩ := stackAndReports_blocks (settleAll_stackAndReports j.stack j)
  unfold State.reconcile
  generalize j.stack.foldl State.settleRecord j = w at *
  dsimp only
  rw [if_neg (mt hiff.mp h)]
  generalize hx : (((w.withCtl { w.ctl with station := .member, exhausted := false }).stopWaits).withTable
    { w.table with imagePending := none }).raise { kind := .resyncDone, subject := 0, grant := 0, detail := 0 } = x
  have hxport : x.port = ((settledReports j.self j.entry j.stack ++
      [resyncDoneReport]).foldl State.raise j).port := by
    rw [← hx, List.foldl_append]
    exact State.raise_port_congr (s := ((w.withCtl { w.ctl with station := .member, exhausted := false }).stopWaits).withTable
      { w.table with imagePending := none }) hport _
  have hxblocks : x.ctl = { j.ctl with station := .member, exhausted := false } ∧
      x.table = { j.table with imagePending := none } ∧
      x.timer = { j.timer with joinWait := .stopped, foundWait := .stopped, imageWait := .stopped } ∧
      x.sendq = j.sendq ∧ x.line = j.line ∧ x.stack = settledStack j.self j.entry j.stack ∧ x.gate = j.gate := by
    rw [← hx]
    simp [State.stopWaits, hctl, htable, htimer, hsendq, hline, hstack, hgate]
  obtain ⟨xctl, xtable, xtimer, xsendq, xline, xstack, xgate⟩ := hxblocks
  have hopen := openLaw_evalGates x 3
  obtain ⟨ectl, etable, etimer, esendq, estack, -, eline, -⟩ := x.evalGates_frame 3
  refine ⟨ectl.trans xctl, etable.trans xtable, etimer.trans xtimer, esendq.trans xsendq, eline.trans xline, estack.trans xstack,
    ?_, fun m => ⟨?_, hopen m⟩⟩
  · rw [evalGates_port_of_high fun m => goutLow_of_closed (by rw [xgate]; exact (hclosed m).1)]
    exact hxport
  · rw [State.evalGates_gate, xgate]
    dsimp only
    rw [(hclosed m).2]
    exact ite_self _

end

/-! ## Requests of a station that stays in RESYNC (R55, R60) -/

section
variable {s0 s : State} {f : QFrame}

/-- A LAPSE of another station's hold, or an EVICT. -/
def ForOthers (u : Station) (b : QBody) : Prop := (∃ p, b = .evict p) ∨ ∃ r h g, h ≠ u ∧ b = .lapse r h g

/-- In RESYNC no LAPSE of another station's hold and no EVICT is asked for. -/
theorem mem_askExpired_of_not_member (hst : s.ctl.station ≠ .member) (h : f ∈ s.askExpired.sendq.frames)
    (hb : ForOthers s.self f.body) : f ∈ s.sendq.frames := by
  unfold State.askExpired at h
  rw [State.askEvicts_none fun p => State.evictWanted_not_member hst p] at h
  dsimp only at h
  generalize s.expiredCountdowns = l at h
  induction l generalizing s with
  | nil => exact h
  | cons c l ih =>
    rw [List.foldl_cons] at h
    obtain ⟨added, hadded, -⟩ := s.askLapse_addsFrames c
    have hmem : f ∈ (s.askLapse c).sendq.frames := by
      refine ih ?_ ?_ h
      · rw [hadded]
        exact hst
      · rw [hadded]
        exact hb
    unfold State.askLapse at hmem
    split at hmem
    next hwanted =>
      refine (State.mem_request hmem).resolve_right fun hbody => ?_
      have hholder : c.holder = s.self := by
        by_contra hne
        rw [State.lapseWanted, if_neg hne, decide_eq_false hst, Bool.and_false] at hwanted
        cases hwanted
      rcases hb with ⟨p, hb⟩ | ⟨r, x, g, hne, hb⟩ <;> rw [hbody] at hb <;> cases hb
      exact hne hholder
    next => exact hmem

end

end Sys2Proof.Machine

/-! PROOFS. The two applications that end in reconciliation (R43, R81, R84 to R87, R107, R204). -/

namespace Sys2Proof.Machine

open Sys2Proof.Safety

/-! ## The requests -/

section
variable {s0 s : State} {f : QFrame}

theorem mem_askAfter_of_not_member (hst : s.ctl.station ≠ .member) (h : f ∈ (State.askAfter s0 s).sendq.frames)
    (hb : ForOthers s.self f.body) : f ∈ s.sendq.frames := by
  have hother {b : QBody} (hbody : f.body = b) (hn : ¬ForOthers s.self b) : False := hn (hbody ▸ hb)
  rw [State.askAfter_eq] at h
  replace h := (State.mem_askNewSync h).resolve_right fun ⟨_, a, hbody⟩ => hother hbody (by simp [ForOthers])
  replace h := (State.mem_askNewRenew h).resolve_right fun hbody => hother hbody (by simp [ForOthers])
  replace h := (State.mem_askNewLeave h).resolve_right fun hbody => hother hbody (by simp [ForOthers])
  replace h := (State.mem_askNewReleases h).resolve_right fun ⟨r, g, hbody⟩ => hother hbody (by simp [ForOthers])
  obtain ⟨i, hi, -⟩ := s.placeImage_addsFrames
  have hplaced : s.placeImage.ctl = s.ctl := by rw [hi]
  have hafter : State.askExpiredAfter s0 s.placeImage = s.placeImage.askExpired :=
    if_neg fun h => hst (by rw [← hplaced]; exact h.2)
  rw [hafter] at h
  have hbase := mem_askExpired_of_not_member (by rw [hplaced]; exact hst) h (by rw [State.self, hplaced]; exact hb)
  refine (State.mem_placeImage hbase).resolve_right fun himage => ?_
  rcases hb with ⟨p, hb⟩ | ⟨r, x, g, -, hb⟩ <;> rw [hb] at himage <;> cases himage

/-- The application that reconciles asks for no LAPSE of another station's hold and for no EVICT (R87). -/
theorem mem_finish_of_reconciled (hl : s.listening = true) (hst0 : s0.ctl.station = .resync)
    (h : f ∈ (State.finish s0 s).sendq.frames) (hb : ForOthers s.self f.body) : f ∈ s.sendq.frames := by
  by_cases hst : s.ctl.station = .member
  · refine ((State.mem_finish hl h).imp_left And.left).resolve_right fun hasked => ?_
    rcases hb with ⟨p, hb⟩ | ⟨r, x, g, hne, hb⟩ <;> rw [hb] at hasked
    · exact hasked ⟨hst0, hst⟩
    · exact hne (hasked.2 ⟨hst0, hst⟩)
  · rw [State.finish_sendq hl] at h
    have hctl := (State.tested_frame s0 s).1
    refine (State.tested_sublist s0 s).subset (mem_askAfter_of_not_member (by rw [hctl]; exact hst) h ?_)
    rw [State.self, hctl]
    exact hb

end

/-! ## The state before reconciliation, and after it -/

/-- The state j of an application that began in n, at s, with these entries and its own record settled. -/
structure Reconciling (s n j : State) (entries : Resource → Entry) (rest : List Notice) : Prop where
  began : n.ctl = s.ctl ∧ n.stack = s.stack
  ctl : j.ctl = s.ctl
  members : j.table.members = s.table.members.set s.self (.member none)
  bank : j.table.bank = s.table.bank
  entry : ∀ r, j.entry r = entries r
  line : j.line = { s.line with inbound := rest }
  gate : j.gate = s.gate
  stack : j.stack = s.stack
  port : j.port = s.port
  frames : j.sendq.frames = s.sendq.frames
  awaiting : ∀ f, j.sendq.awaiting = some f → s.sendq.awaiting = some f
  unexpired : NothingExpired s → NoneExpired j ∧ ∀ p : Station, j.timer.silence[p] ≠ .expired

theorem settledStack_releasing {u : Station} {entries : Resource → Entry} {l : List Record} {k : Record}
    (hk : k ∈ settledStack u entries l) (ho : k.owesRelease = true) : k ∈ l := by
  obtain ⟨x, hx, hres⟩ := List.mem_filterMap.mp hk
  have hsame : k = x := by
    unfold settledRecord lapsedRecord at hres
    cases hst : x.state <;> rw [hst] at hres <;> dsimp only at hres
    case waiting =>
      rcases waiterRecord_cases u (entries x.resource) x .waiting with h | ⟨g, h⟩ | h <;> rw [h] at hres <;> cases hres <;> cases ho
    case withdrawing =>
      rcases waiterRecord_cases u (entries x.resource) x (.withdrawing .withdrawOwed) with h | ⟨g, h⟩ | h <;>
        rw [h] at hres <;> cases hres <;> cases ho
    all_goals grind [Record.owesRelease]
  rw [hsame]
  exact hx

theorem closed_of_gateLaw {s : State} (hg : GateLaw s) (hst : s.ctl.station ≠ .member) (m : Fin 8) :
    s.gate[m].opened = false ∧ s.gate[m].armed = false := by
  obtain ⟨ho, ha⟩ := hg m
  rw [State.gateCondition_of_not_member hst] at ho
  rw [ho] at ha
  exact ⟨ho, Bool.eq_false_iff.mpr fun h => absurd (ha h) nofun⟩

/-- In a lawful stack a record is the one of its resource (R89). -/
theorem recordOf_of_mem {s : State} (hs : StackLaw s) {k : Record} (hk : k ∈ s.stack) : s.recordOf k.resource = some k := by
  cases hfind : s.recordOf k.resource with
  | none => exact absurd rfl (State.recordOf_eq_none.mp hfind k hk)
  | some k' =>
    obtain ⟨hk', hres⟩ := State.mem_of_recordOf hfind
    rw [List.inj_on_of_nodup_map (stackLaw_resource_nodup hs) hk' hk hres]

section
variable {s n j : State} {entries : Resource → Entry} {rest : List Notice} (hj : Reconciling s n j entries rest)
include hj

theorem reconciling_self (hs : StackLaw s) : j.self = s.self ∧ j.entry = entries ∧ StackLaw j :=
  ⟨congrArg (·.number) hj.ctl, funext hj.entry, by
    unfold StackLaw
    rw [hj.stack]
    exact hs⟩

/-- The requests of a reconciliation: nothing is expired, no new record is RELEASING. -/
theorem reconciling_quiet {w : State} (hcs : w.timer.countdowns = j.timer.countdowns)
    (hsilence : w.timer.silence = j.timer.silence) (hsendq : w.sendq = j.sendq)
    (hstack : w.stack = settledStack s.self entries s.stack) :
    (NothingExpired s → Unexpired (State.tested n w)) ∧ NoNewRelease n (State.tested n w) ∧
      ∀ b, GeneralRoom s b → GeneralRoom (State.tested n w) b := by
  refine ⟨fun h => ?_, fun k hk ho => ?_, fun b h => ?_⟩
  · obtain ⟨hnone, hsil⟩ := hj.unexpired h
    refine unexpired_tested (fun c hc => hnone c (hcs ▸ hc)) fun p => ?_
    rw [hsilence]
    exact hsil p
  · rw [(State.tested_frame n w).2.2.2.2.2.2.2.2.1, hstack] at hk
    rw [hj.began.2]
    exact List.any_eq_true.mpr ⟨k, settledStack_releasing hk ho, by rw [ho, decide_eq_true rfl]; rfl⟩
  · refine generalRoom_tested (generalRoom_of_sublist h ?_ fun f hf => hj.awaiting f (by rw [← hsendq]; exact hf))
    rw [hsendq, hj.frames]

/-- The reports of a reconciliation that find room. -/
theorem reconciling_reports {w : State} {rs : List Report} (hport : w.port = (rs.foldl State.raise j).port)
    (hfits : s.port.reports.length + rs.length ≤ 16) : w.port.reports = s.port.reports ++ rs := by
  rw [hport, State.foldl_raise_port_congr hj.port, State.foldl_raise _ _ (by omega),
    HostPort.queueAll_of_fits (by rw [List.length_append]; exact hfits)]
  rfl

variable (hst : s.ctl.station = .resync) (hex : s.ctl.exhausted = false) (hs : StackLaw s) (hg : GateLaw s)
include hst hex hs hg

/-- What both ends of a reconciliation have in common. -/
theorem reconciling_common :
    (State.finish n j.reconcile).stack = settledStack s.self entries s.stack ∧
      (∀ r, (State.finish n j.reconcile).entry r = entries r) ∧
      (State.finish n j.reconcile).table.bank = s.table.bank ∧
      (State.finish n j.reconcile).table.members = s.table.members.set s.self (.member none) ∧
      (State.finish n j.reconcile).line = { s.line with inbound := rest } ∧
      (∀ f ∈ (State.finish n j.reconcile).sendq.frames, ForOthers s.self f.body → f ∈ s.sendq.frames) := by
  obtain ⟨hself, hentry, hsj⟩ := reconciling_self hj hs
  have hblocks : j.reconcile.stack = settledStack s.self entries s.stack ∧ j.reconcile.table.entries = j.table.entries ∧
      j.reconcile.table.bank = j.table.bank ∧ j.reconcile.table.members = j.table.members ∧
      j.reconcile.line = j.line ∧ j.reconcile.sendq = j.sendq ∧ j.reconcile.ctl.number = s.ctl.number ∧
      j.reconcile.listening = true := by
    by_cases hun : Unmatched j.self j.entry (settledStack j.self j.entry j.stack)
    · obtain ⟨hctl, htable, -, hsendq, -, hline, hstack, -⟩ := reconcile_unmatched hsj (by rw [hj.ctl]; exact hex) hun
      rw [hstack, htable, hline, hsendq, State.listening, hctl, hself, hentry, hj.stack, hj.ctl, hst]
      exact ⟨rfl, rfl, rfl, rfl, rfl, rfl, rfl, rfl⟩
    · obtain ⟨hctl, htable, -, hsendq, hline, hstack, -⟩ := reconcile_matched hsj (by
        rw [hj.gate]
        exact closed_of_gateLaw hg (by rw [hst]; nofun)) hun
      rw [hstack, htable, hline, hsendq, State.listening, hctl, hself, hentry, hj.stack, hj.ctl]
      exact ⟨rfl, rfl, rfl, rfl, rfl, rfl, rfl, rfl⟩
  generalize j.reconcile = w at *
  obtain ⟨wstack, wentries, wbank, wmembers, wline, wsendq, wnumber, hlw⟩ := hblocks
  obtain ⟨-, fentries, fmembers, fbank, -, fstack, fline, -⟩ := State.finish_frame n w
  refine ⟨fstack.trans wstack, fun r => ?_, fbank.trans (wbank.trans hj.bank), fmembers.trans (wmembers.trans hj.members),
    fline.trans (wline.trans hj.line), fun f hf hb => ?_⟩
  · rw [State.finish_entry, State.entry, wentries]
    exact hj.entry r
  · have hmem := mem_finish_of_reconciled hlw (by rw [hj.began.1]; exact hst) hf (by rw [State.self, wnumber]; exact hb)
    rw [wsendq, hj.frames] at hmem
    exact hmem

/-- A hold or a waiter is left over: the station is exhausted, and asks for a LEAVE. -/
theorem reconciling_unmatched (hun : Unmatched s.self entries (settledStack s.self entries s.stack)) :
    (s.port.reports.length + (settledReports s.self entries s.stack).length ≤ 16 →
      (State.finish n j.reconcile).port.reports = s.port.reports ++ settledReports s.self entries s.stack) ∧
    (State.finish n j.reconcile).ctl = { s.ctl with exhausted := true } ∧ (State.finish n j.reconcile).gate = s.gate ∧
    (∀ ip, (State.finish n j.reconcile).table.imagePending = some ip → ip.spoiled = true) ∧
    (GeneralRoom s .leave → NothingExpired s → generalFrame .leave ∈ (State.finish n j.reconcile).sendq.frames) := by
  obtain ⟨hself, hentry, hsj⟩ := reconciling_self hj hs
  obtain ⟨hctl, htable, htimer, hsendq, hgate, -, hstack, hport⟩ := reconcile_unmatched hsj (by rw [hj.ctl]; exact hex)
    (by rw [hself, hentry, hj.stack]; exact hun)
  rw [hself, hentry, hj.stack] at hstack hport
  rw [hj.ctl] at hctl
  rw [hj.gate] at hgate
  generalize j.reconcile = w at *
  have hlw : w.listening = true := by
    rw [State.listening, hctl, hst]
    rfl
  obtain ⟨fgate, fport⟩ := State.finish_of_lawful n w fun m => by
    rw [hgate, (hg m).1, State.gateCondition_of_not_member (by rw [hst]; nofun),
      State.gateCondition_of_not_member (by rw [hctl, hst]; nofun)]
  obtain ⟨fctl, -, -, -, fip, -⟩ := State.finish_frame n w
  obtain ⟨hquiet, hrelease, hroom⟩ := reconciling_quiet hj (w := w) (by rw [htimer]) (by rw [htimer]) hsendq hstack
  refine ⟨fun hfits => ?_, fctl.trans hctl, fgate.trans hgate, fun ip hip => ?_, fun hr hexp => ?_⟩
  · rw [fport]
    exact reconciling_reports hj hport hfits
  · rw [fip, htable] at hip
    obtain ⟨ip', -, rfl⟩ := Option.map_eq_some_iff.mp hip
    rfl
  · rw [State.finish_sendq hlw]
    have tctl := (State.tested_frame n w).1
    exact State.askAfter_leave (hquiet hexp) hrelease (by rw [tctl, hctl]) (by rw [hj.began.1]; exact hex)
      (by rw [tctl, hctl]; exact hst) (hroom _ hr)

/-- Every hold and waiter is accounted for: the station is MEMBER, its gates as R113 says. -/
theorem reconciling_matched (hun : ¬Unmatched s.self entries (settledStack s.self entries s.stack)) :
    (s.port.reports.length + (settledReports s.self entries s.stack).length < 16 →
      (State.finish n j.reconcile).port.reports =
        s.port.reports ++ settledReports s.self entries s.stack ++ [resyncDoneReport]) ∧
    (State.finish n j.reconcile).ctl = { s.ctl with station := .member } ∧
    (State.finish n j.reconcile).table.imagePending = none ∧ (State.finish n j.reconcile).timer.imageWait = .stopped ∧
    (∀ f ∈ (State.finish n j.reconcile).sendq.frames, f.phase = .queued → ∀ a, f.body ≠ .sync a) ∧
    (∀ m : Fin 8, (State.finish n j.reconcile).gate[m].armed = false ∧ ((State.finish n j.reconcile).gate[m].opened = true ↔
      ∃ k g ms, k ∈ settledStack s.self entries s.stack ∧ k.resource = channelResource m ∧ k.state = .held g false ∧
        (State.finish n j.reconcile).countdown k.resource s.self g = .running ms)) ∧
    ((∃ k ∈ s.stack, ∃ x, (settledRecord s.self (entries k.resource) k).1 = some { k with state := .held x true } ∧
        ∀ y p, k.state ≠ .held y p) →
      GeneralRoom s .renew → NothingExpired s → generalFrame .renew ∈ (State.finish n j.reconcile).sendq.frames) := by
  obtain ⟨hself, hentry, hsj⟩ := reconciling_self hj hs
  have hlaw : StackLaw j.reconcile := by
    rcases reconcile_cases j with h | ⟨-, -, -, hcore⟩
    · exact (reconcile_keeps (by rw [hj.ctl]; exact hst)).stack hsj
    · exact hcore.stack hsj
  obtain ⟨hctl, htable, htimer, hsendq, -, hstack, hport, hgates⟩ := reconcile_matched hsj (by
    rw [hj.gate]
    exact closed_of_gateLaw hg (by rw [hst]; nofun)) (by rw [hself, hentry, hj.stack]; exact hun)
  rw [hself, hentry, hj.stack] at hstack hport
  rw [hj.ctl, ← hex] at hctl
  generalize j.reconcile = w at *
  have hlw : w.listening = true := by
    rw [State.listening, hctl]
    rfl
  obtain ⟨fgate, fport⟩ := State.finish_of_lawful n w fun m => (hgates m).2
  obtain ⟨fctl, -, -, -, fip, -, -, fcs, -, -, -, -, fimage, -⟩ := State.finish_frame n w
  obtain ⟨hquiet, hrelease, hroom⟩ := reconciling_quiet hj (w := w) (by rw [htimer]) (by rw [htimer]) hsendq hstack
  obtain ⟨tctl, -, -, -, -, -, -, -, tstack, -⟩ := State.tested_frame n w
  have hwself : w.self = s.self := congrArg (·.number) hctl
  refine ⟨fun hfits => ?_, fctl.trans hctl, fip.trans (by rw [htable]), fimage.trans (by rw [htimer]),
    fun f hf hq a hb => ?_, fun m => ⟨by rw [fgate]; exact (hgates m).1, ?_⟩, ?_⟩
  · rw [fport, List.append_assoc]
    refine reconciling_reports hj hport ?_
    rw [List.length_append, List.length_singleton]
    omega
  · rcases State.mem_finish hlw hf with ⟨-, hstale⟩ | hasked
    · refine hstale hq (.inr ?_)
      rw [hb, State.stateStale, tctl, hctl]
      rfl
    · rw [hb] at hasked
      exact absurd (show w.ctl.station = .resync from hasked) (by rw [hctl]; nofun)
  · rw [fgate, (hgates m).2, State.gateCondition_iff, ← hstack, ← hwself]
    simp only [State.finish_countdown]
    constructor
    · rintro ⟨-, k, g, ms, hk, hheld, hrun⟩
      obtain ⟨hmem, hres⟩ := State.mem_of_recordOf hk
      exact ⟨k, g, ms, hmem, hres, hheld, by rw [hres]; exact hrun⟩
    · rintro ⟨k, g, ms, hmem, hres, hheld, hrun⟩
      refine ⟨by rw [hctl], k, g, ms, ?_, hheld, by rw [← hres]; exact hrun⟩
      rw [← hres]
      exact recordOf_of_mem hlaw hmem
  · rintro ⟨k, hk, x, hx, hnot⟩ hr hexp
    rw [State.finish_sendq hlw]
    refine State.askAfter_renew (hquiet hexp) hrelease (by rw [tctl, hctl]; exact hex) (k := { k with state := .held x true })
      (by rw [tstack, hstack]; exact List.mem_filterMap.mpr ⟨k, hk, hx⟩) rfl ?_ (hroom _ hr)
    rw [hj.began.2, List.any_eq_false]
    intro k0 hk0 hboth
    obtain ⟨hres, hpending⟩ := Bool.and_eq_true_iff.mp hboth
    have hsame : k0 = k := List.inj_on_of_nodup_map (stackLaw_resource_nodup hs) hk0 hk (of_decide_eq_true hres)
    subst hsame
    unfold Record.renewalPending at hpending
    split at hpending
    next hheld => exact hnot _ _ hheld
    next => cases hpending

end

/-! ## The two applications -/

theorem reconcile_number (s : State) : s.reconcile.ctl.number = s.ctl.number := by
  rcases reconcile_cases s with h | ⟨h, -⟩
  · rw [h, exhaust_ctl, (settleAll_frame s).1]
  · rw [h]

theorem completeResync_reconciles {s : State} {a : Fin 4} {ip : ImagePending} (hip : s.table.imagePending = some ip)
    (hsp : ip.spoiled = false) :
    s.completeResync a = ((s.setMember s.self (.member none)).stopWaits).reconcile := by
  unfold State.completeResync
  rw [hip]
  dsimp only
  rw [hsp]
  rfl

/-- A part brings no expired countdown (R52). -/
theorem noneExpired_installEntry {s : State} (h : NoneExpired s) (r : Resource) (e : Entry) :
    NoneExpired (s.installEntry r e) := fun c hc => by
  rcases List.mem_append.mp hc with hc | hc
  · exact h c (List.mem_of_mem_filter hc)
  · obtain ⟨x, -, rfl⟩ := List.mem_map.mp hc
    nofun

/-- The last part of an image that is not spoiled, at a station in RESYNC. -/
theorem reconciling_image {s : State} {rest : List Notice} {entries : Resource → Entry} {v : Station} {r : Resource}
    {e : Entry} {tr : Transfer} {ip : ImagePending} (hr : s.ctl.inReset = false) (hst : s.ctl.station = .resync)
    (hv : v ≠ s.self)
    (hin : s.line.inbound = { sender := v, body := .image s.self tr.attempt true (.resource r e) } :: rest)
    (hrecord : s.table.members[s.self] = .member (some tr)) (hip : s.table.imagePending = some ip)
    (hsp : ip.spoiled = false) (hm : ip.membershipInstalled = true) (hr' : r.val < s.count)
    (hentries : ∀ r', entries r' = if r' = r then e else s.entry r') :
    ∃ n j, Reconciling s n j entries rest ∧ exec .applyImage s = .next (State.finish n j.reconcile) := by
  rw [exec_applyImage hr (listening_of_target (.inr hst)) hin]
  generalize hn : ({ sender := v, body := .image s.self tr.attempt true (.resource r e) } : Notice) = n
  have hbank : (s.takeNotice n rest).table.bank ≠ none := fun h => by
    have hcount : s.count = 0 := by
      have h' : s.table.bank = none := h
      rw [State.count, h']
    omega
  rw [State.evidence_of_bank n hbank]
  have hattempt : (s.takeNotice n rest).ownTransfer.map (·.attempt) = some tr.attempt := by
    have hold : (s.takeNotice n rest).ownTransfer = some tr := congrArg MemberRecord.transfer hrecord
    rw [hold]
    rfl
  have hinstall := installPart_resource (s := s.takeNotice n rest) (last := true) (.inr hst) hattempt hip hsp r e hm hr'
  replace hinstall : (s.takeNotice n rest).installPart s.self tr.attempt true (.resource r e) =
    (s.takeNotice n rest).installEntry r e := hinstall
  have hentry := installEntry_entry (s.takeNotice n rest) r e
  have hnone := noneExpired_installEntry (s := s.takeNotice n rest) (r := r) (e := e)
  have hblocks : ((s.takeNotice n rest).installEntry r e).ctl = s.ctl ∧
      ((s.takeNotice n rest).installEntry r e).table.members = s.table.members ∧
      ((s.takeNotice n rest).installEntry r e).table.bank = s.table.bank ∧
      ((s.takeNotice n rest).installEntry r e).table.imagePending =
        some { ip with installed := ip.installed.set r true } ∧
      ((s.takeNotice n rest).installEntry r e).timer.silence = s.timer.silence ∧
      ((s.takeNotice n rest).installEntry r e).sendq = (s.takeNotice n rest).sendq ∧
      ((s.takeNotice n rest).installEntry r e).stack = s.stack ∧
      ((s.takeNotice n rest).installEntry r e).gate = s.gate ∧
      ((s.takeNotice n rest).installEntry r e).line = { s.line with inbound := rest } ∧
      ((s.takeNotice n rest).installEntry r e).port = s.port := by
    unfold State.installEntry State.updateImagePending
    simp [hip]
  unfold State.imageEffects
  dsimp only
  rw [hinstall]
  generalize (s.takeNotice n rest).installEntry r e = w at *
  obtain ⟨wctl, wmembers, wbank, wip, wsilence, wsendq, wstack, wgate, wline, wport⟩ := hblocks
  have hself : w.self = s.self := congrArg (·.number) wctl
  have hlast := lastEffects_own_sync (s := w) (a := tr.attempt) (by simpa only [wmembers, hself] using hrecord) rfl
    (by rw [wctl]; exact hst)
  rw [hself, completeResync_reconciles wip hsp, hself] at hlast
  have hj : ((w.setMember s.self (.member none)).stopWaits).ctl = s.ctl ∧
      ((w.setMember s.self (.member none)).stopWaits).table =
        { w.table with members := w.table.members.set s.self (.member none) } ∧
      ((w.setMember s.self (.member none)).stopWaits).timer.countdowns = w.timer.countdowns ∧
      ((w.setMember s.self (.member none)).stopWaits).timer.silence = s.timer.silence ∧
      ((w.setMember s.self (.member none)).stopWaits).sendq = (s.takeNotice n rest).sendq ∧
      ((w.setMember s.self (.member none)).stopWaits).stack = s.stack ∧
      ((w.setMember s.self (.member none)).stopWaits).gate = s.gate ∧
      ((w.setMember s.self (.member none)).stopWaits).line = { s.line with inbound := rest } ∧
      ((w.setMember s.self (.member none)).stopWaits).port = s.port := by
    unfold State.setMember State.stopWaits
    simp [wctl, wsilence, wsendq, wstack, wgate, wline, wport]
  generalize (w.setMember s.self (.member none)).stopWaits = j at *
  obtain ⟨jctl, jtable, jcs, jsilence, jsendq, jstack, jgate, jline, jport⟩ := hj
  have hjself : v ≠ j.reconcile.self := by
    rw [State.self, reconcile_number, jctl]
    exact hv
  rw [if_pos rfl, hlast, advanceTransfer_other hjself]
  refine ⟨s.takeNotice n rest, j, ⟨⟨rfl, rfl⟩, jctl, by rw [jtable, wmembers], by rw [jtable, wbank], fun r' => ?_, jline, jgate,
    jstack, jport, by rw [jsendq]; rfl, fun f hf => ?_, fun h => ⟨fun c hc => ?_, fun p => ?_⟩⟩, rfl⟩
  · rw [State.entry, jtable, hentries]
    exact hentry r'
  · rw [jsendq] at hf
    replace hf : (if n.sender = s.self then none else s.sendq.awaiting) = some f := hf
    split at hf
    · cases hf
    · exact hf
  · exact hnone h.1 c (jcs ▸ hc)
  · rw [jsilence]
    exact h.2 p

/-- The station's own SYNC that finds no source. -/
theorem reconciling_sync {s : State} {rest : List Notice} {ab : Byte} {a : Fin 4} (hr : s.ctl.inReset = false)
    (hst : s.ctl.station = .resync) (hin : s.line.inbound = { sender := s.self, body := .sync ab } :: rest)
    (ha : a.val = ab.toNat) (hle : a.val ≤ 2) (hm : s.table.members[s.self].isMember = true)
    (hnone : chooseSource s.table.members s.self a = none) :
    ∃ n j, Reconciling s n j s.entry rest ∧ exec .applySync s = .next (State.finish n j.reconcile) := by
  rw [exec_applySync hr (by rw [hst]; rfl) hin]
  have heffects := syncEffects_self (s := s.takeNotice { sender := s.self, body := .sync ab } rest) (attemptOf_of ha hle) hm
  replace heffects : (s.takeNotice { sender := s.self, body := .sync ab } rest).syncEffects s.self ab =
    ((s.takeNotice { sender := s.self, body := .sync ab } rest).setMember s.self
      (syncRecord a (chooseSource s.table.members s.self a))).ownSyncApplied a (chooseSource s.table.members s.self a) :=
    heffects
  rw [hnone, ownSyncApplied_none a (by exact hst)] at heffects
  rw [heffects]
  obtain ⟨mctl, mentries, mbank, -, -, mtimer, msendq, mstack, mgate, mline, mport, -⟩ :=
    (s.takeNotice { sender := s.self, body := .sync ab } rest).setMember_frame s.self (syncRecord a none)
  refine ⟨s.takeNotice { sender := s.self, body := .sync ab } rest, _, ⟨⟨rfl, rfl⟩, mctl, rfl, mbank, fun r => ?_, mline, mgate, mstack,
    mport, by rw [msendq]; rfl, fun f hf => ?_, fun h => ⟨fun c hc => ?_, fun p => ?_⟩⟩, rfl⟩
  · rw [State.entry, mentries]
    rfl
  · rw [msendq] at hf
    replace hf : (if s.self = s.self then none else s.sendq.awaiting) = some f := hf
    rw [if_pos rfl] at hf
    cases hf
  · rw [mtimer] at hc
    exact h.1 c hc
  · rw [mtimer]
    exact h.2 p

/-- Settles O32: each of the two applications reconciles, and reconciliation ends in one of two ways. -/
theorem reconciliationSettles : Obligations.ReconciliationSettles := by
  intro s c rest entries hr hst hex hs hg happ held own waits settled stack told unmatched
  obtain ⟨n, j, hj, hexec⟩ : ∃ n j, Reconciling s n j entries rest ∧ exec c s = .next (State.finish n j.reconcile) := by
    rcases happ with ⟨v, r, e, tr, ip, rfl, hv, hin, hrecord, hip, hsp, hm, hr', hentries⟩ |
      ⟨ab, a, rfl, hin, ha, hle, hm, hnone, rfl⟩
    · exact reconciling_image hr hst hv hin hrecord hip hsp hm hr' hentries
    · exact reconciling_sync hr hst hin ha hle hm hnone
  obtain ⟨hstack, hentry, hbank, hmembers, hline, hothers⟩ := reconciling_common hj hst hex hs hg
  have hun := reconciling_unmatched hj hst hex hs hg
  have hmatched := reconciling_matched hj hst hex hs hg
  refine ⟨_, hexec, hstack, hentry, hbank, hmembers, hline, hothers, fun hfits => ⟨fun h => ?_, fun h => ?_⟩, fun h => ?_, fun h => ?_⟩
  · exact (hun h).1 (Nat.le_of_lt hfits)
  · exact (hmatched h).1 hfits
  · exact (hun h).2
  · exact (hmatched h).2

end Sys2Proof.Machine

/-! PROOFS. Bits and bytes in the order they are sent, and the contents of image parts: each comes back from its layout
(R141, R146, R147, R177, R178). -/

namespace Sys2Proof.Machine

open Sys2Proof.Safety

/-! ## Bits and bytes (R141) -/

theorem bitsNat_append_singleton (l : List Bool) (b : Bool) : bitsNat (l ++ [b]) = 2 * bitsNat l + b.toNat := by
  unfold bitsNat
  rw [List.foldl_append]
  rfl

/-- The first k bits of a field are its high part. -/
theorem bitsNat_range_getMsbD {w : Nat} (v : BitVec w) (k : Nat) (hk : k ≤ w) :
    bitsNat ((List.range k).map v.getMsbD) = v.toNat / 2 ^ (w - k) := by
  induction k with
  | zero =>
    have hlt := v.isLt
    rw [Nat.sub_zero, Nat.div_eq_of_lt hlt]
    rfl
  | succ k ih =>
    have hbit : (v.getMsbD k).toNat = v.toNat / 2 ^ (w - (k + 1)) % 2 := by
      have hindex : w - 1 - k = w - (k + 1) := by omega
      rw [BitVec.getMsbD, decide_eq_true (show k < w by omega), Bool.true_and, BitVec.getLsbD, hindex, Nat.testBit_eq_decide_div_mod_eq]
      rcases Nat.mod_two_eq_zero_or_one (v.toNat / 2 ^ (w - (k + 1))) with h | h <;> rw [h] <;> rfl
    have hpow : 2 ^ (w - k) = 2 ^ (w - (k + 1)) * 2 := by
      rw [← Nat.pow_succ]
      congr 1
      omega
    rw [List.range_succ, List.map_append, List.map_singleton, bitsNat_append_singleton, ih (by omega), hbit, hpow,
      ← Nat.div_div_eq_div_mul]
    omega

/-- The bits of a field, read as a number, are the field. -/
@[simp] theorem bitsNat_fieldBits {w : Nat} (v : BitVec w) : bitsNat (fieldBits v) = v.toNat := by
  rw [fieldBits, bitsNat_range_getMsbD v w le_rfl, Nat.sub_self, Nat.pow_zero, Nat.div_one]

@[simp] theorem length_fieldBits {w : Nat} (v : BitVec w) : (fieldBits v).length = w := by
  rw [fieldBits, List.length_map, List.length_range]

@[simp] theorem length_byteBits (bytes : List Byte) : (byteBits bytes).length = 8 * bytes.length := by
  induction bytes with
  | nil => rfl
  | cons b bytes ih =>
    rw [byteBits, List.flatMap_cons, List.length_append, length_fieldBits, List.length_cons]
    rw [byteBits] at ih
    omega

theorem byteBits_cons (b : Byte) (bytes : List Byte) : byteBits (b :: bytes) = fieldBits b ++ byteBits bytes := rfl

theorem byteBits_append (l l' : List Byte) : byteBits (l ++ l') = byteBits l ++ byteBits l' := List.flatMap_append

/-- Eight bits are taken as one byte. -/
theorem bytesOfBits_fieldBits_append (b : Byte) (rest : List Bool) :
    bytesOfBits (fieldBits b ++ rest) = b :: bytesOfBits rest := by
  have height : fieldBits b = [b.getMsbD 0, b.getMsbD 1, b.getMsbD 2, b.getMsbD 3, b.getMsbD 4, b.getMsbD 5,
    b.getMsbD 6, b.getMsbD 7] := rfl
  have hbyte : BitVec.ofNat 8 (bitsNat (fieldBits b)) = b := by rw [bitsNat_fieldBits, BitVec.ofNat_toNat, BitVec.setWidth_eq]
  rw [height] at hbyte ⊢
  exact congrArg (· :: bytesOfBits rest) hbyte

/-- Fewer than eight bits are no byte. -/
theorem bytesOfBits_of_short {bits : List Bool} (h : bits.length < 8) : bytesOfBits bits = [] := by
  unfold bytesOfBits
  split
  · simp only [List.length_cons] at h
    omega
  · rfl

theorem bytesOfBits_byteBits_append (bytes : List Byte) (rest : List Bool) :
    bytesOfBits (byteBits bytes ++ rest) = bytes ++ bytesOfBits rest := by
  induction bytes with
  | nil => rfl
  | cons b bytes ih => rw [byteBits_cons, List.append_assoc, bytesOfBits_fieldBits_append, ih, List.cons_append]

@[simp] theorem bytesOfBits_byteBits (bytes : List Byte) : bytesOfBits (byteBits bytes) = bytes := by
  have h := bytesOfBits_byteBits_append bytes []
  rwa [List.append_nil, bytesOfBits_of_short (bits := []) (by decide), List.append_nil] at h

/-! ## Fields of a byte -/

@[simp] theorem ofTwoBytes_hi_lo (v : BitVec 16) : ofTwoBytes (hiByte v) (loByte v) = v := by
  unfold ofTwoBytes
  apply BitVec.eq_of_toNat_eq
  rw [toNat_append_eq_add]
  have := bytes_toNat v
  omega

theorem stationMode_fields (s : Station) (m : Mode) :
    stationOf (stationModeByte s m) = s ∧ modeOfBit (stationModeByte s m) = m := by
  have hall : ∀ s : Fin 16, ∀ m : Fin 2, stationOf (stationModeByte s (if m = 0 then .shared else .exclusive)) = s ∧
      modeOfBit (stationModeByte s (if m = 0 then .shared else .exclusive)) = if m = 0 then .shared else .exclusive := by decide
  cases m with
  | shared => exact hall s 0
  | exclusive => exact hall s 1

theorem number16_numberByte (r : Fin 16) : number16 (numberByte r) = some r ∧ numberByte r ≠ 16 := by
  have hall : ∀ r : Fin 16, number16 (numberByte r) = some r ∧ numberByte r ≠ 16 := by decide
  exact hall r

theorem nibbleNumber_highNibble (n : Fin 16) : nibbleNumber (BitVec.ofNat 4 (highNibble n).toNat) = n := by
  have hall : ∀ n : Fin 16, nibbleNumber (BitVec.ofNat 4 (highNibble n).toNat) = n := by decide
  exact hall n

/-- The address byte of an image part. -/
theorem partByte_fields (t : Station) (a : Fin 4) (last : Bool) :
    let b : Byte := (highNibble t) ++ (BitVec.ofNat 2 a.val) ++ (BitVec.ofBool last) ++ (0 : BitVec 1)
    stationOf b = t ∧ attemptBits b = a ∧ b.getLsbD 1 = last := by
  have hall : ∀ t : Fin 16, ∀ a : Fin 4, ∀ last : Bool,
      let b : Byte := (highNibble t) ++ (BitVec.ofNat 2 a.val) ++ (BitVec.ofBool last) ++ (0 : BitVec 1)
      stationOf b = t ∧ attemptBits b = a ∧ b.getLsbD 1 = last := by decide
  exact hall t a last

/-! ## A resource part (R147, R177) -/

theorem readHolders_holdBytes (holders : List Hold) (rest : List Byte) :
    readHolders holders.length (holders.flatMap holdBytes ++ rest) = some (holders, rest) := by
  induction holders with
  | nil => rfl
  | cons h holders ih =>
    obtain ⟨hstation, hmode⟩ := stationMode_fields h.station h.mode
    rw [List.length_cons, List.flatMap_cons, List.append_assoc]
    simp only [holdBytes, twoBytes, List.cons_append, List.nil_append, readHolders, ih, hstation, hmode, ofTwoBytes_hi_lo]

/-- The first byte of a resource part. -/
theorem entryByte_fields (c : BitVec 2) (l : BitVec 5) :
    (c ++ (0 : BitVec 1) ++ l : Byte).extractLsb' 6 2 = c ∧ (c ++ (0 : BitVec 1) ++ l : Byte).extractLsb' 0 5 = l := by
  have hall : ∀ c : BitVec 2, ∀ l : BitVec 5, (c ++ (0 : BitVec 1) ++ l : Byte).extractLsb' 6 2 = c ∧
      (c ++ (0 : BitVec 1) ++ l : Byte).extractLsb' 0 5 = l := by decide
  exact hall c l

theorem EntryState.ofCode_code (st : EntryState) : EntryState.ofCode st.code = some st := by cases st <;> rfl

/-- In a lawful entry at most sixteen stations stand (R3). -/
theorem Entry.length_le_of_lawful {e : Entry} (h : e.lawful = true) : e.holders.length + e.waiters.length ≤ 16 := by
  have hnodup := ((Entry.lawful_iff e).mp h).1.stations
  have hcard := hnodup.length_le_card
  rw [Entry.stations, List.length_append, List.length_map, List.length_map, Fintype.card_fin] at hcard
  exact hcard

@[simp] theorem length_flatMap_holdBytes (holders : List Hold) : (holders.flatMap holdBytes).length = 3 * holders.length := by
  induction holders with
  | nil => rfl
  | cons h holders ih =>
    rw [List.flatMap_cons, List.length_append, ih, List.length_cons]
    simp only [holdBytes, twoBytes, List.length_cons, List.length_nil]
    omega

theorem length_entryBytes (e : Entry) : (entryBytes e).length = 4 + 3 * e.holders.length + e.waiters.length := by
  simp only [entryBytes, twoBytes, List.length_cons, List.length_append, List.length_nil, length_flatMap_holdBytes, List.length_map]
  omega

/-- A lawful entry comes back from its bytes. -/
theorem readEntryBytes_entryBytes {e : Entry} (h : e.lawful = true) : readEntryBytes (entryBytes e) = some e := by
  have hlen := Entry.length_le_of_lawful h
  obtain ⟨hcode, hcount⟩ := entryByte_fields e.state.code (BitVec.ofNat 5 e.holders.length)
  have hholders : (BitVec.ofNat 5 e.holders.length).toNat = e.holders.length := by
    rw [BitVec.toNat_ofNat]
    omega
  have hwaiters : (BitVec.ofNat 8 e.waiters.length).toNat = e.waiters.length := by
    rw [BitVec.toNat_ofNat]
    omega
  have hback : (e.waiters.map fun w => stationModeByte w.station w.mode).map
      (fun x => ({ station := stationOf x, mode := modeOfBit x } : Waiter)) = e.waiters := by
    rw [List.map_map]
    conv_rhs => rw [← List.map_id e.waiters]
    refine List.map_congr_left fun w _ => ?_
    obtain ⟨hstation, hmode⟩ := stationMode_fields w.station w.mode
    simp only [Function.comp, hstation, hmode, id]
  have hbytes : entryBytes e = (e.state.code ++ (0 : BitVec 1) ++ BitVec.ofNat 5 e.holders.length) :: hiByte e.counter ::
      loByte e.counter :: (e.holders.flatMap holdBytes ++
        BitVec.ofNat 8 e.waiters.length :: e.waiters.map fun w => stationModeByte w.station w.mode) := by
    simp only [entryBytes, twoBytes, List.cons_append, List.nil_append]
  rw [hbytes, readEntryBytes, hcode, hcount, EntryState.ofCode_code, hholders, readHolders_holdBytes]
  simp only [hback, hwaiters, List.length_map, ofTwoBytes_hi_lo]
  exact if_pos ⟨by omega, by omega, trivial, hlen, h⟩

/-! ## A membership part (R29, R147, R178) -/

theorem testBit_bitsNat (l : List Bool) (i : Nat) : (bitsNat l).testBit i = (l.reverse[i]?).getD false := by
  induction l using List.reverseRecOn generalizing i with
  | nil =>
    rw [show bitsNat [] = 0 from rfl, Nat.zero_testBit]
    rfl
  | append_singleton l b ih =>
    rw [bitsNat_append_singleton, List.reverse_append, List.reverse_singleton, List.singleton_append]
    cases i with
    | zero =>
      rw [Nat.testBit_zero]
      cases b <;> simp
    | succ i =>
      rw [Nat.testBit_succ, List.getElem?_cons_succ, ← ih]
      congr 1
      cases b <;> simp only [Bool.toNat_true, Bool.toNat_false] <;> omega

/-- The bit of a station in a set (R147). -/
@[simp] theorem stationSet_getLsbD (f : Station → Bool) (p : Station) : (stationSet f).getLsbD p.val = f p := by
  have hp := p.isLt
  have hall : all16.length = 16 := rfl
  have hget : all16[p.val]? = some p := by
    rw [all16_eq_finRange, List.getElem?_eq_getElem (by simp)]
    simp
  rw [stationSet, BitVec.getLsbD_ofNat, decide_eq_true hp, Bool.true_and, testBit_bitsNat, List.map_reverse, List.reverse_reverse,
    List.getElem?_map, hget]
  rfl

theorem readTransfers_transferBytes (items : List (Station × Transfer)) :
    readTransfers items.length (items.flatMap fun st => transferBytes st.1 st.2) = some items := by
  induction items with
  | nil => rfl
  | cons i items ih =>
    obtain ⟨s, a, source⟩ := i
    obtain ⟨hstation, hattempt, hsource⟩ := partByte_fields s a source.isSome
    have hbyte (u : Fin 16) : stationOf ((highNibble u) ++ (0 : BitVec 4)) = u := by
      have hall : ∀ u : Fin 16, stationOf ((highNibble u) ++ (0 : BitVec 4)) = u := by decide
      exact hall u
    rw [List.length_cons, List.flatMap_cons, transferBytes]
    simp only [List.cons_append, List.nil_append, readTransfers, ih, hstation, hattempt, hsource]
    cases source with
    | none => rfl
    | some u => simpa using hbyte u

theorem ascending_of_pairwise {items : List (Station × Transfer)} (h : items.Pairwise fun a b => a.1 < b.1) :
    ascending items = true := by
  induction items with
  | nil => rfl
  | cons a items ih =>
    cases items with
    | nil => rfl
    | cons b rest =>
      obtain ⟨ha, hrest⟩ := List.pairwise_cons.mp h
      rw [ascending, decide_eq_true (ha b List.mem_cons_self), ih hrest]
      rfl

/-- The pending transfers of some stations. -/
theorem mem_transfers {members : Vector MemberRecord 16} {l : List Station} {i : Station × Transfer}
    (h : i ∈ l.filterMap fun s => (members[s].transfer).map fun t => (s, t)) : i.1 ∈ l ∧ members[i.1].transfer = some i.2 := by
  obtain ⟨s, hs, hi⟩ := List.mem_filterMap.mp h
  obtain ⟨t, ht, rfl⟩ := Option.map_eq_some_iff.mp hi
  exact ⟨hs, ht⟩

theorem pendingTransfers_pairwise (members : Vector MemberRecord 16) :
    (pendingTransfers members).Pairwise fun a b => a.1 < b.1 := by
  have hfilter (l : List Station) (hl : l.Pairwise (· < ·)) :
      (l.filterMap fun s => (members[s].transfer).map fun t => (s, t)).Pairwise fun a b => a.1 < b.1 := by
    induction l with
    | nil => exact .nil
    | cons s l ih =>
      obtain ⟨hs, hl⟩ := List.pairwise_cons.mp hl
      rw [List.filterMap_cons]
      cases members[s].transfer with
      | none => exact ih hl
      | some t => exact List.pairwise_cons.mpr ⟨fun i hi => hs _ (mem_transfers hi).1, ih hl⟩
  exact hfilter all16 (by decide)

theorem itemOf_transfers (members : Vector MemberRecord 16) (l : List Station) (s : Station) :
    itemOf (l.filterMap fun s => (members[s].transfer).map fun t => (s, t)) s =
      if s ∈ l then members[s].transfer else none := by
  induction l with
  | nil => rfl
  | cons x l ih =>
    rw [List.filterMap_cons]
    unfold itemOf at ih ⊢
    by_cases hx : s = x
    · subst hx
      rw [if_pos List.mem_cons_self]
      cases ht : members[s].transfer with
      | none =>
        rw [Option.map_none]
        dsimp only
        rw [ih, ht, ite_self]
      | some t => simp
    · have hmem : s ∈ x :: l ↔ s ∈ l := by simp [hx]
      cases members[x].transfer with
      | none =>
        rw [Option.map_none]
        dsimp only
        rw [ih]
        simp only [hmem]
      | some t =>
        rw [Option.map_some]
        dsimp only
        rw [List.find?_cons_of_neg (by simpa using Ne.symm hx), ih]
        simp only [hmem]

/-- The table comes back from its sets and its pending transfers. -/
theorem membersOf_sets (members : Vector MemberRecord 16) :
    membersOf (stationSet fun s => members[s].isMember) (stationSet fun s => members[s].isJoining)
      (pendingTransfers members) = members := by
  have hitem (s : Station) : itemOf (pendingTransfers members) s = members[s].transfer := by
    rw [pendingTransfers, itemOf_transfers, if_pos (mem_all16 s)]
  refine Vector.ext fun i hi => ?_
  have hrecord (s : Station) : (if (stationSet fun s => members[s].isMember).getLsbD s.val = true then
      MemberRecord.member (itemOf (pendingTransfers members) s)
      else if (stationSet fun s => members[s].isJoining).getLsbD s.val = true then
        MemberRecord.joining (itemOf (pendingTransfers members) s)
      else MemberRecord.absent) = members[s] := by
    rw [stationSet_getLsbD, stationSet_getLsbD, hitem]
    cases members[s] <;> rfl
  rw [membersOf, Vector.getElem_ofFn]
  exact hrecord ⟨i, hi⟩

theorem length_pendingTransfers_le (members : Vector MemberRecord 16) : (pendingTransfers members).length ≤ 16 :=
  List.length_filterMap_le _ all16

/-- The sets are disjoint. -/
theorem sets_disjoint (members : Vector MemberRecord 16) :
    (stationSet fun s => members[s].isMember) &&& (stationSet fun s => members[s].isJoining) = 0 := by
  refine BitVec.eq_of_getLsbD_eq fun i hi => ?_
  have hm := stationSet_getLsbD (fun s => members[s].isMember) ⟨i, hi⟩
  have hj := stationSet_getLsbD (fun s => members[s].isJoining) ⟨i, hi⟩
  rw [BitVec.getLsbD_and]
  dsimp only at hm hj
  rw [hm, hj]
  cases members[i] <;> simp [MemberRecord.isMember, MemberRecord.isJoining]

/-- A lawful table and its parameters come back from their bytes. -/
theorem readMembershipBytes_membershipBytes {members : Vector MemberRecord 16} (h : membersLawful members = true)
    (params : Params) : readMembershipBytes (membershipBytes members params) = some (members, params) := by
  have hlen := length_pendingTransfers_le members
  have hcount : (BitVec.ofNat 8 (pendingTransfers members).length).toNat = (pendingTransfers members).length := by
    rw [BitVec.toNat_ofNat]
    omega
  have hknown : (pendingTransfers members).all (fun i => ((stationSet fun s => members[s].isMember) |||
      (stationSet fun s => members[s].isJoining)).getLsbD i.1.val) = true := by
    rw [List.all_eq_true]
    intro i hi
    have htr := (mem_transfers hi).2
    rw [BitVec.getLsbD_or, stationSet_getLsbD, stationSet_getLsbD]
    cases hm : members[i.1] with
    | absent =>
      rw [hm] at htr
      cases htr
    | joining o => rfl
    | member o => rfl
  have hbytes : membershipBytes members params =
      hiByte (stationSet fun s => members[s].isMember) :: loByte (stationSet fun s => members[s].isMember) ::
      hiByte (stationSet fun s => members[s].isJoining) :: loByte (stationSet fun s => members[s].isJoining) ::
      params.leaseTerm :: params.grace :: params.presence :: params.silence :: params.count ::
      BitVec.ofNat 8 (pendingTransfers members).length ::
        (pendingTransfers members).flatMap fun st => transferBytes st.1 st.2 := rfl
  rw [hbytes, readMembershipBytes, hcount, readTransfers_transferBytes]
  dsimp only
  rw [ofTwoBytes_hi_lo, ofTwoBytes_hi_lo, membersOf_sets]
  exact if_pos ⟨hlen, sets_disjoint members, ascending_of_pairwise (pendingTransfers_pairwise members), hknown, h⟩

theorem length_flatMap_transferBytes (items : List (Station × Transfer)) :
    (items.flatMap fun st => transferBytes st.1 st.2).length = 2 * items.length := by
  induction items with
  | nil => rfl
  | cons i items ih =>
    rw [List.flatMap_cons, List.length_append, ih, List.length_cons, transferBytes]
    simp only [List.length_cons, List.length_nil]
    omega

theorem length_pendingTransfers (members : Vector MemberRecord 16) : (pendingTransfers members).length =
    ((List.finRange 16).filter fun p => (members[p].transfer).isSome).length := by
  have hlist (l : List Station) : (l.filterMap fun s => (members[s].transfer).map fun t => (s, t)).length =
      (l.filter fun p => (members[p].transfer).isSome).length := by
    induction l with
    | nil => rfl
    | cons s l ih =>
      rw [List.filterMap_cons, List.filter_cons]
      cases members[s].transfer with
      | none => exact ih
      | some t => exact congrArg (· + 1) ih
  rw [pendingTransfers, hlist, all16_eq_finRange]

/-! ## READ ENTRY and READ MEMBERS (R177, R178) -/

/-- Settles O36: the data are the bytes of a resource part and, with the proposed parameters and the retry limit between,
those of a membership part. -/
theorem readEntryAndMembersBytes : Obligations.ReadEntryAndMembersBytes := by
  refine ⟨fun s b hport hcount => ?entry, fun s hport => ?members⟩
  case entry =>
    have hexec : exec (.readEntry b) s = .next (s.commandReadEntry b) := exec_taken hport (fun s => s.commandReadEntry b) rfl
    rw [hexec]
    refine ⟨fun hmember hleaving hresync => ?_, fun hbank => ⟨fun hb => ?_, fun r hb hr hlawful => ?_⟩⟩
    · rw [State.commandReadEntry_elsewhere b fun h => h.elim hmember fun h => h.elim hleaving hresync]
      rfl
    all_goals
      have hin : s.ctl.station.inBank = true := (StationState.inBank_iff _).mpr hbank
      rw [State.commandReadEntry, if_pos hin]
    · cases hn : number16 b with
      | none => rfl
      | some r =>
        have hr : r.val = b.toNat := by
          unfold number16 at hn
          split at hn <;> cases hn
          rfl
        exact congrArg _ (if_neg (by omega))
    · rw [number16_of hb]
      refine ⟨entryBytes (s.entry r), ?_, length_entryBytes _, ?_, readEntryBytes_entryBytes hlawful⟩
      · exact congrArg _ (if_pos hr)
      · have := Entry.length_le_of_lawful hlawful
        rw [length_entryBytes]
        omega
  case members =>
    have hexec : exec .readMembers s = .next (s.answerData s.memberBytes) :=
      exec_taken hport (fun s => s.answerData s.memberBytes) rfl
    have hlen := length_pendingTransfers_le s.table.members
    have hcount : (BitVec.ofNat 8 (pendingTransfers s.table.members).length).toNat = (pendingTransfers s.table.members).length := by
      rw [BitVec.toNat_ofNat]
      omega
    refine ⟨hiByte (stationSet fun p => s.table.members[p].isMember), loByte (stationSet fun p => s.table.members[p].isMember),
      hiByte (stationSet fun p => s.table.members[p].isJoining), loByte (stationSet fun p => s.table.members[p].isJoining),
      BitVec.ofNat 8 (pendingTransfers s.table.members).length,
      (pendingTransfers s.table.members).flatMap fun st => transferBytes st.1 st.2, ?_, fun p => ?_, fun p => ?_, ?_, ?_,
      fun h => ?_⟩
    · rw [hexec, State.answerData_eq_answered]
      have hflag : BitVec.ofNat 8 s.table.bank.isSome.toNat = if s.table.bank.isSome then 0x01 else 0x00 := by
        cases s.table.bank.isSome <;> rfl
      simp [State.memberBytes, setsBytes, twoBytes, transfersBytes, State.bankParams, hflag]
    · exact (congrArg (·.getLsbD p.val) (ofTwoBytes_hi_lo _)).trans (stationSet_getLsbD _ p)
    · exact (congrArg (·.getLsbD p.val) (ofTwoBytes_hi_lo _)).trans (stationSet_getLsbD _ p)
    · rw [hcount, length_flatMap_transferBytes]
    · rw [hcount, length_pendingTransfers]
    · have hread := readMembershipBytes_membershipBytes h (s.table.bank.getD s.ctl.proposed)
      simpa [membershipBytes, setsBytes, twoBytes, transfersBytes] using hread

end Sys2Proof.Machine

/-! PROOFS. Every well-formed notice comes back from its frame (R141, R142, R144 to R147). -/

namespace Sys2Proof.Machine

open Sys2Proof.Safety

/-! ## Payloads (R146) -/

theorem readItems_bytes (items : List (Byte × Grant)) :
    readItems items.length (items.flatMap fun i => i.1 :: twoBytes i.2) = some items := by
  induction items with
  | nil => rfl
  | cons i items ih =>
    show readItems (items.length + 1) (i.1 :: hiByte i.2 :: loByte i.2 :: items.flatMap fun i => i.1 :: twoBytes i.2) = _
    rw [readItems, ih, ofTwoBytes_hi_lo]

theorem length_flatMap_items (items : List (Byte × Grant)) :
    (items.flatMap fun i => i.1 :: twoBytes i.2).length = 3 * items.length := by
  induction items with
  | nil => rfl
  | cons i items ih =>
    rw [List.flatMap_cons, List.length_append, ih, List.length_cons, twoBytes]
    simp only [List.length_cons, List.length_nil]
    omega

/-- The content of a lawful part comes back from its bytes. -/
theorem readContent_bytes {t : Station} {a : Fin 4} {last : Bool} {c : PartContent}
    (h : payloadLawful (.image t a last c) = true) : readContent c.part.number c.bytes = some c := by
  cases c with
  | membership members params =>
    refine (if_pos rfl).trans ?_
    rw [PartContent.bytes, readMembershipBytes_membershipBytes h]
    rfl
  | resource r e =>
    obtain ⟨hnumber, hne⟩ := number16_numberByte r
    refine (if_neg hne).trans ?_
    have hnumber' : number16 (PartContent.resource r e).part.number = some r := hnumber
    rw [PartContent.bytes, readEntryBytes_entryBytes h, hnumber']

/-- The two nibbles of a CLAIM's second byte. -/
theorem nibbles_append (m p : BitVec 4) : (m ++ p : Byte).extractLsb' 4 4 = m ∧ (m ++ p : Byte).extractLsb' 0 4 = p := by
  have hall : ∀ m p : BitVec 4, (m ++ p : Byte).extractLsb' 4 4 = m ∧ (m ++ p : Byte).extractLsb' 0 4 = p := by decide
  exact hall m p

/-- A well-formed payload comes back from its bytes. -/
theorem readPayload_bytes {b : Payload} (hrenew : ∀ items, b = .renew items → 1 ≤ items.length ∧ items.length ≤ 4)
    (h : payloadLawful b = true) : readPayload b.kind b.bytes = some b := by
  cases b with
  | image t a last c =>
    obtain ⟨ht, ha, hlast⟩ := partByte_fields t a last
    show (readContent c.part.number c.bytes).map (fun c => Payload.image (stationOf _) (attemptBits _) (BitVec.getLsbD _ 1) c) = _
    rw [readContent_bytes h, Option.map_some, ht, ha, hlast]
  | renew items =>
    obtain ⟨h1, h4⟩ := hrenew items rfl
    have hcount : (BitVec.ofNat 8 items.length).toNat = items.length := by
      rw [BitVec.toNat_ofNat]
      omega
    show (if 1 ≤ (BitVec.ofNat 8 items.length).toNat ∧ (BitVec.ofNat 8 items.length).toNat ≤ 4 then _ else _) = _
    rw [hcount, if_pos ⟨h1, h4⟩, readItems_bytes]
    rfl
  | claim r m p =>
    obtain ⟨hm, hp⟩ := nibbles_append m p
    show some (Payload.claim r _ _) = _
    rw [hm, hp]
  | lapse r x g => exact congrArg (fun g => some (Payload.lapse r x g)) (ofTwoBytes_hi_lo g)
  | release r g => exact congrArg (fun g => some (Payload.release r g)) (ofTwoBytes_hi_lo g)
  | presence valid d => cases valid <;> exact congrArg (fun d => some (Payload.presence _ d)) (ofTwoBytes_hi_lo d)
  | _ => rfl

/-- A well-formed payload fits a frame (R144). -/
theorem length_bytes_le {b : Payload} (hrenew : ∀ items, b = .renew items → 1 ≤ items.length ∧ items.length ≤ 4)
    (h : payloadLawful b = true) : b.bytes.length ≤ 60 := by
  cases b with
  | image t a last c =>
    cases c with
    | membership members params =>
      have := length_pendingTransfers_le members
      simp only [Payload.bytes, PartContent.bytes, membershipBytes, setsBytes, twoBytes, transfersBytes, Params.bytes,
        List.length_cons, List.length_append, List.length_nil, length_flatMap_transferBytes]
      omega
    | resource r e =>
      have := Entry.length_le_of_lawful (e := e) h
      simp only [Payload.bytes, PartContent.bytes, List.length_cons, length_entryBytes]
      omega
  | renew items =>
    have := hrenew items rfl
    simp only [Payload.bytes, List.length_cons, length_flatMap_items]
    omega
  | _ => simp only [Payload.bytes, Params.bytes, twoBytes, List.length_cons, List.length_nil, Nat.reduceAdd, Nat.reduceLeDiff]

/-! ## Frames (R142, R144, R145) -/

/-- The fields of a frame, taken from its bits. -/
theorem decodeFrame_fields (kind sender : BitVec 4) (length : BitVec 6) (payload : List Byte)
    (hlength : length.toNat = payload.length) (hfits : payload.length ≤ 60) :
    decodeFrame (fieldBits kind ++ fieldBits sender ++ fieldBits length ++ byteBits payload ++
        fieldBits (crcBits (fieldBits kind ++ fieldBits sender ++ fieldBits length ++ byteBits payload))) =
      (readPayload kind payload).map fun p => { sender := nibbleNumber sender, body := p } := by
  generalize hcheck : fieldBits (crcBits (fieldBits kind ++ fieldBits sender ++ fieldBits length ++ byteBits payload)) = check
  have hchecklen : check.length = 16 := by rw [← hcheck, length_fieldBits]
  generalize hbits : fieldBits kind ++ fieldBits sender ++ fieldBits length ++ byteBits payload ++ check = bits
  have hkind : bits.take 4 = fieldBits kind := by
    rw [← hbits]
    simp [List.append_assoc]
  have hsender : (bits.drop 4).take 4 = fieldBits sender := by
    rw [← hbits]
    simp [List.append_assoc]
  have hlen : (bits.drop 8).take 6 = fieldBits length := by
    rw [← hbits]
    simp [List.take_append, List.drop_append, List.append_assoc]
  have hpayload : (bits.drop 14).take (8 * payload.length) = byteBits payload := by
    rw [← hbits, List.append_assoc, List.drop_left' (by simp), List.take_left' (by simp)]
  have hcovered : bits.take (14 + 8 * payload.length) =
      fieldBits kind ++ fieldBits sender ++ fieldBits length ++ byteBits payload := by
    rw [← hbits]
    refine List.take_left' ?_
    simp only [List.length_append, length_fieldBits, length_byteBits]
  have hrest : bits.drop (14 + 8 * payload.length) = check := by
    rw [← hbits]
    refine List.drop_left' ?_
    simp only [List.length_append, length_fieldBits, length_byteBits]
  have htotal : bits.length = 30 + 8 * payload.length := by
    rw [← hbits]
    simp [hchecklen]
    omega
  unfold decodeFrame
  dsimp only
  rw [hlen, bitsNat_fieldBits, hlength, hcovered, hrest, hpayload, hkind, hsender, hcheck]
  rw [if_pos ⟨hfits, htotal, rfl⟩, bitsNat_fieldBits, bitsNat_fieldBits, bytesOfBits_byteBits]
  simp only [BitVec.ofNat_toNat, BitVec.setWidth_eq]

/-- Cells that come one cell after another show no cell fault (R142). -/
theorem cellFault_of_regular (bits : List Bool) :
    cellFault { bits := bits, edges := bits.map (fun _ => Config.cellNs), stuckLow := false } = false := by
  have hedge : edgeMeaning Config.cellNs false = .nextCell := by decide
  rw [cellFault, Bool.false_or, List.any_eq_false]
  intro ns hns
  obtain ⟨b, -, rfl⟩ := List.mem_map.mp hns
  simp [hedge]

/-- Settles O15: field by field, then payload by payload. -/
theorem frameRoundTrip : Obligations.FrameRoundTrip := by
  intro n hrenew hlawful
  have hfits := length_bytes_le hrenew hlawful
  have hlength : (BitVec.ofNat 6 n.body.bytes.length).toNat = n.body.bytes.length := by
    rw [BitVec.toNat_ofNat]
    omega
  have hdecode : decodeFrame (encodeFrame n) = some n := by
    refine (decodeFrame_fields n.body.kind (highNibble n.sender) _ n.body.bytes hlength hfits).trans ?_
    have hsender := nibbleNumber_highNibble n.sender
    rw [BitVec.ofNat_toNat, BitVec.setWidth_eq] at hsender
    rw [readPayload_bytes hrenew hlawful, hsender]
    rfl
  refine ⟨hdecode, ?_⟩
  rw [receive, cellFault_of_regular]
  exact hdecode

end Sys2Proof.Machine

/-! PROOFS. The host port's transaction: the command that its bytes carry, and the bit that completes it (R163 to
R165). -/

namespace Sys2Proof.Machine

open Sys2Proof.Safety

/-! ## The bytes of a transaction (R164) -/

/-- The bytes of a command are its code and as many operands as the code calls for, and they carry it. -/
theorem transactionBytes_spec {c : Instr} {bytes : List Byte} (hwf : c.wf = true) (h : transactionBytes c = some bytes) :
    ∃ code operands, bytes = code :: operands ∧ operands.length = operandCount code ∧
      commandOf code operands = some c := by
  cases c
  case setMask v =>
    cases h
    refine ⟨_, _, rfl, rfl, ?_⟩
    have hjoin : v.extractLsb' 16 8 ++ v.extractLsb' 8 8 ++ v.extractLsb' 0 8 = v := by
      rw [BitVec.extractLsb'_append_extractLsb'_eq_extractLsb' (by rfl),
        BitVec.extractLsb'_append_extractLsb'_eq_extractLsb' (by rfl)]
      exact BitVec.extractLsb'_eq_self
    exact congrArg (fun w => some (Instr.setMask w)) hjoin
  case unknownCommandCode code =>
    cases h
    have hcode : code ∉ assignedCodes := by simpa [Instr.wf] using hwf
    simp only [assignedCodes, List.mem_cons, List.not_mem_nil, or_false, not_or] at hcode
    refine ⟨code, [], rfl, ?_, ?_⟩
    · simp only [operandCount, hcode, if_false, List.length_nil]
    · simp only [commandOf, hcode, if_false]
  all_goals
    cases h <;> exact ⟨_, _, rfl, rfl, rfl⟩

/-- Whatever follows a command's bytes, they carry it once the last has arrived, and nothing before. -/
theorem commandTaken_take {c : Instr} {bytes : List Byte} (more : List Byte) (hwf : c.wf = true)
    (h : transactionBytes c = some bytes) (m : Nat) :
    commandTaken ((bytes ++ more).take m) = if m < bytes.length then none else some c := by
  obtain ⟨code, operands, rfl, hlen, hcommand⟩ := transactionBytes_spec hwf h
  cases m with
  | zero => rfl
  | succ m =>
    rw [List.cons_append, List.take_succ_cons, commandTaken, List.length_cons]
    by_cases hm : m < operands.length
    · have hshort : ((operands ++ more).take m).length < operandCount code := by
        rw [List.length_take, List.length_append]
        omega
      rw [if_pos hshort, if_pos (by omega)]
    · have henough : ¬ ((operands ++ more).take m).length < operandCount code := by
        rw [List.length_take, List.length_append]
        omega
      rw [if_neg henough, if_neg (by omega), List.take_take, Nat.min_eq_left (by omega), ← hlen, List.take_left' rfl,
        hcommand]

/-! ## The bits of a transaction (R163) -/

/-- Of so many bits the complete bytes are taken. -/
theorem bytesOfBits_take (bytes : List Byte) (k : Nat) :
    bytesOfBits ((byteBits bytes).take k) = bytes.take (k / 8) := by
  induction bytes generalizing k with
  | nil => rw [show byteBits [] = [] from rfl, List.take_nil, List.take_nil]; rfl
  | cons b bytes ih =>
    by_cases hk : k < 8
    · rw [Nat.div_eq_of_lt hk, List.take_zero, bytesOfBits_of_short]
      rw [List.length_take]
      omega
    · have hbyte : (byteBits (b :: bytes)).take k = fieldBits b ++ (byteBits bytes).take (k - 8) := by
        rw [byteBits_cons, List.take_append, length_fieldBits, List.take_of_length_le]
        rw [length_fieldBits]
        omega
      have hdiv : k / 8 = (k - 8) / 8 + 1 := by omega
      rw [hbyte, bytesOfBits_fieldBits_append, ih, hdiv, List.take_succ_cons]

/-- The bit that completes the last operand byte, and no other, completes the command. -/
theorem completes_take {c : Instr} {bytes : List Byte} (more : List Byte) (hwf : c.wf = true)
    (h : transactionBytes c = some bytes) {p : SerialPins} {n : Nat} {sdi : Bool}
    (hp : p.sampled = (byteBits (bytes ++ more)).take n) (hbit : (byteBits (bytes ++ more))[n]? = some sdi) :
    p.sampled ++ [sdi] = (byteBits (bytes ++ more)).take (n + 1) ∧
      p.completes sdi = if n + 1 = 8 * bytes.length then some c else none := by
  have hnext : p.sampled ++ [sdi] = (byteBits (bytes ++ more)).take (n + 1) := by
    rw [hp, List.take_add_one, hbit]
    rfl
  refine ⟨hnext, ?_⟩
  rw [SerialPins.completes, hnext, hp, bytesOfBits_take, bytesOfBits_take, commandTaken_take more hwf h,
    commandTaken_take more hwf h]
  by_cases hbefore : n / 8 < bytes.length
  · rw [if_pos hbefore]
    dsimp only
    by_cases hlast : n + 1 = 8 * bytes.length
    · rw [if_pos hlast, if_neg (by omega)]
    · rw [if_neg hlast, if_pos (by omega)]
  · rw [if_neg hbefore]
    exact (if_neg (by omega)).symm

/-! ## The pins edge by edge (R163, R165) -/

theorem inTransaction_iff {s : State} : s.inTransaction = true ↔
    s.ctl.inReset = false ∧ s.port.serial.selLow = true ∧ s.port.serial.waitsForRise = false := by
  simp [State.inTransaction, and_assoc]

theorem sckRises_in {s : State} (h : s.inTransaction = true) (sdi : Bool) :
    s.sckRises sdi =
      let s1 := s.withSerial { s.port.serial with sampled := s.port.serial.sampled ++ [sdi] }
      match s.port.serial.completes sdi with
      | some c => exec c s1
      | none => .next s1 := if_pos h

/-- In a transaction SDO is a bit of the byte at the falling edges' position. -/
theorem sdo_in {s : State} (h : s.inTransaction = true) : s.sdo =
    some ((s.port.outByte s.port.serial.operands (s.port.serial.falls / 8)).getMsbD (s.port.serial.falls % 8)) := by
  obtain ⟨hreset, hsel, hrise⟩ := inTransaction_iff.mp h
  simp [State.sdo, hreset, hsel, hrise]

theorem operands_of {p : SerialPins} {code : Byte} {rest : List Byte} (h : bytesOfBits p.sampled = code :: rest) :
    p.operands = operandCount code := by
  rw [SerialPins.operands, h]

/-- Up to the last operand byte the port shifts out 00h. -/
theorem outByte_before (p : HostPort) {operands k : Nat} (h : k ≤ operands) : p.outByte operands k = 0 := if_pos h

theorem outByte_response (p : HostPort) (operands i : Nat) :
    p.outByte operands (operands + 1 + i) = (p.response[i]?).getD 0 := by
  rw [HostPort.outByte, if_neg (by omega), show operands + 1 + i - operands - 1 = i by omega]

theorem getMsbD_zero_byte (j : Nat) : (0 : Byte).getMsbD j = false := by
  simp [BitVec.getMsbD]

theorem getMsbD_byte (b : Byte) {j : Nat} (h : j < 8) : b.getMsbD j = b.getLsbD (7 - j) := by
  rw [BitVec.getMsbD, decide_eq_true h, Bool.true_and]

/-- SDO in a transaction: 00h up to the last operand byte, then the response. -/
theorem sdo_shifts {s : State} (h : s.inTransaction = true) :
    (s.port.serial.falls < 8 → s.sdo = some false) ∧
    ∀ code rest k j, bytesOfBits s.port.serial.sampled = code :: rest → s.port.serial.falls = 8 * k + j → j < 8 →
      (k ≤ operandCount code → s.sdo = some false) ∧
      (∀ i, k = operandCount code + 1 + i → s.sdo = some (((s.port.response[i]?).getD 0).getLsbD (7 - j))) := by
  refine ⟨fun hfalls => ?_, fun code rest k j hcode hfalls hj => ?_⟩
  · rw [sdo_in h, Nat.div_eq_of_lt hfalls, outByte_before _ (Nat.zero_le _), getMsbD_zero_byte]
  · have hdiv : s.port.serial.falls / 8 = k := by omega
    have hmod : s.port.serial.falls % 8 = j := by omega
    rw [sdo_in h, operands_of hcode, hdiv, hmod]
    refine ⟨fun hk => ?_, fun i hk => ?_⟩
    · rw [outByte_before _ hk, getMsbD_zero_byte]
    · rw [hk, outByte_response, getMsbD_byte _ hj]

/-- Settles O16: the bytes and bits of each command, then the pins edge by edge. -/
theorem transactionRoundTrip : Obligations.TransactionRoundTrip := by
  refine ⟨fun c bytes more hwf hbytes => ⟨?_, fun n hn => ?_, fun s n falls sdi hreset hbit => ?_⟩, fun s => ?_⟩
  · have htaken := commandTaken_take more hwf hbytes (bytes ++ more).length
    rwa [List.take_length, if_neg (by rw [List.length_append]; omega)] at htaken
  · have htaken := commandTaken_take [] hwf hbytes n
    rwa [List.append_nil, if_pos hn] at htaken
  · intro clocked
    have hin : (clocked n).inTransaction = true := inTransaction_iff.mpr ⟨hreset, rfl, rfl⟩
    obtain ⟨hnext, hcompletes⟩ := completes_take more hwf hbytes (p := (clocked n).port.serial) rfl hbit
    rw [sckRises_in hin, hcompletes, hnext]
    refine ⟨fun hlast => ?_, fun hother => ?_⟩
    · rw [if_pos hlast]
      rfl
    · rw [if_neg hother]
      rfl
  · intro pins withPins
    refine ⟨fun hreset hsel => ?_, fun hsel harmed => ?_, fun hout => ?_, fun hout => ?_, fun hreset hsel hrise => ?_⟩
    · rw [State.selFalls, if_neg (by simpa using hsel), hreset]
      rfl
    · rw [State.selRises, if_pos hsel, if_neg (by simp [harmed])]
      rfl
    · have hin : ¬ s.inTransaction = true := by
        rw [inTransaction_iff]
        rintro ⟨hreset, hsel, hrise⟩
        rcases hout with h | h | h
        · exact Bool.noConfusion (hreset.symm.trans h)
        · exact Bool.noConfusion (hsel.symm.trans h)
        · exact Bool.noConfusion (hrise.symm.trans h)
      exact ⟨fun sdi => if_neg hin, if_neg hin⟩
    · rw [State.sdo, if_pos (by simpa using hout)]
    · have hin : s.inTransaction = true := inTransaction_iff.mpr ⟨hreset, hsel, hrise⟩
      obtain ⟨hfirst, hbytes⟩ := sdo_shifts hin
      exact ⟨if_pos hin, hfirst, hbytes⟩

end Sys2Proof.Machine

/-! PROOFS. The effects of a notice at a station without claim records: they stay within the tables (R5, R13 to R21), and
an entry that two stations show alike changes alike at both. -/

namespace Sys2Proof.Machine

open Sys2Proof.Safety

/-! ## The effects by kind (R6) -/

/-- The effects of a notice, of whatever kind. -/
def State.effectsOf (n : Notice) (s : State) : State :=
  match n.body with
  | .image u a last c => s.imageEffects n.sender u a last c
  | .found p => s.foundEffects n.sender p
  | .evict u => s.evictEffects n.sender u
  | .lapse r h g => s.lapseEffects n.sender r h g
  | .release r g => s.holdEffects r n.sender g (decide (n.sender = s.self))
  | .withdraw r => s.withdrawEffects n.sender r
  | .leave => s.leaveEffects n.sender
  | .renew items => items.foldl (fun s i => s.renewItem n.sender i) s
  | .claim r m p => s.claimEffects n.sender r m p
  | .join a p => s.joinEffects n.sender a p
  | .sync a => s.syncEffects n.sender a
  | .presence valid digest => s.presenceEffects n.sender valid digest

/-- The row of a notice's kind applies it: the evidence, the effects, the end of the application. -/
theorem exec_rowOf {s : State} {n : Notice} {rest : List Notice} (hr : s.ctl.inReset = false) (hl : s.listening = true)
    (hin : s.line.inbound = n :: rest) : exec (rowOf n.body) s =
      .next (State.finish (s.takeNotice n rest) (State.effectsOf n ((s.takeNotice n rest).evidence n))) := by
  have hrow (c : Instr) (f : State → State) (hc : exec c s = .next (s.awake f))
      (hf : f s = s.applyNotice n rest (State.effectsOf n)) : exec c s =
        .next (State.finish (s.takeNotice n rest) (State.effectsOf n ((s.takeNotice n rest).evidence n))) := by
    rw [exec_awake hr f hc, hf, State.applyNotice_listening n rest _ hl]
  obtain ⟨u, body⟩ := n
  cases body with
  | image => exact hrow _ State.applyImage rfl (by rw [State.applyImage, hin]; rfl)
  | found => exact hrow _ State.applyFound rfl (by rw [State.applyFound, hin]; rfl)
  | evict => exact hrow _ State.applyEvict rfl (by rw [State.applyEvict, hin]; rfl)
  | lapse => exact hrow _ State.applyLapse rfl (by rw [State.applyLapse, hin]; rfl)
  | release => exact hrow _ State.applyRelease rfl (by rw [State.applyRelease, hin]; rfl)
  | withdraw => exact hrow _ State.applyWithdraw rfl (by rw [State.applyWithdraw, hin]; rfl)
  | leave => exact hrow _ State.applyLeave rfl (by rw [State.applyLeave, hin]; rfl)
  | renew => exact hrow _ State.applyRenew rfl (by rw [State.applyRenew, hin]; rfl)
  | claim => exact hrow _ State.applyClaim rfl (by rw [State.applyClaim, hin]; rfl)
  | join => exact hrow _ State.applyJoin rfl (by rw [State.applyJoin, hin]; rfl)
  | sync => exact hrow _ State.applySync rfl (by rw [State.applySync, hin]; rfl)
  | presence => exact hrow _ State.applyPresence rfl (by rw [State.applyPresence, hin]; rfl)

/-! ## Within the tables -/

/-- The membership table takes this value; beside it only entries and countdowns change. -/
def Becomes (s : State) (members : Vector MemberRecord 16) (t : State) : Prop :=
  ∃ (entries : Vector Entry 16) (countdowns : List Countdown),
    t = { s with table := { s.table with entries := entries, members := members },
                 timer := { s.timer with countdowns := countdowns } }

/-- Only entries and countdowns change. -/
abbrev Within (s t : State) : Prop := Becomes s s.table.members t

theorem within_refl (s : State) : Within s s := ⟨s.table.entries, s.timer.countdowns, rfl⟩

theorem Within.trans {s t u : State} (h : Within s t) (h' : Within t u) : Within s u := by
  obtain ⟨_, _, rfl⟩ := h
  obtain ⟨entries, countdowns, rfl⟩ := h'
  exact ⟨entries, countdowns, rfl⟩

theorem Within.becomes {s t u : State} {members : Vector MemberRecord 16} (h : Within s t) (h' : Becomes t members u) :
    Becomes s members u := by
  obtain ⟨_, _, rfl⟩ := h
  obtain ⟨entries, countdowns, rfl⟩ := h'
  exact ⟨entries, countdowns, rfl⟩

theorem Within.stack {s t : State} (h : Within s t) : t.stack = s.stack := by
  obtain ⟨_, _, rfl⟩ := h
  rfl

theorem Within.self {s t : State} (h : Within s t) : t.self = s.self := by
  obtain ⟨_, _, rfl⟩ := h
  rfl

theorem becomes_setMember (s : State) (u : Station) (m : MemberRecord) :
    Becomes s (s.table.members.set u m) (s.setMember u m) := ⟨s.table.entries, s.timer.countdowns, rfl⟩

theorem within_setEntry (s : State) (r : Resource) (e : Entry) : Within s (s.setEntry r e) :=
  ⟨s.table.entries.set r e, s.timer.countdowns, rfl⟩

theorem within_loadCountdown (s : State) (r : Resource) (h : Station) (g : Grant) : Within s (s.loadCountdown r h g) :=
  ⟨s.table.entries, (s.loadCountdown r h g).timer.countdowns, rfl⟩

theorem within_discardCountdown (s : State) (r : Resource) (h : Station) (g : Grant) :
    Within s (s.discardCountdown r h g) := ⟨s.table.entries, (s.discardCountdown r h g).timer.countdowns, rfl⟩

/-- Steps that stay within the tables of a station without records stay so together. -/
theorem within_foldl {α : Type} {f : State → α → State} (hf : ∀ s x, s.stack = [] → Within s (f s x)) (l : List α)
    {s : State} (hs : s.stack = []) : Within s (l.foldl f s) := by
  induction l generalizing s with
  | nil => exact within_refl s
  | cons x l ih => exact (hf s x hs).trans (ih ((hf s x hs).stack.trans hs))

section
variable {s : State} (hs : s.stack = [])
include hs

theorem recordOf_of_empty (r : Resource) : s.recordOf r = none := by
  rw [State.recordOf, hs]
  rfl

theorem within_holdGranted (b : Bool) (r : Resource) (h : Hold) : Within s (s.holdGranted b r h) := by
  unfold State.holdGranted
  split
  · rw [State.onGranted, recordOf_of_empty ((within_loadCountdown s r h.station h.grant).stack.trans hs)]
    exact within_loadCountdown s r h.station h.grant
  · exact within_loadCountdown s r h.station h.grant

theorem within_promoteAt (r : Resource) : Within s (s.promoteAt r) :=
  (within_setEntry s r _).trans (within_foldl (fun _ h hs => within_holdGranted hs false r h) _ hs)

theorem within_dropHold (r : Resource) (h : Station) (g : Grant) (b : Bool) : Within s (s.dropHold r h g b) := by
  have hdrop : Within s ((s.setEntry r ((s.entry r).removeHold h g)).discardCountdown r h g) :=
    (within_setEntry s r _).trans (within_discardCountdown _ r h g)
  unfold State.dropHold
  dsimp only
  split
  · rw [State.onHoldRemoved, recordOf_of_empty (hdrop.stack.trans hs)]
    exact hdrop
  · exact hdrop

theorem within_dropWaiter (r : Resource) (w : Station) : Within s (s.dropWaiter r w) := by
  have hdrop := within_setEntry s r ((s.entry r).removeWaiter w)
  unfold State.dropWaiter
  dsimp only
  split
  · rw [State.onWaiterRemoved, recordOf_of_empty (hdrop.stack.trans hs)]
    exact hdrop
  · exact hdrop

theorem within_dropHold_promoteAt (r : Resource) (h : Station) (g : Grant) (b : Bool) :
    Within s ((s.dropHold r h g b).promoteAt r) :=
  (within_dropHold hs r h g b).trans (within_promoteAt ((within_dropHold hs r h g b).stack.trans hs) r)

theorem within_dropWaiter_promoteAt (r : Resource) (w : Station) : Within s ((s.dropWaiter r w).promoteAt r) :=
  (within_dropWaiter hs r w).trans (within_promoteAt ((within_dropWaiter hs r w).stack.trans hs) r)

theorem within_purgeAt (u : Station) (r : Resource) : Within s (s.purgeAt u r) := by
  unfold State.purgeAt
  split
  · exact within_refl s
  · split
    · exact within_refl s
    · exact within_dropHold_promoteAt hs r u _ false
    · exact within_dropWaiter_promoteAt hs r u
    · exact (within_dropHold hs r u _ false).trans
        (within_dropWaiter_promoteAt ((within_dropHold hs r u _ false).stack.trans hs) r u)

theorem within_purge (u : Station) : Within s (s.purge u) :=
  within_foldl (fun _ r hs => within_purgeAt hs u r) all16 hs

theorem within_holdEffects (b : Byte) (h : Station) (g : Grant) (byThis : Bool) :
    Within s (s.holdEffects b h g byThis) := by
  unfold State.holdEffects
  split
  · split
    · exact within_dropHold_promoteAt hs _ h g byThis
    · exact within_refl s
  · exact within_refl s

theorem within_lapseEffects (u : Station) (b h : Byte) (g : Grant) : Within s (s.lapseEffects u b h g) := by
  unfold State.lapseEffects
  split
  · exact within_holdEffects hs b _ g _
  · exact within_refl s

theorem within_withdrawEffects (u : Station) (b : Byte) : Within s (s.withdrawEffects u b) := by
  unfold State.withdrawEffects
  split
  · split
    · exact within_dropWaiter_promoteAt hs _ u
    · exact within_refl s
  · exact within_refl s

theorem within_renewItem (u : Station) (x : Byte × Grant) : Within s (s.renewItem u x) := by
  unfold State.renewItem
  split
  next r _ =>
    split
    · split
      · rw [State.onRenewed, recordOf_of_empty ((within_loadCountdown s r u x.2).stack.trans hs)]
        exact within_loadCountdown s r u x.2
      · exact within_loadCountdown s r u x.2
    · exact within_refl s
  next => exact within_refl s

theorem within_renewItems (u : Station) (items : List (Byte × Grant)) :
    Within s (items.foldl (fun s i => s.renewItem u i) s) :=
  within_foldl (fun _ x hs => within_renewItem hs u x) items hs

end

/-! ## A CLAIM of another station (R13 to R15) -/

section
variable {s : State} {u : Station} (hu : u ≠ s.self)
include hu

theorem claimStale_other (b : Byte) : s.claimStale u b = s := if_neg hu

theorem claimDecided_other (r : Resource) (m : Mode) (p : Policy) : s.claimDecided u r m p =
    if (s.entry r).grantable m = true then s.granting u r m
    else if p = .wait then s.queueing u r m else s := by
  cases hg : (s.entry r).grantable m with
  | true => rw [claimDecided_granted hg, if_neg hu, if_pos rfl]
  | false =>
    rw [if_neg (by nofun)]
    cases p with
    | wait => rw [claimDecided_queued hg, if_neg hu, if_pos rfl]
    | tryOnce => rw [claimDecided_refused hg, if_neg hu, if_neg (by nofun)]

theorem within_claimDecided (r : Resource) (m : Mode) (p : Policy) : Within s (s.claimDecided u r m p) := by
  rw [claimDecided_other hu]
  split
  · exact (within_setEntry s r _).trans (within_loadCountdown _ r u _)
  · split
    · exact within_setEntry s r _
    · exact within_refl s

theorem within_claimEffects (b : Byte) (m p : BitVec 4) : Within s (s.claimEffects u b m p) := by
  unfold State.claimEffects
  rw [claimStale_other hu]
  split
  · split
    · exact within_claimDecided hu _ _ _
    · exact within_refl s
  · exact within_refl s

end

/-! ## Two states that show an entry alike -/

/-- The entry and its countdowns are the same. -/
def SameAt (r : Resource) (s t : State) : Prop :=
  t.entry r = s.entry r ∧ ∀ h g, t.countdown r h g = s.countdown r h g

theorem SameAt.refl (r : Resource) (s : State) : SameAt r s s := ⟨rfl, fun _ _ => rfl⟩

theorem SameAt.symm {r : Resource} {s t : State} (h : SameAt r s t) : SameAt r t s :=
  ⟨h.1.symm, fun u g => (h.2 u g).symm⟩

theorem SameAt.trans {r : Resource} {s t u : State} (h : SameAt r s t) (h' : SameAt r t u) : SameAt r s u :=
  ⟨h'.1.trans h.1, fun v g => (h'.2 v g).trans (h.2 v g)⟩

theorem sameAt_of_eq (r : Resource) {s t : State} (he : t.table.entries = s.table.entries)
    (hc : t.timer.countdowns = s.timer.countdowns) : SameAt r s t :=
  ⟨by rw [State.entry, he]; rfl, fun h g => State.countdown_congr hc r h g⟩

/-- What entry effects read beside the entry stays: the station, the bank's parameters, the entries installed. -/
def Steady (s t : State) : Prop :=
  t.ctl = s.ctl ∧ t.table.bank = s.table.bank ∧ t.table.imagePending = s.table.imagePending

/-- Two stations of one number show an entry alike and both let it take effects, or both not. -/
structure Alike (r : Resource) (s t : State) : Prop where
  number : t.self = s.self
  params : t.bankParams = s.bankParams
  takes : t.takesEffects r = s.takesEffects r
  same : SameAt r s t

section
variable {r q : Resource} {s t : State}

theorem Alike.after (h : Alike r s t) {s' t' : State} (hs : Steady s s') (ht : Steady t t') (hsame : SameAt r s' t') :
    Alike r s' t' := by
  obtain ⟨sctl, sbank, sip⟩ := hs
  obtain ⟨tctl, tbank, tip⟩ := ht
  refine ⟨?_, ?_, ?_, hsame⟩
  · rw [State.self, State.self, sctl, tctl]
    exact h.number
  · rw [State.bankParams, State.bankParams, sctl, tctl, sbank, tbank]
    exact h.params
  · rw [takesEffects_congr sctl sbank sip, takesEffects_congr tctl tbank tip]
    exact h.takes

theorem Alike.countdownMs (h : Alike r s t) (u : Station) : t.countdownMs u = s.countdownMs u := by
  rw [State.countdownMs, State.countdownMs, h.number, h.params]

theorem steady_promoteAt (s : State) (q : Resource) : Steady s (s.promoteAt q) := by simp [Steady]

theorem steady_dropHold (s : State) (q : Resource) (u : Station) (g : Grant) (b : Bool) :
    Steady s (s.dropHold q u g b) := by simp [Steady]

theorem steady_dropWaiter (s : State) (q : Resource) (u : Station) : Steady s (s.dropWaiter q u) := by simp [Steady]

theorem steady_purgeAt (s : State) (u : Station) (q : Resource) : Steady s (s.purgeAt u q) := by simp [Steady]

theorem steady_renewItem (s : State) (u : Station) (x : Byte × Grant) : Steady s (s.renewItem u x) := by simp [Steady]

/-! ### Promotion, removal, loading -/

theorem promoteAt_elsewhere (hq : r ≠ q) : SameAt r s (s.promoteAt q) :=
  ⟨by rw [promoteAt_entry, if_neg hq], fun h g => by rw [promoteAt_countdown, if_neg fun hh => hq hh.1]⟩

theorem Alike.promoteAt (h : Alike r s t) : Alike r (s.promoteAt r) (t.promoteAt r) := by
  refine h.after (steady_promoteAt s r) (steady_promoteAt t r) ⟨?_, fun u g => ?_⟩
  · rw [promoteAt_entry, promoteAt_entry, if_pos rfl, if_pos rfl, h.same.1]
  · rw [promoteAt_countdown, promoteAt_countdown, h.same.1, h.same.2, h.countdownMs]

theorem dropHold_elsewhere (hq : r ≠ q) (u : Station) (g : Grant) (b : Bool) : SameAt r s (s.dropHold q u g b) := by
  refine ⟨by rw [dropHold_entry, if_neg hq], fun h g' => ?_⟩
  rw [dropHold_countdown, if_neg fun hh => hq (congrArg Prod.fst hh)]

theorem Alike.dropHold (h : Alike r s t) (u : Station) (g : Grant) (b b' : Bool) :
    Alike r (s.dropHold r u g b) (t.dropHold r u g b') := by
  refine h.after (steady_dropHold s r u g b) (steady_dropHold t r u g b') ⟨?_, fun v g' => ?_⟩
  · rw [dropHold_entry, dropHold_entry, if_pos rfl, if_pos rfl, h.same.1]
  · rw [dropHold_countdown, dropHold_countdown, h.same.2]

theorem dropWaiter_countdown (s : State) (q : Resource) (u : Station) (r : Resource) (h : Station) (g : Grant) :
    (s.dropWaiter q u).countdown r h g = s.countdown r h g := State.countdown_congr (by simp) r h g

theorem dropWaiter_elsewhere (hq : r ≠ q) (u : Station) : SameAt r s (s.dropWaiter q u) :=
  ⟨by rw [dropWaiter_entry, if_neg hq], dropWaiter_countdown s q u r⟩

theorem Alike.dropWaiter (h : Alike r s t) (u : Station) : Alike r (s.dropWaiter r u) (t.dropWaiter r u) := by
  refine h.after (steady_dropWaiter s r u) (steady_dropWaiter t r u) ⟨?_, fun v g => ?_⟩
  · rw [dropWaiter_entry, dropWaiter_entry, if_pos rfl, if_pos rfl, h.same.1]
  · rw [dropWaiter_countdown, dropWaiter_countdown, h.same.2]

theorem loadCountdown_elsewhere (hq : r ≠ q) (u : Station) (g : Grant) : SameAt r s (s.loadCountdown q u g) := by
  refine ⟨rfl, fun h g' => ?_⟩
  rw [State.countdown_loadCountdown, if_neg fun hh => hq (congrArg Prod.fst hh)]

theorem Alike.loadCountdown (h : Alike r s t) (u : Station) (g : Grant) :
    SameAt r (s.loadCountdown r u g) (t.loadCountdown r u g) := by
  refine ⟨h.same.1, fun v g' => ?_⟩
  rw [State.countdown_loadCountdown, State.countdown_loadCountdown, h.same.2, h.countdownMs]

/-! ### The purge (R21) -/

theorem purgeAt_elsewhere (hq : r ≠ q) (u : Station) : SameAt r s (s.purgeAt u q) := by
  unfold State.purgeAt
  split
  · exact .refl r s
  · split
    · exact .refl r s
    · exact (dropHold_elsewhere hq u _ false).trans (promoteAt_elsewhere hq)
    · exact (dropWaiter_elsewhere hq u).trans (promoteAt_elsewhere hq)
    · exact ((dropHold_elsewhere hq u _ false).trans (dropWaiter_elsewhere hq u)).trans (promoteAt_elsewhere hq)

theorem purgeAt_of_no_effects (h : s.takesEffects r = false) (u : Station) : s.purgeAt u r = s := by
  rw [State.purgeAt, h]
  rfl

theorem Alike.purgeAt (h : Alike r s t) (u : Station) (q : Resource) : Alike r (s.purgeAt u q) (t.purgeAt u q) := by
  by_cases hq : r = q
  · subst hq
    unfold State.purgeAt
    rw [h.takes, h.same.1]
    split
    · exact h
    · split
      · exact h
      · exact (h.dropHold u _ false false).promoteAt
      · exact (h.dropWaiter u).promoteAt
      · exact ((h.dropHold u _ false false).dropWaiter u).promoteAt
  · exact h.after (steady_purgeAt s u q) (steady_purgeAt t u q)
      ((purgeAt_elsewhere hq u).symm.trans (h.same.trans (purgeAt_elsewhere hq u)))

theorem Alike.purge (h : Alike r s t) (u : Station) : Alike r (s.purge u) (t.purge u) := by
  unfold State.purge
  generalize all16 = l
  induction l generalizing s t with
  | nil => exact h
  | cons q l ih => exact ih (h.purgeAt u q)

/-- The purge leaves an entry alone that takes no effects. -/
theorem purge_of_no_effects (h : s.takesEffects r = false) (u : Station) : SameAt r s (s.purge u) := by
  unfold State.purge
  generalize all16 = l
  induction l generalizing s with
  | nil => exact .refl r s
  | cons q l ih =>
    obtain ⟨hctl, hbank, hip⟩ := steady_purgeAt s u q
    have htakes := (takesEffects_congr hctl hbank hip r).trans h
    by_cases hq : r = q
    · subst hq
      rw [List.foldl_cons, purgeAt_of_no_effects h]
      exact ih h
    · exact (purgeAt_elsewhere hq u).trans (ih htakes)

/-! ### The effects on the named entry (R13 to R20) -/

theorem targetOf_iff (s : State) (b : Byte) (r : Resource) :
    s.targetOf b = some r ↔ number16 b = some r ∧ s.takesEffects r = true := by
  unfold State.targetOf
  cases hb : number16 b with
  | none => simp
  | some q =>
    by_cases ht : s.takesEffects q = true
    · simp only [if_pos ht, Option.some.injEq]
      exact ⟨fun h => ⟨h, h ▸ ht⟩, fun h => h.1⟩
    · simp only [if_neg ht, Option.some.injEq]
      exact ⟨nofun, fun h => absurd (h.1 ▸ h.2) ht⟩

theorem Alike.targetOf (h : Alike r s t) (b : Byte) : t.targetOf b = some r ↔ s.targetOf b = some r := by
  rw [targetOf_iff, targetOf_iff, h.takes]

theorem holdEffects_elsewhere {b : Byte} (hb : s.targetOf b ≠ some r) (u : Station) (g : Grant) (byThis : Bool) :
    SameAt r s (s.holdEffects b u g byThis) := by
  unfold State.holdEffects
  split
  next q hq =>
    have hr : r ≠ q := fun hr => hb (hr ▸ hq)
    split
    · exact (dropHold_elsewhere hr u g byThis).trans (promoteAt_elsewhere hr)
    · exact .refl r s
  next => exact .refl r s

theorem Alike.holdEffects (h : Alike r s t) (b : Byte) (u : Station) (g : Grant) (byThis byThis' : Bool) :
    SameAt r (s.holdEffects b u g byThis) (t.holdEffects b u g byThis') := by
  by_cases hb : s.targetOf b = some r
  · unfold State.holdEffects
    rw [hb, (h.targetOf b).mpr hb]
    dsimp only
    rw [h.same.1]
    split
    · exact (h.dropHold u g byThis byThis').promoteAt.same
    · exact h.same
  · exact (holdEffects_elsewhere hb u g byThis).symm.trans
      (h.same.trans (holdEffects_elsewhere (mt (h.targetOf b).mp hb) u g byThis'))

theorem lapseEffects_elsewhere {b : Byte} (hb : s.targetOf b ≠ some r) (u : Station) (h : Byte) (g : Grant) :
    SameAt r s (s.lapseEffects u b h g) := by
  unfold State.lapseEffects
  split
  · exact holdEffects_elsewhere hb _ g _
  · exact .refl r s

theorem Alike.lapseEffects (h : Alike r s t) (u : Station) (b p : Byte) (g : Grant) :
    SameAt r (s.lapseEffects u b p g) (t.lapseEffects u b p g) := by
  unfold State.lapseEffects
  split
  · exact h.holdEffects b _ g _ _
  · exact h.same

theorem withdrawEffects_elsewhere {b : Byte} (hb : s.targetOf b ≠ some r) (u : Station) :
    SameAt r s (s.withdrawEffects u b) := by
  unfold State.withdrawEffects
  split
  next q hq =>
    have hr : r ≠ q := fun hr => hb (hr ▸ hq)
    split
    · exact (dropWaiter_elsewhere hr u).trans (promoteAt_elsewhere hr)
    · exact .refl r s
  next => exact .refl r s

theorem Alike.withdrawEffects (h : Alike r s t) (u : Station) (b : Byte) :
    SameAt r (s.withdrawEffects u b) (t.withdrawEffects u b) := by
  by_cases hb : s.targetOf b = some r
  · unfold State.withdrawEffects
    rw [hb, (h.targetOf b).mpr hb]
    dsimp only
    rw [h.same.1]
    split
    · exact (h.dropWaiter u).promoteAt.same
    · exact h.same
  · exact (withdrawEffects_elsewhere hb u).symm.trans
      (h.same.trans (withdrawEffects_elsewhere (mt (h.targetOf b).mp hb) u))

theorem renewItem_other {u : Station} (hu : u ≠ s.self) {x : Byte × Grant} (hx : s.targetOf x.1 = some q) :
    s.renewItem u x = if (s.entry q).holds u x.2 = true then s.loadCountdown q u x.2 else s := by
  rw [State.renewItem, hx]
  dsimp only
  rw [if_neg hu]

theorem renewItem_elsewhere {u : Station} (hu : u ≠ s.self) {x : Byte × Grant} (hx : s.targetOf x.1 ≠ some r) :
    SameAt r s (s.renewItem u x) := by
  cases hq : s.targetOf x.1 with
  | none =>
    rw [State.renewItem, hq]
    exact .refl r s
  | some q =>
    rw [renewItem_other hu hq]
    split
    · exact loadCountdown_elsewhere (fun hr : r = q => hx (hr ▸ hq)) u x.2
    · exact .refl r s

theorem Alike.renewItem (h : Alike r s t) {u : Station} (hu : u ≠ s.self) (x : Byte × Grant) :
    Alike r (s.renewItem u x) (t.renewItem u x) := by
  have hut : u ≠ t.self := h.number ▸ hu
  refine h.after (steady_renewItem s u x) (steady_renewItem t u x) ?_
  by_cases hx : s.targetOf x.1 = some r
  · rw [renewItem_other hu hx, renewItem_other hut ((h.targetOf x.1).mpr hx), h.same.1]
    split
    · exact h.loadCountdown u x.2
    · exact h.same
  · exact (renewItem_elsewhere hu hx).symm.trans (h.same.trans (renewItem_elsewhere hut (mt (h.targetOf x.1).mp hx)))

theorem Alike.renewItems (h : Alike r s t) {u : Station} (hu : u ≠ s.self) (items : List (Byte × Grant)) :
    Alike r (items.foldl (fun s i => s.renewItem u i) s) (items.foldl (fun s i => s.renewItem u i) t) := by
  induction items generalizing s t with
  | nil => exact h
  | cons x items ih =>
    have hself : (s.renewItem u x).self = s.self := congrArg Controller.number (steady_renewItem s u x).1
    exact ih (h.renewItem hu x) (hself ▸ hu)

/-- The items of a RENEW load no countdown of an entry that takes no effects. -/
theorem renewItems_of_no_effects (h : s.takesEffects r = false) {u : Station} (hu : u ≠ s.self)
    (items : List (Byte × Grant)) : SameAt r s (items.foldl (fun s i => s.renewItem u i) s) := by
  induction items generalizing s with
  | nil => exact .refl r s
  | cons x items ih =>
    obtain ⟨hctl, hbank, hip⟩ := steady_renewItem s u x
    have hself : (s.renewItem u x).self = s.self := congrArg Controller.number hctl
    have hx : s.targetOf x.1 ≠ some r := fun hx => Bool.noConfusion (h.symm.trans ((targetOf_iff s x.1 r).mp hx).2)
    exact (renewItem_elsewhere hu hx).trans (ih ((takesEffects_congr hctl hbank hip r).trans h) (hself ▸ hu))

theorem claimDecided_elsewhere {u : Station} (hu : u ≠ s.self) (hq : r ≠ q) (m : Mode) (p : Policy) :
    SameAt r s (s.claimDecided u q m p) := by
  have hentry (e : Entry) : SameAt r s (s.setEntry q e) :=
    ⟨by rw [State.entry_setEntry, if_neg hq], fun _ _ => rfl⟩
  rw [claimDecided_other hu]
  split
  · exact (hentry _).trans (loadCountdown_elsewhere hq u _)
  · split
    · exact hentry _
    · exact .refl r s

theorem Alike.claimDecided (h : Alike r s t) {u : Station} (hu : u ≠ s.self) (m : Mode) (p : Policy) :
    SameAt r (s.claimDecided u r m p) (t.claimDecided u r m p) := by
  rw [claimDecided_other hu, claimDecided_other (h.number ▸ hu), h.same.1]
  split
  · refine ⟨by rw [granting_entry, granting_entry, if_pos rfl, if_pos rfl, h.same.1], fun v g => ?_⟩
    rw [granting_countdown, granting_countdown, h.same.1, h.same.2, h.countdownMs]
  · split
    · exact ⟨by rw [queueing_entry, queueing_entry, if_pos rfl, if_pos rfl, h.same.1], h.same.2⟩
    · exact h.same

theorem claimEffects_elsewhere {u : Station} (hu : u ≠ s.self) {b : Byte} (hb : s.targetOf b ≠ some r) (m p : BitVec 4) :
    SameAt r s (s.claimEffects u b m p) := by
  unfold State.claimEffects
  rw [claimStale_other hu]
  split
  next q _ _ hq _ _ =>
    split
    · exact claimDecided_elsewhere hu (fun hr : r = q => hb (hr ▸ hq)) _ _
    · exact .refl r s
  next => exact .refl r s

/-- A CLAIM, where the tables show the same of its sender. -/
theorem Alike.claimEffects (h : Alike r s t) {u : Station} (hu : u ≠ s.self) (b : Byte) (m p : BitVec 4)
    (hrecord : t.recordOfStation u = s.recordOfStation u) (hwaits : t.waitsAnywhere u = s.waitsAnywhere u) :
    SameAt r (s.claimEffects u b m p) (t.claimEffects u b m p) := by
  by_cases hb : s.targetOf b = some r
  · unfold State.claimEffects
    rw [claimStale_other hu, claimStale_other (h.number ▸ hu), hb, (h.targetOf b).mpr hb, hrecord, hwaits]
    cases Mode.ofNibble m with
    | none => exact h.same
    | some m =>
      cases Policy.ofNibble p with
      | none => exact h.same
      | some p =>
        dsimp only
        rw [h.same.1]
        split
        · exact h.claimDecided hu m p
        · exact h.same
  · exact (claimEffects_elsewhere hu hb m p).symm.trans
      (h.same.trans (claimEffects_elsewhere (h.number ▸ hu) (mt (h.targetOf b).mp hb) m p))

end

end Sys2Proof.Machine

/-! PROOFS. What a JOINING station makes of its peers' notices (R5, R35 to R37, R41, R43 to R45, R63, R202). -/

namespace Sys2Proof.Machine

open Sys2Proof.Safety

/-! ## Membership effects where this station's own record is not MEMBER (R35 to R38, R43 to R45, R47) -/

theorem attemptOf_of_le {b : Byte} (h : b.toNat ≤ 2) : attemptOf b = some (Fin.ofNat 4 b.toNat) := by
  have hval : (Fin.ofNat 4 b.toNat).val = b.toNat := Nat.mod_eq_of_lt (by omega)
  exact attemptOf_of hval (hval.trans_le h)

section
variable {s : State} (hown : s.table.members[s.self].isMember = false)
include hown

/-- No report about a peer is raised. -/
theorem reportPeer_silent (kind : ReportKind) (p : Station) (d : BitVec 4) : s.reportPeer kind p d = s :=
  if_neg (Bool.eq_false_iff.mp hown)

theorem rejoined_silent (u : Station) :
    s.rejoined u = if s.table.members[u].isMember = true then s.purge u else s := by
  unfold State.rejoined
  rw [reportPeer_silent hown]
  rfl

theorem departure_silent (u : Station) (d : BitVec 4) : s.departure u d = (s.setMember u .absent).purge u := by
  rw [State.departure, reportPeer_silent hown]

theorem joinEffects_silent {u : Station} (hu : u ≠ s.self) (ab : Byte) (p : Params) : s.joinEffects u ab p =
    if ab.toNat ≤ 2 ∧ p.inRange = true then
      ((if s.table.members[u].isMember = true then s.purge u else s).setMember u (.joining (some
        { attempt := Fin.ofNat 4 ab.toNat,
          source := chooseSource s.table.members u (Fin.ofNat 4 ab.toNat) }))).takeTransfer u (Fin.ofNat 4 ab.toNat)
        (chooseSource s.table.members u (Fin.ofNat 4 ab.toNat))
    else s := by
  by_cases h : ab.toNat ≤ 2 ∧ p.inRange = true
  · rw [if_pos h, joinEffects_other (attemptOf_of_le h.1) h.2 hu, rejoined_silent hown]
  · rw [if_neg h]
    refine joinEffects_refused ?_
    rcases not_and_or.mp h with h | h
    · exact .inl (by omega)
    · exact .inr (Bool.eq_false_iff.mpr h)

theorem leaveEffects_silent {u : Station} (hu : u ≠ s.self) : s.leaveEffects u =
    if s.table.members[u].isMember = true then (s.setMember u .absent).purge u else s := by
  by_cases h : s.table.members[u].isMember = true
  · rw [if_pos h, leaveEffects_departed h, State.departed, if_neg hu, departure_silent hown]
  · rw [if_neg h]
    refine if_pos ?_
    rw [State.recordOfStation, Bool.eq_false_iff.mpr h]
    rfl

theorem evictEffects_silent {u v : Station} {ub : Byte} (hub : ub.toNat = u.val)
    (hself : u = s.self → ¬(s.table.members[v].isMember = true ∧ s.table.members[u] ≠ .absent)) : s.evictEffects v ub =
      if s.table.members[v].isMember = true ∧ s.table.members[u] ≠ .absent then (s.setMember u .absent).purge u else s := by
  by_cases h : s.table.members[v].isMember = true ∧ s.table.members[u] ≠ .absent
  · rw [if_pos h, evictEffects_departed hub h.1 h.2, State.departed, if_neg fun hu => hself hu h, departure_silent hown]
  · rw [if_neg h, State.evictEffects, number16_of hub]
    refine if_pos ?_
    rw [Bool.or_eq_true, MemberRecord.isAbsent_iff, Bool.not_eq_true']
    rcases not_and_or.mp h with h | h
    · exact .inr (Bool.eq_false_iff.mpr h)
    · exact .inl (not_not.mp h)

theorem lastEffects_silent {u : Station} (hu : u ≠ s.self) (a : Fin 4) : s.lastEffects u a =
    if (s.table.members[u].transfer).map (·.attempt) = some a then s.setMember u (.member none) else s := by
  have hset : ((s.setMember u (.member none)).table.members[(s.setMember u (.member none)).self]).isMember = false := by
    have hrecord := State.recordOfStation_setMember s u s.self (.member none)
    rw [if_neg (Ne.symm hu)] at hrecord
    exact (congrArg MemberRecord.isMember hrecord).trans hown
  cases htr : s.table.members[u].transfer with
  | none =>
    rw [if_neg (by nofun)]
    unfold State.lastEffects State.recordOfStation
    split
    next tr hrecord => rw [hrecord] at htr; cases htr
    next tr hrecord => rw [hrecord] at htr; cases htr
    next => rfl
  | some tr =>
    by_cases ha : tr.attempt = a
    · rw [lastEffects_other htr ha hu, reportPeer_silent hset, ite_self]
      exact (if_pos (congrArg some ha)).symm
    · refine Eq.trans ?_ (if_neg fun h => ha (Option.some.inj h)).symm
      unfold State.lastEffects State.recordOfStation
      split
      next tr' hrecord =>
        rw [hrecord] at htr
        cases htr
        exact if_pos ha
      next tr' hrecord =>
        rw [hrecord] at htr
        cases htr
        exact if_pos ha
      next => rfl

theorem imageEffects_silent {u v : Station} (hv : v ≠ s.self) (hu : u ≠ s.self) (a : Fin 4) (last : Bool)
    (c : PartContent) : s.imageEffects v u a last c =
      if last = true ∧ (s.table.members[u].transfer).map (·.attempt) = some a then s.setMember u (.member none)
      else s := by
  unfold State.imageEffects
  dsimp only
  rw [installPart_other hu, lastEffects_silent hown hu]
  cases last with
  | false => exact advanceTransfer_other hv u a false _
  | true =>
    simp only [if_true, true_and]
    refine advanceTransfer_other ?_ u a true _
    split
    · exact hv
    · exact hv

end

theorem syncEffects_peer {s : State} {u : Station} (hu : u ≠ s.self) (ab : Byte) : s.syncEffects u ab =
    if ab.toNat ≤ 2 ∧ s.table.members[u].isMember = true then
      (s.setMember u (syncRecord (Fin.ofNat 4 ab.toNat) (chooseSource s.table.members u (Fin.ofNat 4 ab.toNat)))).takeTransfer
        u (Fin.ofNat 4 ab.toNat) (chooseSource s.table.members u (Fin.ofNat 4 ab.toNat))
    else s := by
  by_cases h : ab.toNat ≤ 2 ∧ s.table.members[u].isMember = true
  · rw [if_pos h, syncEffects_other (attemptOf_of_le h.1) h.2 hu]
  · rw [if_neg h]
    refine syncEffects_refused ?_
    rcases not_and_or.mp h with h | h
    · exact .inl (by omega)
    · exact .inr (Bool.eq_false_iff.mpr h)

theorem foundEffects_of_member {s : State} (h : s.anyMember = true) (u : Station) (p : Params) : s.foundEffects u p = s := by
  unfold State.foundEffects
  rw [h]
  rfl

/-! ## A notice that a joiner takes from a peer -/

/-- The notices of O37's second part: of a peer, or any PRESENCE; no image part for this station, no founding FOUND, no
EVICT of this station that takes effect. -/
structure FromPeer (s : State) (n : Notice) : Prop where
  own : s.table.members[s.self].isMember = false
  sender : n.sender ≠ s.self ∨ ∃ valid digest, n.body = .presence valid digest
  image : ∀ a last c, n.body ≠ .image s.self a last c
  found : ∀ p, n.body = .found p → s.anyMember = true
  evict : ∀ (ub : Byte) (u : Station), n.body = .evict ub → ub.toNat = u.val → u = s.self →
    ¬(s.table.members[n.sender].isMember = true ∧ s.table.members[u] ≠ .absent)

/-- The station that the effects of a notice purge, if any (R35, R44, R45). -/
def purgedBy (members : Vector MemberRecord 16) (n : Notice) : Option Station :=
  match n.body with
  | .join ab p =>
    if ab.toNat ≤ 2 ∧ p.inRange = true ∧ members[n.sender].isMember = true then some n.sender else none
  | .leave => if members[n.sender].isMember then some n.sender else none
  | .evict ub =>
    if h : ub.toNat < 16 then
      if members[n.sender].isMember = true ∧ members[ub.toNat] ≠ .absent then some ⟨ub.toNat, h⟩ else none
    else none
  | _ => none

/-- The purge of a station, or nothing. -/
def State.purging (s : State) : Option Station → State
  | some u => s.purge u
  | none => s

/-- The notices whose effects are on the membership. -/
def Payload.isMembership : Payload → Bool
  | .claim .. | .release .. | .withdraw .. | .lapse .. | .renew .. => false
  | _ => true

theorem alike_setMember (r : Resource) (s : State) (u : Station) (m : MemberRecord) : Alike r s (s.setMember u m) :=
  ⟨rfl, rfl, rfl, rfl, fun _ _ => rfl⟩

theorem sameAt_congr {r : Resource} {s t t' : State} (ht : t = t') (h : SameAt r s t') : SameAt r s t := ht ▸ h

theorem sameAt_setMember (r : Resource) (s : State) (u : Station) (m : MemberRecord) : SameAt r s (s.setMember u m) :=
  (alike_setMember r s u m).same

theorem sameAt_takeTransfer (r : Resource) (s : State) (u : Station) (a : Fin 4) (q : Option Station) :
    SameAt r s (s.takeTransfer u a q) := sameAt_of_eq r (by simp) (by simp)

theorem sameAt_enterResync (r : Resource) (s : State) (d : BitVec 4) : SameAt r s (s.enterResync d) := by
  obtain ⟨-, htable, htimer, -⟩ := s.enterResync_spec d
  exact sameAt_of_eq r (by rw [htable]) (by rw [htimer])

theorem evict_of_large {s : State} {ub : Byte} (h : ¬ub.toNat < 16) (u : Station) : s.evictEffects u ub = s := by
  have hnone : number16 ub = none := dif_neg h
  rw [State.evictEffects, hnone]

section
variable {s : State} {n : Notice} (h : FromPeer s n)
include h

/-- Of a notice on the membership the purge is all that reaches the entries (R21). -/
theorem membership_sameAt (hkind : n.body.isMembership = true) (r : Resource) :
    SameAt r (s.purging (purgedBy s.table.members n)) (State.effectsOf n s) := by
  obtain ⟨hown, hsender, himage, hfound, hevict⟩ := h
  obtain ⟨u, body⟩ := n
  have hgone (v : Station) : SameAt r (s.purge v) ((s.setMember v .absent).purge v) :=
    ((alike_setMember r s v .absent).purge v).same
  cases body with
  | claim | release | withdraw | lapse | renew => cases hkind
  | join ab p =>
    have hu : u ≠ s.self := hsender.resolve_right nofun
    refine sameAt_congr (joinEffects_silent hown hu ab p) ?_
    unfold purgedBy
    dsimp only
    by_cases hok : ab.toNat ≤ 2 ∧ p.inRange = true
    · rw [if_pos hok]
      refine SameAt.trans ?_ ((sameAt_setMember r _ u _).trans (sameAt_takeTransfer r _ u _ _))
      by_cases hm : s.table.members[u].isMember = true
      · rw [if_pos hm, if_pos ⟨hok.1, hok.2, hm⟩]
        exact .refl r _
      · rw [if_neg hm, if_neg fun hh => hm hh.2.2]
        exact .refl r _
    · rw [if_neg hok, if_neg fun hh => hok ⟨hh.1, hh.2.1⟩]
      exact .refl r _
  | sync ab =>
    have hu : u ≠ s.self := hsender.resolve_right nofun
    refine sameAt_congr (syncEffects_peer hu ab) ?_
    split
    · exact (sameAt_setMember r s u _).trans (sameAt_takeTransfer r _ u _ _)
    · exact .refl r s
  | leave =>
    have hu : u ≠ s.self := hsender.resolve_right nofun
    refine sameAt_congr (leaveEffects_silent hown hu) ?_
    unfold purgedBy
    dsimp only
    split
    · exact hgone u
    · exact .refl r s
  | evict ub =>
    unfold purgedBy
    dsimp only
    split
    next hlt =>
      refine sameAt_congr (evictEffects_silent (u := ⟨ub.toNat, hlt⟩) hown rfl (hevict ub _ rfl rfl)) ?_
      split
      next hok => exact sameAt_congr (if_pos hok) (hgone _)
      next hno => exact sameAt_congr (if_neg hno) (.refl r s)
    next hge => exact sameAt_congr (evict_of_large hge u) (.refl r s)
  | image v a last c =>
    have hu : u ≠ s.self := hsender.resolve_right nofun
    have hv : v ≠ s.self := fun hv => himage a last c (by rw [hv])
    refine sameAt_congr (imageEffects_silent hown hu hv a last c) ?_
    split
    · exact sameAt_setMember r s v _
    · exact .refl r s
  | found p => exact sameAt_congr (foundEffects_of_member (hfound p rfl) u p) (.refl r s)
  | presence valid digest =>
    refine (?_ : SameAt r s (s.presenceEffects u valid digest))
    unfold State.presenceEffects
    split
    · exact sameAt_enterResync r s 0
    · exact .refl r s

/-- An entry that takes no effects keeps its content and countdowns (R5). -/
theorem effectsOf_of_no_effects {r : Resource} (htakes : s.takesEffects r = false) : SameAt r s (State.effectsOf n s) := by
  have htarget (b : Byte) : s.targetOf b ≠ some r := fun hb =>
    Bool.noConfusion (htakes.symm.trans ((targetOf_iff s b r).mp hb).2)
  by_cases hkind : n.body.isMembership = true
  · refine SameAt.trans ?_ (membership_sameAt h hkind r)
    unfold State.purging
    split
    · exact purge_of_no_effects htakes _
    · exact .refl r s
  · obtain ⟨-, hsender, -⟩ := h
    obtain ⟨u, body⟩ := n
    cases body with
    | claim b m p => exact claimEffects_elsewhere (hsender.resolve_right nofun) (htarget b) m p
    | release b g => exact holdEffects_elsewhere (htarget b) u g _
    | withdraw b => exact withdrawEffects_elsewhere (htarget b) u
    | lapse b p g => exact lapseEffects_elsewhere (htarget b) u p g
    | renew items => exact renewItems_of_no_effects htakes (hsender.resolve_right nofun) items
    | join | sync | leave | evict | image | found | presence => exact absurd rfl hkind

/-- At two stations of one number and one table an entry changes alike. -/
theorem effectsOf_alike {t : State} {r : Resource} (halike : Alike r s t) (htable : t.table = s.table) :
    SameAt r (State.effectsOf n s) (State.effectsOf n t) := by
  have ht : FromPeer t n := by
    obtain ⟨hown, hsender, himage, hfound, hevict⟩ := h
    have hany : t.anyMember = s.anyMember := by rw [State.anyMember, htable]; rfl
    refine ⟨?_, ?_, ?_, ?_, ?_⟩
    · simpa only [halike.number, htable] using hown
    · simpa only [halike.number] using hsender
    · simpa only [halike.number] using himage
    · simpa only [hany] using hfound
    · simpa only [halike.number, htable] using hevict
  by_cases hkind : n.body.isMembership = true
  · have hpurge : SameAt r (s.purging (purgedBy s.table.members n)) (t.purging (purgedBy t.table.members n)) := by
      rw [htable]
      unfold State.purging
      split
      · exact (halike.purge _).same
      · exact halike.same
    exact (membership_sameAt h hkind r).symm.trans (hpurge.trans (membership_sameAt ht hkind r))
  · obtain ⟨-, hsender, -⟩ := h
    obtain ⟨u, body⟩ := n
    cases body with
    | claim b m p =>
      refine halike.claimEffects (hsender.resolve_right nofun) b m p ?_ ?_
      · rw [State.recordOfStation, htable]
        rfl
      · unfold State.waitsAnywhere State.entry
        rw [htable]
    | release b g => exact halike.holdEffects b u g _ _
    | withdraw b => exact halike.withdrawEffects u b
    | lapse b p g => exact halike.lapseEffects u b p g
    | renew items => exact (halike.renewItems (hsender.resolve_right nofun) items).same
    | join | sync | leave | evict | image | found | presence => exact absurd rfl hkind

end

end Sys2Proof.Machine

/-! PROOFS. The membership table of a joiner after a notice, and its own EVICT (R35 to R37, R41, R43 to R45, R63,
R202). -/

namespace Sys2Proof.Machine

open Sys2Proof.Safety

/-! ## The membership table after the effects -/

theorem becomes_congr {s t t' : State} {members : Vector MemberRecord 16} (ht : t = t') (h : Becomes s members t') :
    Becomes s members t := ht ▸ h

theorem Becomes.within {s t u : State} {members : Vector MemberRecord 16} (h : Becomes s members t) (h' : Within t u) :
    Becomes s members u := by
  obtain ⟨_, _, rfl⟩ := h
  obtain ⟨entries, countdowns, rfl⟩ := h'
  exact ⟨entries, countdowns, rfl⟩

theorem Within.becomes_set {s t : State} (h : Within s t) (u : Station) (m : MemberRecord) :
    Becomes s (s.table.members.set u m) (t.setMember u m) := by
  obtain ⟨entries, countdowns, rfl⟩ := h
  exact ⟨entries, countdowns, rfl⟩

section
variable {s : State} {n : Notice} (h : FromPeer s n) (hst : s.ctl.station = .joining) (hstack : s.stack = [])
include h hst hstack

/-- Beside entries and countdowns the effects of a notice change the membership table, as the view says. -/
theorem effectsOf_becomes : Becomes s (joinerView s.table.members false n) (State.effectsOf n s) := by
  obtain ⟨hown, hsender, himage, hfound, hevict⟩ := h
  have hother : s.ctl.station ≠ .member := by rw [hst]; nofun
  have hset (u : Station) (m : MemberRecord) : Becomes s (s.table.members.set u m) (s.setMember u m) :=
    becomes_setMember s u m
  have hgone (u : Station) : Becomes s (s.table.members.set u .absent) ((s.setMember u .absent).purge u) :=
    (hset u .absent).within (within_purge (s := s.setMember u .absent) hstack u)
  obtain ⟨u, body⟩ := n
  cases body with
  | claim b m p => exact within_claimEffects (hsender.resolve_right nofun) b m p
  | release b g => exact within_holdEffects hstack b u g _
  | withdraw b => exact within_withdrawEffects hstack u b
  | lapse b p g => exact within_lapseEffects hstack u b p g
  | renew items => exact within_renewItems hstack u items
  | join ab p =>
    refine becomes_congr (joinEffects_silent hown (hsender.resolve_right nofun) ab p) ?_
    unfold joinerView
    dsimp only
    split
    · rw [takeTransfer_not_source (.inr (by split <;> simpa using hother))]
      have hpurged : Within s (if s.table.members[u].isMember = true then s.purge u else s) := by
        split
        · exact within_purge hstack u
        · exact within_refl s
      exact hpurged.becomes_set u _
    · exact within_refl s
  | sync ab =>
    refine becomes_congr (syncEffects_peer (hsender.resolve_right nofun) ab) ?_
    unfold joinerView
    dsimp only
    split
    · refine becomes_congr (takeTransfer_not_source (.inr hother)) ?_
      cases chooseSource s.table.members u (Fin.ofNat 4 ab.toNat) with
      | none => exact hset u (.member none)
      | some q => exact hset u (.member (some { attempt := Fin.ofNat 4 ab.toNat, source := some q }))
    · exact within_refl s
  | leave =>
    refine becomes_congr (leaveEffects_silent hown (hsender.resolve_right nofun)) ?_
    unfold joinerView
    dsimp only
    split
    · exact hgone u
    · exact within_refl s
  | evict ub =>
    unfold joinerView
    dsimp only
    split
    next hlt =>
      refine becomes_congr (evictEffects_silent (u := ⟨ub.toNat, hlt⟩) hown rfl (hevict ub _ rfl rfl)) ?_
      split
      next hok => exact becomes_congr (if_pos hok) (hgone _)
      next hno => exact becomes_congr (if_neg hno) (within_refl s)
    next hge => exact becomes_congr (evict_of_large hge u) (within_refl s)
  | image v a last c =>
    have hv : v ≠ s.self := fun hv => himage a last c (by rw [hv])
    refine becomes_congr (imageEffects_silent hown (hsender.resolve_right nofun) hv a last c) ?_
    unfold joinerView
    dsimp only
    split
    · exact hset v _
    · exact within_refl s
  | found p =>
    refine becomes_congr (foundEffects_of_member (hfound p rfl) u p) ?_
    unfold joinerView
    rw [if_neg fun hh => Bool.noConfusion hh.1]
    exact within_refl s
  | presence valid digest =>
    refine becomes_congr (t' := s) (if_neg fun hh => hother hh.1) ?_
    exact within_refl s

end

/-! ## The evidence (R41, R63) -/

/-- A sender that the notice shows to be MEMBER is gained for the view. -/
theorem evidence_shows {s : State} {n : Notice} (hst : s.ctl.station = .joining) (h : ShowsMember s n) :
    s.evidence n = (s.setMember n.sender (.member none)).viewGained := by
  obtain ⟨hbank, hsender, hnot, hjoin, hfound, hpresence⟩ := h
  have hprovisional : s.provisional = true := by
    rw [State.provisional, hst, hbank]
    rfl
  have hrecord : (s.recordOfStation n.sender).isMember = false := hnot
  have hkind : n.body.isEvidence = true := by
    unfold Payload.isEvidence
    split
    next a p hb => exact absurd hb (hjoin a p)
    next p hb => exact absurd hb (hfound p)
    next valid d hb =>
      cases valid with
      | true => rfl
      | false => exact absurd hb (hpresence d)
    next => rfl
  unfold State.evidence
  rw [hprovisional, decide_eq_false hsender, if_neg (by nofun)]
  split
  next p hb => exact absurd hb (hfound p)
  next => rw [hkind, hrecord]; rfl

theorem evidence_silent {s : State} {n : Notice} (h : ¬ShowsMember s n) (hfound : ∀ p, n.body ≠ .found p) :
    s.evidence n = s := by
  unfold State.evidence
  split
  · rfl
  next hcond =>
    rw [Bool.not_eq_true, Bool.or_eq_false_iff, Bool.not_eq_false', decide_eq_false_iff_not] at hcond
    split
    next p hb => exact absurd hb (hfound p)
    next =>
      refine if_neg fun hshown => h ?_
      rw [Bool.and_eq_true, Bool.not_eq_true'] at hshown
      obtain ⟨hkind, hnot⟩ := hshown
      have hbank : s.table.bank = none := by
        have hprovisional := hcond.1
        rw [State.provisional, Bool.and_eq_true] at hprovisional
        exact Option.isNone_iff_eq_none.mp hprovisional.2
      refine ⟨hbank, hcond.2, hnot, fun a p hb => ?_, hfound, fun d hb => ?_⟩
      · rw [hb] at hkind
        cases hkind
      · rw [hb] at hkind
        cases hkind

theorem Timer.live_iff (t : Timer) : t.live = true ↔ t ≠ .stopped := by
  cases t <;> simp [Timer.live]

/-- A MEMBER other than the station is a source for it (R34). -/
theorem chooseSource_isSome {members : Vector MemberRecord 16} {t u : Station} (hu : u ≠ t)
    (hm : members[u].isMember = true) (a : Fin 4) : (chooseSource members t a).isSome = true := by
  have hmem : u ∈ eligible members t :=
    List.mem_filter.mpr ⟨mem_all16 u, by rw [decide_eq_true hu, hm]; rfl⟩
  have hlen : a.val % (eligible members t).length < (eligible members t).length :=
    Nat.mod_lt _ (List.length_pos_of_mem hmem)
  rw [chooseSource, List.getElem?_eq_getElem hlen]
  rfl

/-- A found wait stands while this station's own image source is none (R63). -/
def FoundWaits (s : State) : Prop :=
  s.timer.foundWait ≠ .stopped ∧ ∃ tr, s.table.members[s.self] = .joining (some tr) ∧ tr.source = none

/-- What a gained MEMBER makes of the view and of the waits. -/
theorem viewGained_spec {s : State} {u : Station} (hst : s.ctl.station = .joining) (hu : u ≠ s.self) :
    let v := (s.setMember u (.member none)).viewGained
    v.table.members = gainedView s u ∧
      (FoundWaits s → v.timer.foundWait = .stopped ∧ v.timer.imageWait = .running s.ctl.proposed.imageWaitMs) ∧
      (¬FoundWaits s → v.timer.foundWait = s.timer.foundWait ∧ v.timer.imageWait = s.timer.imageWait) := by
  intro v
  obtain ⟨j, hj⟩ : ∃ j, j = s.setMember u (.member none) := ⟨_, rfl⟩
  have hown : j.ownRecord = s.table.members[s.self] := by
    rw [hj]
    exact (State.recordOfStation_setMember s u s.self _).trans (if_neg (Ne.symm hu))
  have hself : j.self = s.self := by rw [hj]; rfl
  have hmembers : j.table.members = s.table.members.set u (.member none) := by rw [hj]; rfl
  have htimer : j.timer = s.timer := by rw [hj]; rfl
  have hparams : j.timeParams = s.ctl.proposed := by rw [hj]; exact if_pos hst
  have hv : v = j.viewGained := by rw [hj]
  rw [hv]
  unfold gainedView FoundWaits State.viewGained
  rw [hown, hmembers, hself, htimer]
  cases hrecord : s.table.members[s.self] with
  | absent => exact ⟨hmembers, fun hw => (nomatch hw.2), fun _ => ⟨by rw [htimer], by rw [htimer]⟩⟩
  | member o => exact ⟨hmembers, fun hw => (nomatch hw.2), fun _ => ⟨by rw [htimer], by rw [htimer]⟩⟩
  | joining o =>
    cases o with
    | none => exact ⟨hmembers, fun hw => (nomatch hw.2), fun _ => ⟨by rw [htimer], by rw [htimer]⟩⟩
    | some tr =>
      have hsource : (chooseSource (s.table.members.set u (.member none)) s.self tr.attempt).isSome = true :=
        chooseSource_isSome hu (by simp [MemberRecord.isMember]) tr.attempt
      dsimp only
      rw [hsource, Bool.and_true]
      have hset : (j.setMember s.self (.joining (some { tr with
          source := chooseSource (s.table.members.set u (.member none)) s.self tr.attempt }))).table.members =
            (s.table.members.set u (.member none)).set s.self (.joining (some { tr with
              source := chooseSource (s.table.members.set u (.member none)) s.self tr.attempt })) := by
        rw [← hmembers]
        rfl
      split
      next hstops =>
        rw [Bool.and_eq_true, Timer.live_iff, Option.isNone_iff_eq_none] at hstops
        exact ⟨hset, fun _ => ⟨rfl, congrArg (fun p : Params => Timer.running p.imageWaitMs) hparams⟩,
          fun hno => absurd ⟨hstops.2, tr, rfl, hstops.1⟩ hno⟩
      next hstays =>
        refine ⟨hset, fun hw => absurd ?_ hstays, fun _ => ⟨congrArg TimerUnit.foundWait htimer, congrArg TimerUnit.imageWait htimer⟩⟩
        obtain ⟨hlive, tr', heq, hnone⟩ := hw
        cases heq
        rw [Bool.and_eq_true, Timer.live_iff, Option.isNone_iff_eq_none]
        exact ⟨hnone, hlive⟩

/-- The view and the waits after the evidence of a notice other than a FOUND. -/
theorem evidence_spec {s : State} {n : Notice} (hst : s.ctl.station = .joining) (hfound : ∀ p, n.body ≠ .found p) :
    let v := s.evidence n
    (ShowsMember s n → v.table.members = gainedView s n.sender) ∧ (¬ShowsMember s n → v.table.members = s.table.members) ∧
      (ShowsMember s n ∧ FoundWaits s →
        v.timer.foundWait = .stopped ∧ v.timer.imageWait = .running s.ctl.proposed.imageWaitMs) ∧
      (¬(ShowsMember s n ∧ FoundWaits s) →
        v.timer.foundWait = s.timer.foundWait ∧ v.timer.imageWait = s.timer.imageWait) := by
  intro v
  by_cases hshows : ShowsMember s n
  · obtain ⟨hmembers, hstops, hstays⟩ := viewGained_spec (s := s) (u := n.sender) hst hshows.2.1
    have hv : v = (s.setMember n.sender (.member none)).viewGained := evidence_shows hst hshows
    rw [hv]
    exact ⟨fun _ => hmembers, fun h => absurd hshows h, fun h => hstops h.2, fun h => hstays fun hw => h ⟨hshows, hw⟩⟩
  · have hv : v = s := evidence_silent hshows hfound
    rw [hv]
    exact ⟨fun h => absurd h hshows, fun _ => rfl, fun h => absurd h.1 hshows, fun _ => ⟨rfl, rfl⟩⟩

/-- This station's own record after a gained MEMBER: no other kind of record. -/
theorem gainedView_own {s : State} {u : Station} (hu : u ≠ s.self) :
    (gainedView s u)[s.self].isMember = s.table.members[s.self].isMember ∧
      ((gainedView s u)[s.self] = .absent ↔ s.table.members[s.self] = .absent) := by
  have hview : (s.table.members.set u (.member none))[s.self] = s.table.members[s.self] :=
    (Vector.getElem_set_ne _ _ fun h => hu (Fin.ext h))
  unfold gainedView
  split
  next tr hrecord =>
    rw [hrecord]
    simp [MemberRecord.isMember]
  next => rw [hview]; exact ⟨rfl, Iff.rfl⟩

theorem gainedView_sender {s : State} {u : Station} (hu : u ≠ s.self) : (gainedView s u)[u] = .member none := by
  have hne : s.self.val ≠ u.val := fun h => hu (Fin.ext h.symm)
  unfold gainedView
  split
  · simp [hne]
  · simp

end Sys2Proof.Machine

/-! PROOFS. A joiner's application of a peer's notice, whole, and of its own EVICT (R5, R35 to R37, R39, R41, R43 to R45,
R47, R63, R75, R134, R202). -/

namespace Sys2Proof.Machine

open Sys2Proof.Safety

/-! ## This station's own EVICT (R202) -/

/-- The teardown where no channel is open and no record stands. -/
theorem teardown_of_closed {s : State} (hstack : s.stack = []) (hclosed : ∀ m : Fin 8, s.gate[m].opened = false) :
    s.teardown true = (((s.withTable TableUnit.clear).withTimer TimerUnit.clear).clearToReady).raise
      { kind := .evicted, subject := 0, grant := 0, detail := 0 } := by
  obtain ⟨v, hv⟩ : ∃ v, v = ((s.withTable TableUnit.clear).withTimer TimerUnit.clear).clearToReady := ⟨_, rfl⟩
  have hgates : v.evalGates 2 = v := by
    refine State.evalGates_of_lawful v 2 fun m => ?_
    have hst : v.ctl.station ≠ .member := by rw [hv]; nofun
    have hgate : v.gate = s.gate := by rw [hv]; rfl
    rw [State.gateCondition_of_not_member hst, hgate]
    exact hclosed m
  have hteardown : s.teardown true = (v.evalGates 2).raise { kind := .evicted, subject := 0, grant := 0, detail := 0 } := by
    unfold State.teardown State.teardownEvict
    rw [hstack, hv]
    simp only [if_true, List.reverse_nil, List.foldl_nil]
  rw [hteardown, hgates, hv]

/-- A notice taken by a joiner leaves its own record's kind, whatever it shows of its sender. -/
theorem evidence_own {s : State} {n : Notice} (hst : s.ctl.station = .joining) :
    (s.evidence n).table.members[s.self].isMember = s.table.members[s.self].isMember ∧
      ((s.evidence n).table.members[s.self] = .absent ↔ s.table.members[s.self] = .absent) := by
  by_cases hu : n.sender = s.self
  · rw [State.evidence_self hu]
    exact ⟨rfl, Iff.rfl⟩
  · obtain ⟨u, body⟩ := n
    by_cases hfound : ∃ p, body = .found p
    · obtain ⟨p, rfl⟩ := hfound
      have hset : (s.setMember u (.joining (some { attempt := 0, source := none }))).table.members[s.self] =
          s.table.members[s.self] :=
        (State.recordOfStation_setMember s u s.self _).trans (if_neg (Ne.symm hu))
      rw [State.evidence_found]
      split
      · exact ⟨rfl, Iff.rfl⟩
      · split
        · rw [hset]
          exact ⟨rfl, Iff.rfl⟩
        · exact ⟨rfl, Iff.rfl⟩
    · obtain ⟨hshown, hsilent, -⟩ := evidence_spec (n := { sender := u, body := body }) hst fun p hp => hfound ⟨p, hp⟩
      by_cases hshows : ShowsMember s { sender := u, body := body }
      · rw [hshown hshows]
        exact gainedView_own hu
      · rw [hsilent hshows]
        exact ⟨rfl, Iff.rfl⟩

/-- The sender is MEMBER in the view where it was, or where the notice shows it. -/
theorem evidence_sender {s : State} {n : Notice} (hst : s.ctl.station = .joining) (hfound : ∀ p, n.body ≠ .found p) :
    (s.evidence n).table.members[n.sender].isMember = true ↔
      s.table.members[n.sender].isMember = true ∨ ShowsMember s n := by
  obtain ⟨hshown, hsilent, -⟩ := evidence_spec hst hfound
  by_cases hshows : ShowsMember s n
  · rw [hshown hshows, gainedView_sender hshows.2.1]
    exact ⟨fun _ => .inr hshows, fun _ => rfl⟩
  · rw [hsilent hshows]
    exact ⟨.inl, fun h => h.resolve_right hshows⟩

/-- The first part of O37: a joiner's own EVICT. -/
theorem own_evict_applied {s : State} {n : Notice} {rest : List Notice} (hr : s.ctl.inReset = false)
    (hst : s.ctl.station = .joining) (hin : s.line.inbound = n :: rest) (hstack : s.stack = [])
    (hclosed : ∀ m : Fin 8, s.gate[m].opened = false) {ub : Byte} (hbody : n.body = .evict ub)
    (hub : ub.toNat = s.self.val) (hown : s.table.members[s.self] ≠ .absent)
    (hsender : s.table.members[n.sender].isMember = true ∨ ShowsMember s n) :
    ∃ t, exec .applyEvict s = .next t ∧
      t.ctl = { s.ctl with station := .ready, exhausted := false } ∧ t.table = TableUnit.clear ∧
      t.timer = TimerUnit.clear ∧ t.sendq = SendQueue.clear ∧ t.stack = [] ∧ t.gate = s.gate ∧ t.line.inbound = [] ∧
      t.port = (s.raise { kind := .evicted, subject := 0, grant := 0, detail := 0 }).port := by
  have hl : s.listening = true := by rw [State.listening, hst]; rfl
  have hnotFound (p : Params) : n.body ≠ .found p := by rw [hbody]; nofun
  have hexec := exec_rowOf hr hl hin
  have hevidence := (s.takeNotice n rest).evidence_frame n
  have hsent := (evidence_sender (s := s.takeNotice n rest) (n := n) hst hnotFound).mpr hsender
  have howns : ((s.takeNotice n rest).evidence n).table.members[s.self] ≠ .absent :=
    mt (evidence_own (s := s.takeNotice n rest) (n := n) hst).2.mp hown
  obtain ⟨v, hv⟩ : ∃ v, v = (s.takeNotice n rest).evidence n := ⟨_, rfl⟩
  rw [← hv] at hexec hevidence hsent howns
  obtain ⟨vctl, -, -, -, -, -, -, -, -, -, -, vstack, vgate, vline, vport, -⟩ := hevidence
  have vctl : v.ctl = s.ctl := vctl
  have hvself : v.self = s.self := congrArg Controller.number vctl
  have heffects : State.effectsOf n v = v.teardown true := by
    have hdeparted : v.evictEffects n.sender ub = v.departed v.self true :=
      evictEffects_departed (by rw [hvself]; exact hub) hsent (by simpa only [hvself] using howns)
    rw [State.effectsOf, hbody]
    exact hdeparted.trans (if_pos rfl)
  rw [hbody, heffects, teardown_of_closed (vstack.trans hstack) (by rw [vgate]; exact hclosed)] at hexec
  obtain ⟨w, hw⟩ : ∃ w, w = ((v.withTable TableUnit.clear).withTimer TimerUnit.clear).clearToReady := ⟨_, rfl⟩
  rw [← hw] at hexec
  have hwctl : w.ctl = { s.ctl with station := .ready, exhausted := false } := by rw [← vctl, hw]; rfl
  obtain ⟨tctl, ttable, ttimer, tsendq, tstack, tgate, tline, -⟩ :=
    w.raise_frame { kind := .evicted, subject := 0, grant := 0, detail := 0 }
  rw [State.finish_quiet (by rw [State.listening, tctl, hwctl]; rfl)] at hexec
  refine ⟨_, hexec, tctl.trans hwctl, ttable.trans (by rw [hw]; rfl), ttimer.trans (by rw [hw]; rfl),
    tsendq.trans (by rw [hw]; rfl), tstack.trans ?_, tgate.trans ?_, ?_, ?_⟩
  · rw [hw]
    exact vstack.trans hstack
  · rw [hw]
    exact vgate
  · rw [tline, hw]
    rfl
  · refine State.raise_port_congr (s := w) (t := s) ?_ _
    rw [hw]
    exact vport

/-! ## A peer's notice -/

theorem joinerView_of_not_found {n : Notice} (hfound : ∀ p, n.body ≠ .found p) (members : Vector MemberRecord 16)
    (b b' : Bool) : joinerView members b n = joinerView members b' n := by
  obtain ⟨u, body⟩ := n
  cases body with
  | found p => exact absurd rfl (hfound p)
  | join | sync | leave | evict | image | claim | release | withdraw | lapse | renew | presence => rfl

/-- What the notice shows of its sender, and then its effects, make of the membership table (R41). -/
theorem evidence_view {s : State} {n : Notice} (hst : s.ctl.station = .joining)
    (hsender : n.sender ≠ s.self ∨ ∃ valid digest, n.body = .presence valid digest) {view : Vector MemberRecord 16}
    (hshown : ShowsMember s n → view = gainedView s n.sender) (hsilent : ¬ShowsMember s n → view = s.table.members) :
    joinerView (s.evidence n).table.members false n = joinerView view s.table.bank.isNone n := by
  by_cases hfound : ∃ p, n.body = .found p
  · obtain ⟨p, hbody⟩ := hfound
    obtain ⟨u, body⟩ := n
    cases hbody
    have hu : u ≠ s.self := hsender.resolve_right nofun
    have hmembers : view = s.table.members := hsilent fun h => h.2.2.2.2.1 p rfl
    have hprovisional : s.provisional = s.table.bank.isNone := by rw [State.provisional, hst]; rfl
    have hplain : joinerView (s.evidence { sender := u, body := .found p }).table.members false
        { sender := u, body := .found p } = (s.evidence { sender := u, body := .found p }).table.members := by
      unfold joinerView
      exact if_neg fun h => Bool.noConfusion h.1
    rw [hplain, hmembers, State.evidence_found, hprovisional, decide_eq_false hu, Bool.or_false]
    unfold joinerView
    dsimp only
    cases s.table.bank.isNone with
    | false => exact (if_neg fun h => Bool.noConfusion h.1).symm
    | true =>
      have habsent : (s.recordOfStation u).isAbsent = true ↔ s.table.members[u] = .absent := MemberRecord.isAbsent_iff _
      simp only [Bool.not_true, Bool.false_eq_true, if_false, true_and, habsent]
      split
      · rfl
      · rfl
  · have hnot (p : Params) : n.body ≠ .found p := fun hp => hfound ⟨p, hp⟩
    obtain ⟨hgained, hkept, -⟩ := evidence_spec hst hnot
    rw [joinerView_of_not_found hnot _ false s.table.bank.isNone]
    by_cases hshows : ShowsMember s n
    · rw [hgained hshows, hshown hshows]
    · rw [hkept hshows, hsilent hshows]

/-- The waits after the evidence: a found wait gives way to the image wait as a source becomes recorded (R63). -/
theorem evidence_waits {s : State} {n : Notice} (hst : s.ctl.station = .joining) :
    let v := s.evidence n
    (ShowsMember s n ∧ FoundWaits s →
      v.timer.foundWait = .stopped ∧ v.timer.imageWait = .running s.ctl.proposed.imageWaitMs) ∧
    (¬(ShowsMember s n ∧ FoundWaits s) →
      v.timer.foundWait = s.timer.foundWait ∧ v.timer.imageWait = s.timer.imageWait) := by
  intro v
  by_cases hfound : ∃ p, n.body = .found p
  · obtain ⟨p, hbody⟩ := hfound
    have htimer : v.timer = s.timer := by
      obtain ⟨u, body⟩ := n
      cases hbody
      show (s.evidence { sender := u, body := .found p }).timer = _
      rw [State.evidence_found]
      split
      · rfl
      · split <;> rfl
    exact ⟨fun h => absurd hbody (h.1.2.2.2.2.1 p), fun _ => ⟨by rw [htimer], by rw [htimer]⟩⟩
  · exact (evidence_spec hst fun p hp => hfound ⟨p, hp⟩).2.2

/-- A joiner that the statement speaks of takes the notice, after its evidence, from a peer. -/
theorem fromPeer_evidence {s : State} {n : Notice} (hst : s.ctl.station = .joining)
    (hown : s.table.members[s.self].isMember = false)
    (hsender : n.sender ≠ s.self ∨ ∃ valid digest, n.body = .presence valid digest)
    (himage : ∀ a last content, n.body ≠ .image s.self a last content)
    (hfound : ∀ p, n.body = .found p → ∃ q : Station, s.table.members[q].isMember = true)
    (hevict : ¬∃ ub : Byte, n.body = .evict ub ∧ ub.toNat = s.self.val ∧ s.table.members[s.self] ≠ .absent ∧
      (s.table.members[n.sender].isMember = true ∨ ShowsMember s n)) : FromPeer (s.evidence n) n := by
  have hself : (s.evidence n).self = s.self := congrArg Controller.number (s.evidence_frame n).1
  obtain ⟨hkind, habsent⟩ := evidence_own (n := n) hst
  refine ⟨?_, ?_, ?_, fun p hp => ?_, fun ub u hbody hub hu hcond => hevict ⟨ub, hbody, ?_, ?_, ?_⟩⟩
  · simpa only [hself] using hkind.trans hown
  · simpa only [hself] using hsender
  · simpa only [hself] using himage
  · obtain ⟨q, hq⟩ := hfound p hp
    rw [State.anyMember_iff]
    obtain ⟨u, body⟩ := n
    cases hp
    rw [State.evidence_found]
    split
    · exact ⟨q, hq⟩
    · split
      next habs =>
        have hne : q ≠ u := fun h => by
          rw [h, (MemberRecord.isAbsent_iff _).mp (show s.table.members[u].isAbsent = true from habs)] at hq
          cases hq
        refine ⟨q, ?_⟩
        have hset := (State.recordOfStation_setMember s u q (.joining (some { attempt := 0, source := none }))).trans
          (if_neg hne)
        exact (congrArg MemberRecord.isMember hset).trans hq
      next => exact ⟨q, hq⟩
  · rw [hub, hu, hself]
  · subst hu
    exact mt habsent.mpr (by simpa only [hself] using hcond.2)
  · exact (evidence_sender hst fun p hp => by rw [hbody] at hp; cases hp).mp hcond.1

end Sys2Proof.Machine

/-! PROOFS. O37: a joiner's application of a peer's notice, whole (R5, R41, R63, R134). -/

namespace Sys2Proof.Machine

open Sys2Proof.Safety

/-! ## The end of the application at a joiner -/

section
variable {s0 w : State} (hst : w.ctl.station = .joining) (hclosed : ∀ m : Fin 8, w.gate[m].opened = false)
include hst hclosed

theorem finish_at_joiner : (State.finish s0 w).gate = w.gate ∧ (State.finish s0 w).port = w.port :=
  State.finish_of_lawful s0 w fun m => by
    rw [hclosed m, State.gateCondition_of_not_member (by rw [hst]; nofun)]

end

/-- Once a record is MEMBER no FOUND stays queued (R134). -/
theorem no_found_after {s0 w : State} (hl : w.listening = true) (hany : w.anyMember = true) {f : QFrame}
    (hf : f ∈ (State.finish s0 w).sendq.frames) (hq : f.phase = .queued) (p : Params) : f.body ≠ .found p := by
  intro hb
  rcases State.mem_finish hl hf with ⟨-, hstale⟩ | hasked
  · refine hstale hq (.inl ?_)
    rw [hb]
    refine (State.anyMember_iff _).mpr ?_
    rw [(State.tested_frame s0 w).2.2.1]
    exact (State.anyMember_iff w).mp hany
  · rw [hb] at hasked
    exact hasked

/-! ## The entries (R5) -/

/-- An entry takes effects at a joiner where it is installed, the bank's parameters standing only with image-pending
state. -/
theorem takesEffects_at_joiner {s : State} (hst : s.ctl.station = .joining)
    (hbank : s.table.imagePending = none → s.table.bank = none) (r : Resource) :
    s.takesEffects r = true ↔ r.val < s.count ∧ ∃ ip, s.table.imagePending = some ip ∧ ip.installed[r] = true := by
  unfold State.takesEffects State.current
  rw [Bool.and_eq_true, decide_eq_true_iff, hst]
  refine and_congr_right fun _ => ?_
  dsimp only
  cases hip : s.table.imagePending with
  | none =>
    rw [hbank hip]
    exact ⟨nofun, nofun⟩
  | some ip => exact ⟨fun h => ⟨ip, rfl, h⟩, fun ⟨_, heq, h⟩ => by cases heq; exact h⟩

theorem bank_of_count {s : State} {r : Resource} (h : r.val < s.count) : s.table.bank ≠ none := fun hbank => by
  rw [State.count, hbank] at h
  exact absurd h (Nat.not_lt_zero _)

/-- The same station as a MEMBER. -/
def State.asMember (s : State) : State := { s with ctl := { s.ctl with station := .member } }

section
variable {s : State} {n : Notice} {rest : List Notice} (hr : s.ctl.inReset = false) (hst : s.ctl.station = .joining)
  (hin : s.line.inbound = n :: rest) (hbank : s.table.imagePending = none → s.table.bank = none)
  (hpeer : FromPeer ((s.takeNotice n rest).evidence n) n)
include hr hst hin hbank hpeer

/-- Each entry after the notice: as it was where it is not installed, and else as at a MEMBER. -/
theorem entries_after {t : State}
    (ht : t = State.finish (s.takeNotice n rest) (State.effectsOf n ((s.takeNotice n rest).evidence n))) :
    ∃ t', exec (rowOf n.body) s.asMember = .next t' ∧ ∀ r : Resource,
      let installed : Prop := r.val < s.count ∧ ∃ ip, s.table.imagePending = some ip ∧ ip.installed[r] = true
      (¬installed → SameAt r s t) ∧ (installed → SameAt r t' t) := by
  have hfinish (s0 w : State) (r : Resource) : SameAt r w (State.finish s0 w) :=
    ⟨State.finish_entry s0 w r, State.finish_countdown s0 w r⟩
  obtain ⟨j, hj⟩ : ∃ j, j = s.takeNotice n rest := ⟨_, rfl⟩
  obtain ⟨j', hj'⟩ : ∃ j', j' = s.asMember.takeNotice n rest := ⟨_, rfl⟩
  have hexec := exec_rowOf (s := s.asMember) hr rfl hin
  rw [← hj'] at hexec
  rw [← hj] at ht hpeer
  refine ⟨_, hexec, fun r => ?_⟩
  intro installed
  have htakes : s.takesEffects r = true ↔ installed := takesEffects_at_joiner hst hbank r
  have hjtakes : j.takesEffects r = s.takesEffects r := by rw [hj]; rfl
  have hsj : SameAt r s j := by rw [hj]; exact ⟨rfl, fun _ _ => rfl⟩
  obtain ⟨ectl, eentries, ebank, -, eip, ecountdowns, -⟩ := j.evidence_frame n
  rw [ht]
  refine ⟨fun hnot => ?_, fun hin => ?_⟩
  · have hnone : (j.evidence n).takesEffects r = false := by
      rw [takesEffects_congr ectl ebank eip, hjtakes]
      exact Bool.eq_false_iff.mpr (mt htakes.mp hnot)
    exact hsj.trans ((sameAt_of_eq r eentries ecountdowns).trans
      ((effectsOf_of_no_effects hpeer hnone).trans (hfinish _ _ r)))
  · have hsome : s.table.bank ≠ none := bank_of_count hin.1
    have hplain : j.evidence n = j := State.evidence_of_bank n (by rw [hj]; exact hsome)
    have hplain' : j'.evidence n = j' := State.evidence_of_bank n (by rw [hj']; exact hsome)
    have htakes' : j'.takesEffects r = true := takesEffects_inBank (by rw [hj']; rfl) (by rw [hj']; exact hin.1)
    have halike : Alike r j j' := by
      refine ⟨?_, ?_, htakes'.trans (hjtakes.trans (htakes.mpr hin)).symm, ?_⟩
      · rw [hj, hj']; rfl
      · rw [hj, hj']; rfl
      · rw [hj, hj']; exact ⟨rfl, fun _ _ => rfl⟩
    rw [hplain] at hpeer ⊢
    rw [hplain']
    have heffects := effectsOf_alike hpeer halike (by rw [hj, hj']; rfl)
    exact ((hfinish _ _ r).symm.trans heffects.symm).trans (hfinish _ _ r)

end

/-- Settles O37: this station's own EVICT by its teardown; any other notice by its evidence, its effects on the view and
on the entries, and the end of the application. -/
theorem joinerAppliesNotices : Obligations.JoinerAppliesNotices := by
  intro s n rest hr hst hin hstack hclosed hown hbank atSelf gained
  refine ⟨fun _ ⟨ub, hbody, hub, howns, hsender⟩ =>
    own_evict_applied hr hst hin hstack hclosed hbody hub howns hsender, fun hevict hsender himage hfound => ?_⟩
  have hl : s.listening = true := by rw [State.listening, hst]; rfl
  obtain ⟨view, hview⟩ : ∃ view, gained view := by
    by_cases hshows : ShowsMember s n
    · exact ⟨_, fun _ => rfl, fun h => absurd hshows h⟩
    · exact ⟨_, fun h => absurd h hshows, fun _ => rfl⟩
  have hpeer : FromPeer ((s.takeNotice n rest).evidence n) n :=
    fromPeer_evidence (s := s.takeNotice n rest) hst hown hsender himage hfound hevict
  have hmembers : joinerView ((s.takeNotice n rest).evidence n).table.members false n =
      joinerView view s.table.bank.isNone n :=
    evidence_view (s := s.takeNotice n rest) hst hsender hview.1 hview.2
  have hwaits := evidence_waits (s := s.takeNotice n rest) (n := n) hst
  have hevidence := (s.takeNotice n rest).evidence_frame n
  have hexec := exec_rowOf hr hl hin
  obtain ⟨t, ht⟩ : ∃ t, t = State.finish (s.takeNotice n rest)
    (State.effectsOf n ((s.takeNotice n rest).evidence n)) := ⟨_, rfl⟩
  obtain ⟨t', hexec', hentries⟩ := entries_after hr hst hin hbank hpeer ht
  rw [← ht] at hexec
  obtain ⟨v, hv⟩ : ∃ v, v = (s.takeNotice n rest).evidence n := ⟨_, rfl⟩
  rw [← hv] at ht hpeer hmembers hevidence
  simp only [← hv] at hwaits
  obtain ⟨vctl, -, vbank, -, vip, -, vpresence, -, vjoin, -, -, vstack, vgate, vline, vport, -⟩ := hevidence
  have hvst : v.ctl.station = .joining := (congrArg Controller.station vctl).trans hst
  obtain ⟨entries, countdowns, hw⟩ := effectsOf_becomes hpeer hvst (vstack.trans hstack)
  rw [hmembers] at hw
  obtain ⟨w, hweq⟩ : ∃ w, w = State.effectsOf n v := ⟨_, rfl⟩
  rw [← hweq] at ht hw
  have wctl : w.ctl = s.ctl := by rw [hw]; exact vctl
  have wgate : w.gate = s.gate := by rw [hw]; exact vgate
  have wmembers : w.table.members = joinerView view s.table.bank.isNone n := by rw [hw]
  have wtimer : w.timer.presence = s.timer.presence ∧ w.timer.joinWait = s.timer.joinWait ∧
      w.timer.foundWait = v.timer.foundWait ∧ w.timer.imageWait = v.timer.imageWait := by
    rw [hw]
    exact ⟨vpresence, vjoin, rfl, rfl⟩
  have hwst : w.ctl.station = .joining := by rw [wctl]; exact hst
  have hwl : w.listening = true := by rw [State.listening, hwst]; rfl
  obtain ⟨tctl, -, tmembers, tbank, tip, tstack, tline, -, tpresence, tjoin, tfound, -, timage, -⟩ :=
    State.finish_frame (s.takeNotice n rest) w
  obtain ⟨tgate, tport⟩ := finish_at_joiner (s0 := s.takeNotice n rest) hwst (by rw [wgate]; exact hclosed)
  rw [← ht] at tctl tmembers tbank tip tstack tline tpresence tjoin tfound timage tgate tport
  refine ⟨t, view, hexec, hview, tctl.trans wctl, tstack.trans ?_, tgate.trans wgate, tport.trans ?_, tbank.trans ?_,
    tip.trans ?_, tline.trans ?_, tmembers.trans wmembers, tpresence.trans wtimer.1, tjoin.trans wtimer.2.1, ?_, ?_,
    t', hexec', hentries⟩
  · rw [hw]
    exact vstack.trans hstack
  · rw [hw]
    exact vport
  · rw [hw]
    exact vbank
  · rw [hw]
    exact vip
  · rw [hw]
    exact vline
  · rw [tfound, timage, wtimer.2.2.1, wtimer.2.2.2]
    exact hwaits
  · intro hany f hf hq p
    rw [ht] at hf
    refine no_found_after hwl ((State.anyMember_iff w).mpr ?_) hf hq p
    rw [tmembers] at hany
    exact hany

end Sys2Proof.Machine
